-- ==== Sys2Proof/Word.lean ====
section
/-! DEFINITION. The line's byte and the units of time of 00_scope.md ("Numbers and units"). -/

namespace Sys2Proof

/-- One byte on the object line. -/
abbrev Byte := BitVec 8

/-- A train number: four characters, one per byte, the first character in the uppermost byte (R106, R204). -/
abbrev TrainNumber := BitVec 32

/-- Microseconds in a millisecond. -/
abbrev usPerMs : Nat := 1000

/-- Microseconds in a second. -/
abbrev usPerSecond : Nat := 1000000

/-- Microseconds in a minute. -/
abbrev usPerMinute : Nat := 60000000

/-- Milliseconds in a minute. -/
abbrev msPerMinute : Nat := 60000

/-- Milliseconds in an hour. -/
abbrev msPerHour : Nat := 3600000

/-- Milliseconds in a day. -/
abbrev msPerDay : Nat := 86400000

end Sys2Proof
end

