-- ==== Sys2Proof/Config.lean ====
section
/-! DEFINITION. The free values: what the manual leaves open and no proof may see.

"Where two events come together either may be taken first" (R17, R138, R151, R170, R171, R173, R181, R199): each of the two constants is
applied to the count of choices made so far (State's `clk.choices`), so that every choice is fresh. -/

namespace Sys2Proof

/-- FREE VALUE (entry 2). Which of several timed events that come due at one instant is taken first, for the n-th such choice. -/
opaque Config.raceChoice : Nat → Nat

/-- FREE VALUE (entry 4). Whether line A takes a time change announcement before line B (R173), for the n-th such choice. -/
opaque Config.lineAFirst : Nat → Bool

end Sys2Proof
end

