-- ==== Sys2Proof/Syntax.lean ====
section
/-! DEFINITION. The commands of the PD-416: one constructor of `Instr` per row of spec/opcode_table.json.

Payload fields are natural numbers of the widths of 11_telegram_and_record_formats.md; `WellFormed` checks the widths. -/

namespace Sys2Proof

/-- The two line ports (R1): the I-port faces the interlocking, the F-port the field. -/
inductive Port where
  | i | f
  deriving DecidableEq, Repr

/-- The manner in which an order reaches the ORH (R185): addressed to the node address, or to 4095. -/
inductive Manner where
  | unicast | broadcast
  deriving DecidableEq, Repr

/-- The two slave clock lines (R166). -/
inductive ClockLineName where
  | a | b
  deriving DecidableEq, Repr

/-- The sense of a clock line's current at the end of an impulse (R172): OK, OPEN, SHORT. -/
inductive Sense where
  | ok | openCircuit | shortCircuit
  deriving DecidableEq, Repr

/-- The RATE strap's two line rates (R1): 57,600 bit/s with RATE open, 230,400 bit/s with RATE tied low. -/
inductive LineRate where
  | r57600 | r230400
  deriving DecidableEq, Repr

/-- One entry of a TIMETABLE WRITE as its payload gives it (R204): train number, timing point, kind code, booked time B, day mask byte,
used byte. -/
structure RawEntry where
  train : TrainNumber
  point : Nat
  kind : Nat
  booked : Nat
  mask : Nat
  used : Nat
  deriving DecidableEq, Repr

/-- The commands, in the order of spec/opcode_table.json. -/
inductive Instr where
  /-- BYTE_ARRIVAL (R2): the byte `b` arrives at `port`. -/
  | byteArrival (port : Port) (b : Byte)
  /-- LINE_SILENT (R2): no byte has arrived at `port` for longer than the inter-byte limit. -/
  | lineSilent (port : Port)
  /-- TELEGRAM_NOT_INTERPRETED (R3): a telegram of these fields, with the check bytes received, is complete at `port`. -/
  | telegramNotInterpreted (port : Port) (kind address : Nat) (payload : List Byte) (check : Nat)
  /-- ROUND_OPEN (R9): a GOOD ROUND OPEN with this round number is complete at the I-port. -/
  | roundOpen (number : Nat)
  /-- ROUND_CLOSE (R10). -/
  | roundClose
  /-- LINE_RESET (R11). -/
  | lineReset
  /-- LOSS_EXPIRY (R13). -/
  | lossExpiry
  /-- PART_TELEGRAM_START (R16). -/
  | partTelegramStart
  /-- PART_TELEGRAM_END (R7): the part telegram in flight has gone out. -/
  | partTelegramEnd
  /-- COMMAND (R64): a GOOD COMMAND to `address` with `code`. -/
  | command (address code : Nat)
  /-- INDICATION (R65): a GOOD INDICATION of `address` with `code` and, in the long form, an age in ms. -/
  | indication (address code : Nat) (age : Option Nat)
  /-- MARK (R28): a rising edge at the MARK input. -/
  | mark
  /-- TRIM_CARRY (R22). -/
  | trimCarry
  /-- SLEW_TICK (R23). -/
  | slewTick
  /-- SEASON (R25). -/
  | season
  /-- HOLDOVER_EXPIRY (R36). -/
  | holdoverExpiry
  /-- HOLDOVER_LIMIT (R37). -/
  | holdoverLimit
  /-- SWEEP (R135). -/
  | sweep
  /-- LIMIT_EXPIRY (R93) of the movement record at `position`. -/
  | limitExpiry (position : Nat)
  /-- ABANDON_EXPIRY (R95) of the movement record at `position`. -/
  | abandonExpiry (position : Nat)
  /-- INTERVAL_BOUNDARY (R170) of a clock line. -/
  | intervalBoundary (line : ClockLineName)
  /-- SPACING_EXPIRY (R171) of a clock line. -/
  | spacingExpiry (line : ClockLineName)
  /-- IMPULSE_COMPLETION (R172) of a clock line, with the level of its sense input. -/
  | impulseCompletion (line : ClockLineName) (sense : Sense)
  /-- PROBE_EXPIRY (R176) of a clock line. -/
  | probeExpiry (line : ClockLineName)
  /-- TIME_MARK (R39): second N. -/
  | timeMark (manner : Manner) (second : Nat)
  /-- TIME_SET (R40). -/
  | timeSet (manner : Manner) (ms offset : Nat)
  /-- SEASON_CHANGE (R41). -/
  | seasonChange (manner : Manner) (offset minute : Nat)
  /-- CONFIG_WRITE (R190). -/
  | configWrite (manner : Manner) (parameter : Nat) (value : Int)
  /-- ELEMENT_WRITE (R59). -/
  | elementWrite (manner : Manner) (index address kind limit cls used : Nat)
  /-- POINT_WRITE (R61); `signal` is the two-byte field, 0FFFFh for absent (R205). -/
  | pointWrite (manner : Manner) (index sect edge signal threshold mode used : Nat)
  /-- TIMETABLE_WRITE (R123). -/
  | timetableWrite (manner : Manner) (first count : Nat) (entries : List RawEntry)
  /-- APPLY (R72): the scope code. -/
  | apply (manner : Manner) (scope : Nat)
  /-- OVERLAY_WRITE (R145). -/
  | overlayWrite (manner : Manner) (slot target action : Nat) (train : TrainNumber) (point booked mask : Nat)
  /-- OVERLAY_CLEAR (R144). -/
  | overlayClear (manner : Manner) (slot : Nat)
  /-- TRAIN_IDENT (R107). -/
  | trainIdent (manner : Manner) (point : Nat) (train : TrainNumber)
  /-- TRAIN_CANCEL (R110); `point` is the two-byte field, 0FFFFh for ALL (R205). -/
  | trainCancel (manner : Manner) (train : TrainNumber) (point : Nat)
  /-- JOURNAL_READ (R158): from record `start`, up to `count` records. -/
  | journalRead (manner : Manner) (start count : Nat)
  /-- TABLE_READ (R192). -/
  | tableRead (manner : Manner) (table selector index : Nat)
  /-- STATUS_READ (R193). -/
  | statusRead (manner : Manner)
  /-- CLOCK_LINE_SET_RUN (R178): a CLOCK LINE SET with run. -/
  | clockLineSetRun (manner : Manner) (line interval shown polarity : Nat)
  /-- CLOCK_LINE_SET_STOP (R179): a CLOCK LINE SET with stop; its other fields are not read. -/
  | clockLineSetStop (manner : Manner) (line : Nat)
  /-- RESTART (R194). -/
  | restart (manner : Manner)
  /-- ORDER_REFUSED_FORM (R185): an ORDER with this payload. -/
  | orderRefusedForm (manner : Manner) (payload : List Byte)
  /-- POWER_ON (R43): with the ADR0 to ADR3 straps and the RATE strap as read. -/
  | powerOn (straps : Nat) (rate : LineRate)
  /-- RELAYED_BYTE_SENT (R7): a relayed upstream byte has gone out of the I-port. -/
  | relayedByteSent
  deriving DecidableEq, Repr

end Sys2Proof
end

