-- ==== Sys2Proof/WellFormed.lean ====
section
/-! DEFINITION. Well-formed commands: every payload field within the width that 11_telegram_and_record_formats.md gives it, and the
row's own shape. A well-formed command is one the line or a pin can bring; `exec` answers for every command, well-formed or not. -/

namespace Sys2Proof

/-- A number fits in `bytes` bytes (R204). -/
abbrev fitsBytes (bytes n : Nat) : Bool := decide (n < 256 ^ bytes)

/-- A RawEntry's fields fit the widths of R204. -/
def RawEntry.wf (e : RawEntry) : Bool :=
  fitsBytes 1 e.point && fitsBytes 1 e.kind && fitsBytes 2 e.booked && fitsBytes 1 e.mask && fitsBytes 1 e.used

/-- The well-formedness check of a command. -/
def Instr.wf : Instr → Bool
  | .byteArrival _ _ => true
  | .lineSilent _ => true
  | .telegramNotInterpreted _ kind address payload check =>
      decide (kind < 16) && decide (address < 4096) && decide (payload.length ≤ 58) && fitsBytes 2 check
  | .roundOpen number => fitsBytes 1 number
  | .roundClose => true
  | .lineReset => true
  | .lossExpiry => true
  | .partTelegramStart => true
  | .partTelegramEnd => true
  | .command address code => decide (1 ≤ address) && decide (address ≤ 4095) && fitsBytes 1 code
  | .indication address code age =>
      decide (1 ≤ address) && decide (address ≤ 4095) && fitsBytes 1 code && (age.all fun a => fitsBytes 2 a)
  | .mark => true
  | .trimCarry => true
  | .slewTick => true
  | .season => true
  | .holdoverExpiry => true
  | .holdoverLimit => true
  | .sweep => true
  | .limitExpiry position => decide (position < 64)
  | .abandonExpiry position => decide (position < 64)
  | .intervalBoundary _ => true
  | .spacingExpiry _ => true
  | .impulseCompletion _ _ => true
  | .probeExpiry _ => true
  | .timeMark _ second => fitsBytes 5 second
  | .timeSet _ ms offset => fitsBytes 6 ms && fitsBytes 1 offset
  | .seasonChange _ offset minute => fitsBytes 1 offset && fitsBytes 4 minute
  | .configWrite _ parameter value =>
      fitsBytes 1 parameter && decide (-2147483648 ≤ value) && decide (value ≤ 2147483647)
  | .elementWrite _ index address kind limit cls used =>
      fitsBytes 2 index && fitsBytes 2 address && fitsBytes 1 kind && fitsBytes 2 limit && fitsBytes 1 cls && fitsBytes 1 used
  | .pointWrite _ index sect edge signal threshold mode used =>
      fitsBytes 1 index && fitsBytes 2 sect && fitsBytes 1 edge && fitsBytes 2 signal && fitsBytes 1 threshold &&
        fitsBytes 1 mode && fitsBytes 1 used
  | .timetableWrite _ first count entries =>
      fitsBytes 2 first && fitsBytes 1 count && (entries.all RawEntry.wf) &&
        (!(decide (1 ≤ count) && decide (count ≤ 4)) || decide (entries.length = count))
  | .apply _ scope => fitsBytes 1 scope
  | .overlayWrite _ slot target action _ point booked mask =>
      fitsBytes 1 slot && fitsBytes 2 target && fitsBytes 1 action && fitsBytes 1 point && fitsBytes 2 booked && fitsBytes 1 mask
  | .overlayClear _ slot => fitsBytes 1 slot
  | .trainIdent _ point _ => fitsBytes 1 point
  | .trainCancel _ _ point => fitsBytes 2 point
  | .journalRead _ start count => fitsBytes 4 start && fitsBytes 1 count
  | .tableRead _ table selector index => fitsBytes 1 table && fitsBytes 1 selector && fitsBytes 2 index
  | .statusRead _ => true
  | .clockLineSetRun _ line interval shown polarity =>
      fitsBytes 1 line && fitsBytes 1 interval && fitsBytes 2 shown && fitsBytes 1 polarity
  | .clockLineSetStop _ line => fitsBytes 1 line
  | .restart _ => true
  | .orderRefusedForm _ payload => decide (payload.length ≤ 58)
  | .powerOn straps _ => decide (straps < 16)
  | .relayedByteSent => true

end Sys2Proof
end

