-- ==== Sys2Proof/Machine/Params.lean ====
section
/-! DEFINITION. The 25 configuration parameters of R191: their ranges and defaults, and a named reading of each. -/

namespace Sys2Proof.Machine

/-- A parameter's row in the table of R191. -/
structure ParamRow where
  lo : Nat
  hi : Nat
  dflt : Nat
  deriving DecidableEq, Repr

/-- The table of R191, parameter 1 first. The lower bound of a T2 (12, 15, 18, 21) is the stored T1 of its set (R190) and stands here as 0. -/
def paramTable : List ParamRow :=
  [⟨1000, 2000000, 100000⟩, ⟨50, 5000, 500⟩, ⟨1, 1440, 240⟩, ⟨200, 10000, 2000⟩, ⟨0, 8, 2⟩,
   ⟨0, 10000, 3000⟩, ⟨0, 23, 2⟩, ⟨0, 180, 30⟩, ⟨0, 180, 120⟩,
   ⟨0, 600, 30⟩, ⟨0, 3600, 60⟩, ⟨0, 7200, 300⟩,
   ⟨0, 600, 30⟩, ⟨0, 3600, 60⟩, ⟨0, 7200, 300⟩,
   ⟨0, 600, 30⟩, ⟨0, 3600, 60⟩, ⟨0, 7200, 300⟩,
   ⟨0, 600, 30⟩, ⟨0, 3600, 60⟩, ⟨0, 7200, 300⟩,
   ⟨1000, 10000, 2000⟩, ⟨0, 120, 60⟩, ⟨10, 600, 60⟩, ⟨100, 2000, 500⟩]

/-- The configuration: the 25 stored values, parameter 1 first (R191). -/
abbrev Params := List Nat

/-- Every parameter at its default (R191). -/
def Params.defaults : Params := paramTable.map (·.dflt)

/-- The stored value of parameter `n`, 1..25. -/
def Params.value (c : Params) (n : Nat) : Nat := c.getD (n - 1) 0

/-- Parameter 1, the step limit Lstep, µs. -/
def Params.stepLimit (c : Params) : Nat := c.value 1
/-- Parameter 2, the lock window Lw, µs. -/
def Params.lockWindow (c : Params) : Nat := c.value 2
/-- Parameter 3, the holdover limit, min. -/
def Params.holdoverLimit (c : Params) : Nat := c.value 3
/-- Parameter 4, the loss timeout, ms. -/
def Params.lossTimeout (c : Params) : Nat := c.value 4
/-- Parameter 5, the allotment A. -/
def Params.allotment (c : Params) : Nat := c.value 5
/-- Parameter 6, the settle time, ms. -/
def Params.settleTime (c : Params) : Nat := c.value 6
/-- Parameter 7, H0, h. -/
def Params.h0 (c : Params) : Nat := c.value 7
/-- Parameter 8, the early limit Ew, min. -/
def Params.earlyLimit (c : Params) : Nat := c.value 8
/-- Parameter 9, the late limit Wl, min. -/
def Params.lateLimit (c : Params) : Nat := c.value 9
/-- Te of threshold set `set` (parameters 10, 13, 16, 19), s. -/
def Params.te (c : Params) (set : Nat) : Nat := c.value (10 + 3 * set)
/-- T1 of threshold set `set` (parameters 11, 14, 17, 20), s. -/
def Params.t1 (c : Params) (set : Nat) : Nat := c.value (11 + 3 * set)
/-- The effective T2 of threshold set `set`: the larger of the stored T2 (parameters 12, 15, 18, 21) and T1 (R130), s. -/
def Params.t2 (c : Params) (set : Nat) : Nat := max (c.value (12 + 3 * set)) (c.t1 set)
/-- Parameter 22, the catch-up spacing, ms. -/
def Params.catchUpSpacing (c : Params) : Nat := c.value 22
/-- Parameter 23, the hold limit, positions. -/
def Params.holdLimit (c : Params) : Nat := c.value 23
/-- Parameter 24, the probe period, s. -/
def Params.probePeriod (c : Params) : Nat := c.value 24
/-- Parameter 25, the pulse width, ms. -/
def Params.pulseWidth (c : Params) : Nat := c.value 25

/-- Whether parameter `n` is a T2, whose lower bound is the stored T1 of its set (R190). -/
def isT2 (n : Nat) : Bool := n == 12 || n == 15 || n == 18 || n == 21

/-- The lower bound in force for a write of parameter `n` (R190, R191). -/
def Params.lowerBound (c : Params) (n : Nat) : Nat :=
  if isT2 n then c.value (n - 1) else ((paramTable[n - 1]?).map (·.lo)).getD 0

/-- The upper bound of parameter `n` (R191). -/
def Params.upperBound (n : Nat) : Nat := ((paramTable[n - 1]?).map (·.hi)).getD 0

/-- The value taken for a write of `value` to parameter `n`: clamped to its range (R190). -/
def Params.clamp (c : Params) (n : Nat) (value : Int) : Nat :=
  (max (c.lowerBound n : Int) (min (Params.upperBound n : Int) value)).toNat

/-- The configuration after `taken` is stored as parameter `n`, 1..25. -/
def Params.store (c : Params) (n taken : Nat) : Params := c.set (n - 1) taken

end Sys2Proof.Machine
end

