-- ==== Sys2Proof/Machine/State.lean ====
section
/-! DEFINITION. The state of the PD-416: every piece of state the manual gives its ten blocks, as plain data, block by block, the queue of
commands that wait, and the values after power-on. A bank of a table is held as the canonical list of its used entries (entry 23). -/

namespace Sys2Proof.Machine

/-! ### Time and dates (02, 03) -/

/-- The quality classes of a date (R26). -/
inductive Quality where
  | a | b | c | u
  deriving DecidableEq, Repr

/-- A date (R47): standard time in whole ms since the start of day 0, the seasonal offset in min, and the quality class. -/
structure Date where
  ms : Nat
  season : Nat
  quality : Quality
  deriving DecidableEq, Repr

/-- The flags a record can carry: the four date flags of R57 and BAD CODE (R68). -/
structure Flags where
  aged : Bool := false
  ageSaturated : Bool := false
  outOfOrder : Bool := false
  precedesCommand : Bool := false
  badCode : Bool := false
  deriving DecidableEq, Repr

/-- An arrival capture (R44): RT, ST, S and the quality class at the recognition of a start byte. -/
structure Capture where
  rt : Nat
  st : Nat
  season : Nat
  quality : Quality
  deriving DecidableEq, Repr

/-- An RT with the date taken at it. -/
structure Instant where
  rt : Nat
  date : Date
  deriving DecidableEq, Repr

/-- An event instant (R50): event RT, event date and the date flags. -/
structure EventInstant where
  rt : Nat
  date : Date
  flags : Flags
  deriving DecidableEq, Repr

/-- The time states (02 "Time states and quality"). -/
inductive TimeState where
  | unset | free | acquire | locked | holdover
  deriving DecidableEq, Repr

/-- The cause of a TIME STATE record (R34, R36, R37). -/
inductive TimeCause where
  | goodMarks | outliers | markAccepted | noMark | holdoverLimit
  deriving DecidableEq, Repr

/-! ### Layout (04) -/

/-- The element kinds (R58). -/
inductive ElementKind where
  | point | signal | sect | other
  deriving DecidableEq, Repr

/-- The journal classes of an element (R67). -/
inductive JournalClass where
  | nothing | changes | all
  deriving DecidableEq, Repr

/-- A used entry of an element bank (R58). -/
structure Element where
  address : Nat
  kind : ElementKind
  limit : Nat
  cls : JournalClass
  deriving DecidableEq, Repr

/-- The trigger edges (R60) and section edges (R66). -/
inductive Edge where
  | occupy | clear
  deriving DecidableEq, Repr

/-- The report modes of a timing point (R60). -/
inductive ReportMode where
  | exception | each
  deriving DecidableEq, Repr

/-- A used point of a timing point bank (R60); `sect` and `signal` are element indexes. -/
structure TimingPoint where
  sect : Nat
  edge : Edge
  signal : Option Nat
  threshold : Nat
  mode : ReportMode
  deriving DecidableEq, Repr

/-- The states of a section (R62). -/
inductive SectionState where
  | clear | occupied | unknown
  deriving DecidableEq, Repr

/-- An element's state record (R62). The section fields are used for SECTION alone, the last proceed-proven instant for SIGNAL alone. -/
structure ElementState where
  lastCommand : Option Nat := none
  lastCommandAt : Option Instant := none
  lastBadCommand : Option Nat := none
  lastIndicated : Option Nat := none
  lastIndicationAt : Option EventInstant := none
  lastBadIndication : Option Nat := none
  sectionState : SectionState := .unknown
  sectionSince : Nat := 0
  proceedProven : Option Instant := none
  movement : Option Nat := none
  seen : Bool := false
  deriving DecidableEq, Repr

/-- A used entry of the active element bank with its state record at the same index (R62). -/
structure LiveElement where
  entry : Element
  state : ElementState
  deriving DecidableEq, Repr

/-- A timing point's PSD record (R105). -/
structure PointRecord where
  queue : List TrainNumber := []
  bounces : Nat := 0
  lastPassing : Option Instant := none
  deriving DecidableEq, Repr

/-- A used point of the active timing point bank with its PSD record at the same index (R105). -/
structure LivePoint where
  entry : TimingPoint
  record : PointRecord
  deriving DecidableEq, Repr

/-- The used entries of a staging bank, by strictly rising index; an index not listed is unused (entry 23). -/
abbrev Bank (α : Type) := List (Nat × α)

/-- The scope of an APPLY (R72). -/
inductive Scope where
  | layout | timetable | both
  deriving DecidableEq, Repr

/-- What made an armed APPLY take effect (R74, R75). -/
inductive ApplyTrigger where
  | roundOpen | lineLost | orderInLost
  deriving DecidableEq, Repr

/-- The table a failed APPLY names (R72). -/
inductive ApplyTable where
  | noTable | element | point | timetable | overlay
  deriving DecidableEq, Repr

/-- The reason of a failed APPLY (R72). -/
inductive ApplyReason where
  | prefixRule | addressOrder | link | bookedOrder | timingPoint | scope
  deriving DecidableEq, Repr

/-- The first failing check of an APPLY (R72). -/
structure ApplyFailure where
  table : ApplyTable
  index : Nat
  reason : ApplyReason
  deriving DecidableEq, Repr

/-! ### Movements (05) -/

/-- The states of an open movement record (R80). -/
inductive MovementPhase where
  | commanded | moving | clearing | replacing
  deriving DecidableEq, Repr

/-- An open movement record (R80). -/
structure Movement where
  element : Nat
  address : Nat
  kind : ElementKind
  target : Nat
  phase : MovementPhase
  start : Instant
  limit : Nat
  limitExpiry : Nat
  abandonExpiry : Nat
  overdue : Bool
  loss : Option Nat
  deriving DecidableEq, Repr

/-- The outcomes of a movement (R96). -/
inductive MovementOutcome where
  | complete | late | returned | fault | superseded | abandoned
  deriving DecidableEq, Repr

/-- The reasons of an abandonment (R96). -/
inductive AbandonReason where
  | noEnd | line | apply | restart
  deriving DecidableEq, Repr

/-- Why a command change is unsupervised (R86). -/
inductive UnsupervisedReason where
  | fault | full
  deriving DecidableEq, Repr

/-! ### Timetable (07) -/

/-- A used entry of a timetable bank (R122); `mask` has bit 0 for Monday through bit 6 for Sunday. -/
structure TimetableEntry where
  train : TrainNumber
  point : Nat
  kind : Nat
  booked : Nat
  mask : Nat
  deriving DecidableEq, Repr

/-- The stored status of an entry in a plane (R126). -/
inductive EntryStatus where
  | pending
  | matched (lateness : Int) (seq : Nat)
  | missed
  | void
  deriving DecidableEq, Repr

/-- A status plane (R126). -/
structure Plane where
  day : Int
  cursor : Nat
  status : List EntryStatus
  deriving DecidableEq, Repr

/-- The two planes (R126): `previous` is for the day before `current`'s. -/
structure Planes where
  current : Plane
  previous : Plane
  deriving DecidableEq, Repr

/-- Which plane. -/
inductive PlaneName where
  | current | previous
  deriving DecidableEq, Repr

/-- The action of an ACTIVE overlay slot (R142). -/
inductive OverlayAction where
  | replace (train : TrainNumber) (point booked mask : Nat)
  | cancel
  deriving DecidableEq, Repr

/-- The content of an ACTIVE overlay slot (R142). -/
structure OverlaySlot where
  target : Nat
  action : OverlayAction
  deriving DecidableEq, Repr

/-- The classes of a matched passing (R130), with the codes of R207. -/
inductive PassingClass where
  | early | rightTime | slightlyLate | late | unverified
  deriving DecidableEq, Repr

/-- The reason of an UNBOOKED passing (R132). -/
inductive UnbookedReason where
  | noCandidate | noPlanes
  deriving DecidableEq, Repr

/-- The result of a passing (R132, R115). -/
inductive PassingResult where
  | judged (cls : PassingClass)
  | unbooked (reason : UnbookedReason)
  | unidentified
  deriving DecidableEq, Repr

/-- The cause attributed to a late departure (R131). -/
inductive LateCause where
  | signal | train | unknown
  deriving DecidableEq, Repr

/-- The cause of a TIMETABLE RESET (R141). -/
inductive ResetCause where
  | firstTime | step | timeSet | apply
  deriving DecidableEq, Repr

/-- The cause of a time change announcement (R27). -/
inductive ChangeCause where
  | step | timeSet | season
  deriving DecidableEq, Repr

/-! ### Clock lines (09) -/

/-- The states of a clock line (R169). -/
inductive LineRun where
  | stopped | run | catchUp | hold | fault
  deriving DecidableEq, Repr

/-- The polarities of an impulse (R168). -/
inductive Polarity where
  | positive | negative
  deriving DecidableEq, Repr

/-- The kinds of impulse (R171, R176). -/
inductive ImpulseKind where
  | normal | probe
  deriving DecidableEq, Repr

/-- An impulse in flight (R171). -/
structure Impulse where
  kind : ImpulseKind
  polarity : Polarity
  startRt : Nat
  endRt : Nat
  deriving DecidableEq, Repr

/-- A CLOCK LINE SET as held (R180); the interval is in seconds. -/
inductive ClockSet where
  | run (interval shown : Nat) (polarity : Polarity)
  | stop
  deriving DecidableEq, Repr

/-- One Clock Line Driver's state (09, table at the head of the chapter). -/
structure ClockLine where
  state : LineRun := .stopped
  interval : Option Nat := none
  shown : Option Nat := none
  polarity : Option Polarity := none
  wanted : Bool := false
  flight : Option Impulse := none
  noted : Bool := false
  spacing : Option Nat := none
  probe : Option Nat := none
  lastSense : Option Sense := none
  pendingSet : Option ClockSet := none
  deriving DecidableEq, Repr

/-- The change a CLOCK LINE record names (R182). -/
inductive ClockChange where
  | set | state | fault | recovered
  deriving DecidableEq, Repr

/-! ### Journal records (08) -/

/-- The kind fields of a MOVEMENT END record (R98). -/
structure MovementEnd where
  address : Nat
  index : Nat
  kind : ElementKind
  position : Nat
  outcome : MovementOutcome
  reason : Option AbandonReason
  phase : MovementPhase
  target : Nat
  start : Date
  limit : Nat
  overdue : Bool
  total : Nat
  startDelay : Option Nat
  throwTime : Option Nat
  deriving DecidableEq, Repr

/-- The kind fields of a PASSING record (R115, R132). -/
structure Passing where
  point : Nat
  address : Nat
  index : Nat
  edge : Edge
  train : Option TrainNumber
  result : PassingResult
  span : Nat
  bounces : Nat
  layoutGeneration : Option Nat
  timetableGeneration : Option Nat
  planeDay : Option Int
  entry : Option Nat
  kind : Option Nat
  slot : Option Nat
  booked : Option Nat
  lateness : Option Int
  cause : Option LateCause
  signalOffset : Option Int
  deriving DecidableEq, Repr

/-- The kind fields of a CLOCK LINE record (R182). -/
structure ClockRecord where
  line : ClockLineName
  change : ClockChange
  before : LineRun
  after : LineRun
  interval : Option Nat
  shown : Option Nat
  polarity : Option Polarity
  target : Option Nat
  lag : Option Nat
  sense : Option Sense
  deriving DecidableEq, Repr

/-- A record's kind with its kind fields, in the order of the record kinds table (08 "Record kinds"). -/
inductive RecordBody where
  | movementEnd (m : MovementEnd)
  | movementOverdue (address index : Nat) (kind : ElementKind) (position target : Nat) (phase : MovementPhase) (start : Date)
      (limit : Nat) (startDelay : Option Nat)
  | movementUnsupervised (address index : Nat) (kind : ElementKind) (target : Nat) (lastIndicated : Option Nat)
      (reason : UnsupervisedReason)
  | timeStep (e : Int) (n : Nat) (labelled : Bool) (stBefore stAfter : Nat) (before after : TimeState)
  | timeSet (stBefore stAfter sBefore sAfter : Nat) (before : TimeState) (discarded : Bool)
  | markRejected (e : Int) (n : Nat) (labelled : Bool)
  | timeState (before after : TimeState) (cause : TimeCause) (good : Nat) (trim : Int)
  | season (old new : Nat)
  | timetableReset (cause : ResetCause) (generation h0 : Nat) (day : Int) (count pendingCurrent pendingPrevious discarded : Nat)
  | lineReset
  | lineLost (round : Option Nat) (timeout : Nat)
  | lineReturn (duration round : Nat)
  | apply (scope : Scope) (trigger : ApplyTrigger) (layoutGeneration timetableGeneration elements points elementsCarried
      pointsCarried : Nat)
  | config (parameter : Nat) (written : Int) (before taken : Nat)
  | clockLine (r : ClockRecord)
  | restartPower (node : Nat) (rate : LineRate)
  | restartOrder (armed : Option Scope) (movements trains reports : Nat) (replyHeld : Bool)
  | commandChange (address index : Nat) (kind : ElementKind) (old new : Option Nat)
  | indicationChange (address index : Nat) (kind : ElementKind) (old new : Option Nat)
  | passing (p : Passing)
  | missed (day : Int) (entry kind : Nat) (slot : Option Nat) (train : TrainNumber) (point booked : Nat) (windowEnd : Int)
      (generation : Nat)
  | unknownAddress (address : Nat) (command : Bool) (code : Nat)
  | expectationDropped (point address : Nat) (edge : Edge) (train : TrainNumber) (byApply : Bool)
  | roundGap (expected received : Nat)
  | indicationRepeat (address index : Nat) (kind : ElementKind) (old new : Option Nat)
  | bounce (point address index : Nat) (edge : Edge) (span settle : Nat)
  deriving DecidableEq, Repr

/-- The record classes (R155). -/
inductive RecordClass where
  | vital | traffic | minor
  deriving DecidableEq, Repr

/-- A journal record (R155); its class is a function of its kind. -/
structure Record where
  seq : Nat
  body : RecordBody
  date : Date
  flags : Flags
  deriving DecidableEq, Repr

/-! ### Reports and replies (10) -/

/-- The report kinds, in the order of their codes in R207. -/
inductive ReportKind where
  | movementFault | movementReturned | movementAbandonedNoEnd | clockLineFault | timeFree | movementOverdue
  | movementUnsupervised | timeStep | timeSet | lineLost | lineReturn | deviation | missed | unbooked | unidentified
  | unknownAddress | expectationDropped | duplicateIdent | applyDone | season | clockLineRecovered
  deriving DecidableEq, Repr

/-- A report's summary (R207). -/
inductive Summary where
  | ofRecord (body : RecordBody)
  | deviation (cls : PassingClass) (train : TrainNumber) (point : Nat) (lateness : Int) (cause : Option LateCause)
  | duplicate (point : Nat) (train : TrainNumber) (position : Nat)
  deriving DecidableEq, Repr

/-- A report (R195); `priority` is 0 ALARM, 1 WARNING, 2 NOTICE, 3 ROUTINE (R207). -/
structure Report where
  kind : ReportKind
  priority : Nat
  seq : Nat
  date : Date
  flags : Flags
  summary : Summary
  deriving DecidableEq, Repr

/-- The reasons of a refusal (R186). -/
inductive RefusalReason where
  | length | unknown | range | state
  | order (failure : ApplyFailure)
  deriving DecidableEq, Repr

/-- The header of a JOURNAL reply (R160). -/
structure JournalHeader where
  asked : Nat
  taken : Nat
  first : Option Nat
  delivered : Nat
  gap : Bool
  oldest : Nat
  newest : Nat
  unread : Nat
  minorRefusals : Nat
  deriving DecidableEq, Repr

/-- The entry copied into a TABLE reply (R192). -/
inductive TableEntry where
  | element (e : Option Element)
  | stagingPoint (p : Option TimingPoint)
  | activePoint (p : Option LivePoint)
  | timetable (e : Option TimetableEntry)
  | elementState (address : Nat) (kind : ElementKind) (st : ElementState)
  | plane (day : Int) (cursor : Nat) (status : EntryStatus) (slot : Option Nat)
  | overlay (s : Option OverlaySlot)
  | unknownAddress (address : Option Nat) (length : Nat)
  | movement (m : Option Movement)
  | clockLine (l : ClockLine)
  deriving DecidableEq, Repr

/-- The line states (R12). -/
inductive LineState where
  | starting | running | lost
  deriving DecidableEq, Repr

/-- The round phases (R9, R10). -/
inductive RoundPhase where
  | none | opened | closed
  deriving DecidableEq, Repr

/-- The content of a STATUS reply (R193), block by block. -/
structure Status where
  node : Nat
  rate : LineRate
  timeState : TimeState
  st : Nat
  season : Nat
  trim : Int
  slew : Int
  quality : Quality
  seasonScheduled : Bool
  lineState : LineState
  round : Option Nat
  phase : RoundPhase
  errorsI : Nat
  errorsF : Nat
  layoutGeneration : Nat
  elements : Nat
  points : Nat
  armed : Option Scope
  unknownCount : Nat
  unseen : Nat
  timetableGeneration : Nat
  timetableActive : Bool
  h0 : Nat
  planeDay : Option Int
  timetableCount : Nat
  movements : Nat
  stored : Nat
  unread : Nat
  newest : Nat
  minorRefusals : Nat
  reports : Nat
  discarded : Nat
  lineA : LineRun
  lineB : LineRun
  deriving DecidableEq, Repr

/-- A reply's content, as made when the order was taken (R188). -/
inductive ReplyContent where
  | refusal (reason : RefusalReason)
  | journal (header : JournalHeader) (records : List Record)
  | table (table selector index : Nat) (entry : TableEntry)
  | status (s : Status)
  deriving DecidableEq, Repr

/-- The reply in a FULL slot (R188); its kind, telegram count and GAP follow from the content. -/
structure Reply where
  code : Option Nat
  arrival : Date
  content : ReplyContent
  sent : Nat
  overrun : Bool
  deriving DecidableEq, Repr

/-! ### The line unit (01) -/

/-- The receiver states (R2). -/
inductive ReceiverState where
  | idle | noise | header | body | skip
  deriving DecidableEq, Repr

/-- A port's receiver: its state, its lag stage (R5), the bytes of the telegram in progress after its start byte, how many bytes BODY still
expects, whether R6 consumes the telegram, and whether it has lost a byte to overflow (R7). -/
structure Receiver where
  state : ReceiverState := .idle
  lag : List Byte := []
  frame : List Byte := []
  remaining : Nat := 0
  consumed : Bool := false
  cut : Bool := false
  deriving DecidableEq, Repr

/-- The upstream turn (R15). -/
inductive Turn where
  | closed
  | opened (allotment sent : Nat)
  deriving DecidableEq, Repr

/-- The I-port transmitter (R17): idle; sending relayed bytes, those given straight to it standing in `direct` until they have gone out;
or sending a part telegram, `ofSlot` when it is a telegram of the reply now in the slot. -/
inductive Transmitter where
  | idle
  | relaying (direct : List Byte)
  | part (bytes : List Byte) (ofSlot : Bool)
  deriving DecidableEq, Repr

/-! ### The blocks -/

/-- The plain connections that are read as levels: the sense inputs SNA and SNB (R172). -/
structure Pins where
  senseA : Sense
  senseB : Sense
  deriving DecidableEq, Repr

/-- The Line Interface Unit (01). `iOut` and `fOut` are the bytes that have gone out of the two ports, oldest first (entry 10). -/
structure Liu where
  node : Nat
  rate : LineRate
  rxI : Receiver := {}
  rxF : Receiver := {}
  holdBuffer : List Byte := []
  errorsI : Nat := 0
  errorsF : Nat := 0
  lineState : LineState := .starting
  phase : RoundPhase := .none
  round : Option Nat := none
  lossExpiry : Option Nat := none
  lastOpenRt : Option Nat := none
  lostRt : Option Nat := none
  turn : Turn := .closed
  tx : Transmitter := .idle
  iOut : List Byte := []
  fOut : List Byte := []
  deriving DecidableEq, Repr

/-- The Dating Unit (03): the arrival capture of each port. -/
structure Dtu where
  capI : Option Capture := none
  capF : Option Capture := none
  deriving DecidableEq, Repr

/-- The Time Base Unit (02). `label` is second N with the RT at which it was taken; `scheduled` is the new offset with its ST minute. -/
structure Tbu where
  rt : Nat := 0
  st : Nat := 0
  trim : Int := 0
  accumulator : Nat := 0
  slew : Int := 0
  slewPhase : Nat := 0
  timeState : TimeState := .unset
  good : Nat := 0
  outliers : Nat := 0
  prevAccepted : Bool := false
  prevSlew : Int := 0
  label : Option (Nat × Nat) := none
  stepLimit : Nat := 100000
  lockWindow : Nat := 500
  holdoverExpiry : Option Nat := none
  holdoverEntry : Option Nat := none
  season : Nat := 0
  scheduled : Option (Nat × Nat) := none
  deriving DecidableEq, Repr

/-- The Layout Store (04). The active timing point bank stands with its PSD records in `Psd.points`. -/
structure Lys where
  stagingElements : Bank Element := []
  stagingPoints : Bank TimingPoint := []
  elements : List LiveElement := []
  unknown : List Nat := []
  generation : Nat := 0
  armed : Option Scope := none
  deriving DecidableEq, Repr

/-- The Movement Supervisor (05): the 64 positions of the movement table. -/
structure Mvs where
  table : List (Option Movement) := List.replicate 64 none
  deriving DecidableEq, Repr

/-- The Passing Detector (06): the used points of the active timing point bank, each with its record. -/
structure Psd where
  points : List LivePoint := []
  deriving DecidableEq, Repr

/-- The Timetable Checker (07). -/
structure Ttc where
  staging : Bank TimetableEntry := []
  entries : List TimetableEntry := []
  active : Bool := false
  generation : Nat := 0
  h0 : Nat := 2
  planes : Option Planes := none
  overlay : List (Option OverlaySlot) := List.replicate 64 none
  deriving DecidableEq, Repr

/-- The Event Journal (08): the stored records, NEWEST first, the next sequence number, the read mark, the minor-refusal count. -/
structure Evj where
  ring : List Record
  next : Nat
  readMark : Nat
  minorRefusals : Nat
  deriving DecidableEq, Repr

/-- The two Clock Line Drivers (09). -/
structure Cld where
  a : ClockLine := {}
  b : ClockLine := {}
  deriving DecidableEq, Repr

/-- The Order Handler with the Report Queue (10): the head of the queue stands first. -/
structure Orh where
  slot : Option Reply := none
  reports : List Report := []
  discarded : Nat := 0
  params : Params := Params.defaults
  deriving DecidableEq, Repr

/-- The model's own fields: ST as the present microsecond of RT began and as its advance has brought it, what of this microsecond's whole-second
and interval events has been taken (entry 25), and the count of free choices made (entries 2 and 4). -/
structure Clk where
  stMark : Nat := 0
  stReached : Nat := 0
  sweepTaken : Bool := false
  boundaryTakenA : Bool := false
  boundaryTakenB : Bool := false
  choices : Nat := 0
  deriving DecidableEq, Repr

/-- The whole state of the part, with the queue of the commands that wait, first in, first out. -/
structure State where
  pins : Pins
  liu : Liu
  dtu : Dtu
  tbu : Tbu
  lys : Lys
  mvs : Mvs
  psd : Psd
  ttc : Ttc
  evj : Evj
  cld : Cld
  orh : Orh
  clk : Clk
  pending : List Instr
  deriving DecidableEq, Repr

/-! ### The update of one block -/

def State.onPins (s : State) (f : Pins → Pins) : State := { s with pins := f s.pins }
def State.onLiu (s : State) (f : Liu → Liu) : State := { s with liu := f s.liu }
def State.onDtu (s : State) (f : Dtu → Dtu) : State := { s with dtu := f s.dtu }
def State.onTbu (s : State) (f : Tbu → Tbu) : State := { s with tbu := f s.tbu }
def State.onLys (s : State) (f : Lys → Lys) : State := { s with lys := f s.lys }
def State.onMvs (s : State) (f : Mvs → Mvs) : State := { s with mvs := f s.mvs }
def State.onPsd (s : State) (f : Psd → Psd) : State := { s with psd := f s.psd }
def State.onTtc (s : State) (f : Ttc → Ttc) : State := { s with ttc := f s.ttc }
def State.onEvj (s : State) (f : Evj → Evj) : State := { s with evj := f s.evj }
def State.onCld (s : State) (f : Cld → Cld) : State := { s with cld := f s.cld }
def State.onOrh (s : State) (f : Orh → Orh) : State := { s with orh := f s.orh }
def State.onClk (s : State) (f : Clk → Clk) : State := { s with clk := f s.clk }

/-! ### Reasons to stop -/

/-- The reasons a step can fault. There is none: no rule of the manual stops the part (INVENTORY.md "Faults"), so no command raises a fault. -/
inductive Fault where
  deriving DecidableEq, Repr

/-- The reasons a step can be refused. -/
inductive Refusal where
  /-- The command has no meaning in the model yet. Raised by an arm of `exec` alone, never by a meaning. Safe: the model stops where the
  part goes on. -/
  | notModelled (mnemonic : String)
  deriving DecidableEq, Repr

/-! ### Power-on -/

/-- The RESTART (POWER) record, the first of the journal (R162): dated day 0, 00:00:00.000, S 0, quality U. -/
def restartPowerRecord (node : Nat) (rate : LineRate) : Record :=
  { seq := 1, body := .restartPower node rate, date := { ms := 0, season := 0, quality := .u }, flags := {} }

/-- The state right after power-on with these straps read (R1, R18, R43, R78, R103, R105, R147, R162, R184, R198), with nothing waiting. -/
def State.atPowerOn (straps : Nat) (rate : LineRate) (pins : Pins) : State where
  pins := pins
  liu := { node := 4064 + straps, rate := rate }
  dtu := {}
  tbu := {}
  lys := {}
  mvs := {}
  psd := {}
  ttc := {}
  evj := { ring := [restartPowerRecord (4064 + straps) rate], next := 2, readMark := 0, minorRefusals := 0 }
  cld := {}
  orh := {}
  clk := {}
  pending := []

/-- The machine right after reset: power-on. DESIGN CHOICE (entries 8 and 9): the ADR straps read 0, RATE is open, and both sense inputs
stand at OPEN. -/
def State.reset : State := State.atPowerOn 0 .r57600 { senseA := .openCircuit, senseB := .openCircuit }

end Sys2Proof.Machine
end

