-- ==== Sys2Proof/Machine/Operands.lean ====
section
/-! DEFINITION. The operand forms: numbers as bytes on the line (R202, R204), the choice codes (R204), train numbers (R106), day masks
(R205), and the checks an owner makes on a field before it takes an order. -/

namespace Sys2Proof.Machine

/-! ### Numbers on the line -/

/-- The number that bytes spell, the most significant byte first (R202). -/
def ofBytes (bs : List Byte) : Nat := bs.foldl (fun n b => n * 256 + b.toNat) 0

/-- The `width` bytes of a number, the most significant byte first (R202). DESIGN CHOICE (entry 29): a number too large for its field is sent by
its low bits. -/
def toBytes : Nat → Nat → List Byte
  | 0, _ => []
  | width + 1, n => BitVec.ofNat 8 (n / 256 ^ width) :: toBytes width n

/-- The `width` bytes of a signed number in two's complement (R202). -/
def toBytesSigned (width : Nat) (v : Int) : List Byte := toBytes width (v % (256 ^ width : Nat)).toNat

/-- The absent form of an unsigned field: all ones (R209). -/
def absentBytes (width : Nat) : List Byte := List.replicate width 0xFF#8

/-- The absent form of a signed field: its most negative value (R209). -/
def absentSigned (width : Nat) : List Byte := toBytes width (256 ^ width / 2)

/-- An unsigned field that may be absent (R209). -/
def optBytes (width : Nat) : Option Nat → List Byte
  | some n => toBytes width n
  | none => absentBytes width

/-- A signed field that may be absent (R209). -/
def optSigned (width : Nat) : Option Int → List Byte
  | some v => toBytesSigned width v
  | none => absentSigned width

/-- The signed value of `width` bytes read as `n` (R202). -/
def signedOf (width n : Nat) : Int := if n < 256 ^ width / 2 then n else (n : Int) - (256 ^ width : Nat)

/-! ### Choice codes (R204) -/

/-- The element kind of a code. -/
def elementKindOf : Nat → Option ElementKind
  | 0 => some .point
  | 1 => some .signal
  | 2 => some .sect
  | 3 => some .other
  | _ => none

/-- The code of an element kind. -/
def ElementKind.code : ElementKind → Nat
  | .point => 0
  | .signal => 1
  | .sect => 2
  | .other => 3

/-- The journal class of a code. -/
def journalClassOf : Nat → Option JournalClass
  | 0 => some .nothing
  | 1 => some .changes
  | 2 => some .all
  | _ => none

/-- The code of a journal class. -/
def JournalClass.code : JournalClass → Nat
  | .nothing => 0
  | .changes => 1
  | .all => 2

/-- The trigger edge of a code. -/
def edgeOf : Nat → Option Edge
  | 0 => some .occupy
  | 1 => some .clear
  | _ => none

/-- The code of an edge. -/
def Edge.code : Edge → Nat
  | .occupy => 0
  | .clear => 1

/-- The report mode of a code. -/
def reportModeOf : Nat → Option ReportMode
  | 0 => some .exception
  | 1 => some .each
  | _ => none

/-- The code of a report mode. -/
def ReportMode.code : ReportMode → Nat
  | .exception => 0
  | .each => 1

/-- The APPLY scope of a code. -/
def scopeOf : Nat → Option Scope
  | 1 => some .layout
  | 2 => some .timetable
  | 3 => some .both
  | _ => none

/-- The code of an armed APPLY state: 0 for DISARMED. -/
def scopeCode : Option Scope → Nat
  | none => 0
  | some .layout => 1
  | some .timetable => 2
  | some .both => 3

/-- The clock line of a code. -/
def clockLineOf : Nat → Option ClockLineName
  | 0 => some .a
  | 1 => some .b
  | _ => none

/-- The code of a clock line. -/
def clockLineCode : ClockLineName → Nat
  | .a => 0
  | .b => 1

/-- The polarity of a code. -/
def polarityOf : Nat → Option Polarity
  | 0 => some .positive
  | 1 => some .negative
  | _ => none

/-- The code of a polarity. -/
def Polarity.code : Polarity → Nat
  | .positive => 0
  | .negative => 1

/-- The code of a line rate: bit 7 of a header date (R204). DESIGN CHOICE (entry 20): as a field of its own it is one byte with this code. -/
def rateCode : LineRate → Nat
  | .r57600 => 0
  | .r230400 => 1

/-- The value of a used or yes/no byte; none where it is neither (R205). -/
def yesNoOf : Nat → Option Bool
  | 0 => some false
  | 1 => some true
  | _ => none

/-- The code of yes or no. -/
def yesNo (b : Bool) : Nat := if b then 1 else 0

/-! ### Fields an owner checks -/

/-- A character of a train number: 0 to 9 or A to Z (R106, R204). -/
def isTrainChar (c : Nat) : Bool := (decide (48 ≤ c) && decide (c ≤ 57)) || (decide (65 ≤ c) && decide (c ≤ 90))

/-- A train number whose four characters are each a digit or a capital letter (R106). -/
def trainOk (t : TrainNumber) : Bool :=
  isTrainChar (t.toNat / 16777216 % 256) && isTrainChar (t.toNat / 65536 % 256) &&
    isTrainChar (t.toNat / 256 % 256) && isTrainChar (t.toNat % 256)

/-- A day mask: bits 0 to 6 not all 0, and bit 7 clear (R122, R205). -/
def maskOk (mask : Nat) : Bool := decide (1 ≤ mask) && decide (mask ≤ 127)

/-- Whether a day mask holds a weekday, 0 for Monday through 6 for Sunday (R125, R204). -/
def maskHas (mask : Nat) (weekday : Int) : Bool := mask.testBit weekday.toNat

/-- The starting signal of POINT WRITE: 0FFFFh is absent (R205). -/
def signalOf (field : Nat) : Option Nat := if field = 65535 then none else some field

/-- The codes valid for a COMMAND to an element of this kind (R63). -/
def commandCodeOk (kind : ElementKind) (code : Nat) : Bool :=
  match kind with
  | .point => code == 1 || code == 2
  | .signal => decide (code ≤ 14)
  | .sect => decide (code ≤ 15)
  | .other => decide (code ≤ 15)

/-- The codes valid for an INDICATION of an element of this kind (R63). -/
def indicationCodeOk (kind : ElementKind) (code : Nat) : Bool :=
  match kind with
  | .point => decide (code ≤ 3)
  | .signal => decide (code ≤ 15)
  | .sect => decide (code ≤ 2)
  | .other => decide (code ≤ 15)

/-- The state a valid section code states (R66): CLEAR, OCCUPIED, and UNKNOWN for DISTURBED. -/
def sectionStateOf : Nat → SectionState
  | 0 => .clear
  | 1 => .occupied
  | _ => .unknown

/-- The edge that a change of section state is, if it is one (R66). -/
def edgeBetween : SectionState → SectionState → Option Edge
  | .clear, .occupied => some .occupy
  | .occupied, .clear => some .clear
  | _, _ => none

/-- The movement limit stored by ELEMENT WRITE: clamped to the kind's range, 0 for SECTION and OTHER (R58, R59). -/
def clampLimit (kind : ElementKind) (limit : Nat) : Nat :=
  match kind with
  | .point => max 500 (min 30000 limit)
  | .signal => max 100 (min 10000 limit)
  | .sect => 0
  | .other => 0

/-! ### Sparse banks (entry 23) -/

/-- The used entry of a bank at an index. -/
def Bank.get? {α : Type} : Bank α → Nat → Option α
  | [], _ => none
  | (j, v) :: rest, i => if i = j then some v else Bank.get? rest i

/-- The bank with an entry made used at an index. -/
def Bank.put {α : Type} : Bank α → Nat → α → Bank α
  | [], i, v => [(i, v)]
  | (j, w) :: rest, i, v =>
      if i < j then (i, v) :: (j, w) :: rest
      else if i = j then (i, v) :: rest
      else (j, w) :: Bank.put rest i v

/-- The bank with an entry made unused. -/
def Bank.remove {α : Type} (b : Bank α) (i : Nat) : Bank α := b.filter fun e => e.1 != i

/-- The canonical form of a bank: indexes strictly rising, each below the bank's size. -/
def Bank.wf {α : Type} (size : Nat) : Bank α → Bool
  | [] => true
  | (i, _) :: rest => decide (i < size) && (rest.all fun e => decide (i < e.1)) && Bank.wf size rest

/-- The used entries of a bank in index order. -/
def Bank.values {α : Type} (b : Bank α) : List α := b.map (·.2)

end Sys2Proof.Machine
end

