-- ==== Sys2Proof/Machine/Flags.lean ====
section
/-! DEFINITION. Event instants and the date flags (R49 to R57), and the class and date bytes of a record's flags. -/

namespace Sys2Proof.Machine

/-- The date of an ST value with a seasonal offset and a quality class (R47). -/
def dateOf (st season : Nat) (quality : Quality) : Date := { ms := st / 1000, season := season, quality := quality }

/-- The day of a date (R47). -/
def Date.day (d : Date) : Nat := d.ms / msPerDay

/-- The ms of day of a date (R47). -/
def Date.msOfDay (d : Date) : Nat := d.ms % msPerDay

/-- The civil time of a date in ms (R125). -/
def Date.ctMs (d : Date) : Nat := d.ms + d.season * msPerMinute

/-- The date of a capture. -/
def Capture.date (c : Capture) : Date := dateOf c.st c.season c.quality

/-- A capture as an instant: its RT and its date. The event instant of a COMMAND is this (R49). -/
def Capture.instant (c : Capture) : Instant := { rt := c.rt, date := c.date }

/-- The instant of an event instant, without its flags. -/
def EventInstant.instant (e : EventInstant) : Instant := { rt := e.rt, date := e.date }

/-- The age in ms that an age field states (R51): 4,095 or more is taken as 4,095. -/
def takenAge (field : Nat) : Nat := min field 4095

/-- The flags of an age field (R50, R51): none without one. -/
def ageFlags : Option Nat → Flags
  | none => {}
  | some field => { aged := true, ageSaturated := decide (4095 ≤ field) }

/-- The event instant of an INDICATION (R50, R52): the capture set back by the age, RT and ST each clamped at 0. -/
def eventInstant (c : Capture) (age : Option Nat) : EventInstant :=
  let back := (age.map takenAge).getD 0 * usPerMs
  { rt := c.rt - back, date := dateOf (c.st - back) c.season c.quality, flags := ageFlags age }

/-- Whether an indication is OUT OF ORDER against the element's last indication instant (R53). -/
def outOfOrder (last : Option EventInstant) (rt : Nat) : Bool :=
  match last with
  | some l => decide (rt < l.rt)
  | none => false

/-- An event instant judged for order (R53). -/
def EventInstant.judged (e : EventInstant) (last : Option EventInstant) : EventInstant :=
  { e with flags := { e.flags with outOfOrder := outOfOrder last e.rt } }

/-- A duration in whole ms: the difference of two RT values, floored, a negative difference taken as 0 (R55). -/
def durationMs (later earlier : Nat) : Nat := (later - earlier) / 1000

/-- Whether a movement's end or loss RT lies before its start RT (R56). -/
def precedesCommand (start endRt : Nat) (loss : Option Nat) : Bool :=
  decide (endRt < start) || (match loss with | some l => decide (l < start) | none => false)

/-- The code of a quality class in a date's last byte (R204). -/
def Quality.code : Quality → Nat
  | .a => 0
  | .b => 1
  | .c => 2
  | .u => 3

/-- Bits 0 to 6 of a date's last byte: the quality class and the flags (R204). -/
def qualityFlagsByte (q : Quality) (f : Flags) : Nat :=
  q.code + 4 * yesNo f.aged + 8 * yesNo f.ageSaturated + 16 * yesNo f.outOfOrder + 32 * yesNo f.precedesCommand +
    64 * yesNo f.badCode

end Sys2Proof.Machine
end

