-- ==== Sys2Proof/Machine/Ops.lean ====
section
/-! DEFINITION. The named operations that every block uses: reading the time, taking and resolving a capture, writing a journal record,
raising a report, filling the reply slot, reaching one element, one port and one clock line. -/

namespace Sys2Proof.Machine

/-! ### Reading the time -/

/-- The quality class a date takes at this instant (R26). -/
def State.quality (s : State) : Quality :=
  match s.tbu.timeState with
  | .unset => .u
  | .free => .c
  | .acquire => .b
  | .locked => .a
  | .holdover =>
      match s.tbu.holdoverEntry with
      | some entry => if s.tbu.rt - entry ≤ 900000000 then .b else .c
      | none => .c

/-- The date of this instant (R24, R48 "instant taken"). -/
def State.now (s : State) : Date := dateOf s.tbu.st s.tbu.season s.quality

/-- This instant: RT and date. -/
def State.nowInstant (s : State) : Instant := { rt := s.tbu.rt, date := s.now }

/-- The civil time of this instant in ms (R125). -/
def State.ctMs (s : State) : Nat := s.tbu.st / 1000 + s.tbu.season * msPerMinute

/-- The capture that a start byte recognised at this instant takes (R44). -/
def State.captureNow (s : State) : Capture :=
  { rt := s.tbu.rt, st := s.tbu.st, season := s.tbu.season, quality := s.quality }

/-! ### Ports, elements, clock lines -/

/-- A port's receiver. -/
def State.rx (s : State) : Port → Receiver
  | .i => s.liu.rxI
  | .f => s.liu.rxF

/-- A port's receiver updated. -/
def State.onRx (s : State) (p : Port) (f : Receiver → Receiver) : State :=
  match p with
  | .i => s.onLiu fun l => { l with rxI := f l.rxI }
  | .f => s.onLiu fun l => { l with rxF := f l.rxF }

/-- A count that stays at 65,535 once there (R4, R197). -/
def countUp (n : Nat) : Nat := min (n + 1) 65535

/-- A port's line error count risen by 1 (R4). -/
def State.lineError (s : State) (p : Port) : State :=
  match p with
  | .i => s.onLiu fun l => { l with errorsI := countUp l.errorsI }
  | .f => s.onLiu fun l => { l with errorsF := countUp l.errorsF }

/-- A port's arrival capture. -/
def State.capture (s : State) : Port → Option Capture
  | .i => s.dtu.capI
  | .f => s.dtu.capF

/-- A port's arrival capture set. -/
def State.setCapture (s : State) (p : Port) (c : Option Capture) : State :=
  match p with
  | .i => s.onDtu fun d => { d with capI := c }
  | .f => s.onDtu fun d => { d with capF := c }

/-- The arrival capture that goes with a telegram complete at a port: the port's own, or, for a telegram commanded with none held, the
capture of this instant (entry 5). -/
def State.captureAt (s : State) (p : Port) : Capture := (s.capture p).getD s.captureNow

/-- The port after its telegram is complete (R2, R45): the receiver in IDLE and the capture absent. -/
def State.release (s : State) (p : Port) : State := (s.onRx p fun _ => {}).setCapture p none

/-- The state record of the active element at an index updated. -/
def State.onElement (s : State) (i : Nat) (f : ElementState → ElementState) : State :=
  s.onLys fun l => { l with elements := l.elements.modify i fun e => { e with state := f e.state } }

/-- The index of an address in the used prefix of the active element bank (R63). -/
def State.indexOf (s : State) (address : Nat) : Option Nat := s.lys.elements.findIdx? fun e => e.entry.address == address

/-- The PSD record of an active timing point updated. -/
def State.onPoint (s : State) (p : Nat) (f : PointRecord → PointRecord) : State :=
  s.onPsd fun d => { d with points := d.points.modify p fun e => { e with record := f e.record } }

/-- The address of the section that an active timing point names. -/
def State.sectionAddress (s : State) (p : TimingPoint) : Nat := ((s.lys.elements[p.sect]?).map (·.entry.address)).getD 0

/-- A clock line. -/
def State.line (s : State) : ClockLineName → ClockLine
  | .a => s.cld.a
  | .b => s.cld.b

/-- A clock line updated. -/
def State.onLine (s : State) (l : ClockLineName) (f : ClockLine → ClockLine) : State :=
  match l with
  | .a => s.onCld fun c => { c with a := f c.a }
  | .b => s.onCld fun c => { c with b := f c.b }

/-! ### The journal (08) -/

/-- The class of a record, fixed by its kind (R155). -/
def RecordBody.cls : RecordBody → RecordClass
  | .movementEnd .. => .vital
  | .movementOverdue .. => .vital
  | .movementUnsupervised .. => .vital
  | .timeStep .. => .vital
  | .timeSet .. => .vital
  | .markRejected .. => .vital
  | .timeState .. => .vital
  | .season .. => .vital
  | .timetableReset .. => .vital
  | .lineReset => .vital
  | .lineLost .. => .vital
  | .lineReturn .. => .vital
  | .apply .. => .vital
  | .config .. => .vital
  | .clockLine .. => .vital
  | .restartPower .. => .vital
  | .restartOrder .. => .vital
  | .commandChange .. => .traffic
  | .indicationChange .. => .traffic
  | .passing .. => .traffic
  | .missed .. => .traffic
  | .unknownAddress .. => .traffic
  | .expectationDropped .. => .traffic
  | .roundGap .. => .traffic
  | .indicationRepeat .. => .minor
  | .bounce .. => .minor

/-- How many records the ring holds (R148). -/
def ringSize : Nat := 16384

/-- The unread count from which MINOR records are refused (R152). -/
def minorThreshold : Nat := 14336

/-- The greatest sequence number (R149). -/
def maxSeq : Nat := 4294967295

/-- The successor of a sequence number (R149). -/
def succSeq (n : Nat) : Nat := if n = maxSeq then 1 else n + 1

/-- The number whose successor this is (R149). -/
def predSeq (n : Nat) : Nat := if n ≤ 1 then maxSeq else n - 1

/-- The distance from one sequence number to another: the count of successor steps (R150). -/
def seqDistance (x y : Nat) : Nat := if x ≤ y then y - x else y + maxSeq - x

/-- The newest sequence number (R148, R149). -/
def Evj.newest (e : Evj) : Nat := predSeq e.next

/-- The oldest sequence number (R148). -/
def Evj.oldest (e : Evj) : Nat := ((e.ring.getLast?).map (·.seq)).getD e.newest

/-- The stored count (R148). -/
def Evj.stored (e : Evj) : Nat := e.ring.length

/-- The unread count (R156). -/
def Evj.unread (e : Evj) : Nat := if e.readMark = 0 then e.stored else seqDistance e.readMark e.newest

/-- A record stored as the newest; in a full ring it overwrites the oldest, and the read mark falls to 0 with the record it names (R148, R153). -/
def Evj.store (e : Evj) (body : RecordBody) (date : Date) (flags : Flags) : Evj :=
  { e with
    ring := ({ seq := e.next, body := body, date := date, flags := flags } :: e.ring).take ringSize
    next := succSeq e.next
    readMark := if ringSize ≤ e.stored ∧ e.oldest = e.readMark then 0 else e.readMark }

/-- A record offered to the journal: MINOR records are refused under pressure, all others admitted (R151, R152). -/
def Evj.offer (e : Evj) (body : RecordBody) (date : Date) (flags : Flags) : Evj :=
  if body.cls = .minor ∧ minorThreshold ≤ e.unread then { e with minorRefusals := min (e.minorRefusals + 1) maxSeq }
  else e.store body date flags

/-- A block writes a record (R151). -/
def State.write (s : State) (body : RecordBody) (date : Date) (flags : Flags := {}) : State :=
  s.onEvj fun e => e.offer body date flags

/-! ### The report queue (10) -/

/-- How many reports the queue holds (R196). -/
def queueSize : Nat := 64

/-- The priority of a report kind: 0 ALARM, 1 WARNING, 2 NOTICE, 3 ROUTINE (10 "Reports"); DEVIATION takes it from its class (R133). -/
def ReportKind.priority : ReportKind → Nat
  | .movementFault => 0
  | .movementReturned => 0
  | .movementAbandonedNoEnd => 0
  | .clockLineFault => 0
  | .timeFree => 0
  | .movementOverdue => 1
  | .movementUnsupervised => 1
  | .timeStep => 1
  | .timeSet => 1
  | .lineLost => 1
  | .lineReturn => 1
  | .deviation => 3
  | .missed => 2
  | .unbooked => 2
  | .unidentified => 2
  | .unknownAddress => 2
  | .expectationDropped => 2
  | .duplicateIdent => 2
  | .applyDone => 3
  | .season => 3
  | .clockLineRecovered => 3

/-- The priority of a DEVIATION by its class (R133). -/
def PassingClass.priority : PassingClass → Nat
  | .early => 1
  | .rightTime => 3
  | .slightlyLate => 2
  | .late => 1
  | .unverified => 3

/-- A report put in its place: the last among the reports of its priority (R196). -/
def enqueue (q : List Report) (r : Report) : List Report :=
  (q.takeWhile fun x => decide (x.priority ≤ r.priority)) ++ r :: q.dropWhile fun x => decide (x.priority ≤ r.priority)

/-- A report reaches the queue: admitted, or against a full queue one report is discarded (R197). -/
def Orh.raise (o : Orh) (r : Report) : Orh :=
  if o.reports.length < queueSize then { o with reports := enqueue o.reports r }
  else
    match o.reports.getLast? with
    | some last =>
        if r.priority < last.priority then
          { o with reports := enqueue o.reports.dropLast r, discarded := countUp o.discarded }
        else { o with discarded := countUp o.discarded }
    | none => { o with discarded := countUp o.discarded }

/-- A block raises a report (R195). -/
def State.raise (s : State) (r : Report) : State := s.onOrh fun o => o.raise r

/-- A block writes a record and then raises the report that names it, whose summary is the record's kind fields (R151, R195, R207). -/
def State.writeReport (s : State) (body : RecordBody) (date : Date) (kind : ReportKind) (flags : Flags := {}) : State :=
  (s.write body date flags).raise
    { kind := kind, priority := kind.priority, seq := s.evj.next, date := date, flags := flags, summary := .ofRecord body }

/-! ### The reply slot (10) -/

/-- A reply reaches the slot: it fills an EMPTY slot; in a FULL one the reply there takes OVERRUN (R188, R189). A broadcast order never
touches the slot (R187). -/
def State.answer (s : State) (m : Manner) (code : Option Nat) (arrival : Date) (content : ReplyContent) : State :=
  match m with
  | .broadcast => s
  | .unicast =>
      s.onOrh fun o =>
        match o.slot with
        | none => { o with slot := some { code := code, arrival := arrival, content := content, sent := 0, overrun := false } }
        | some r => { o with slot := some { r with overrun := true } }

/-- An order is refused (R186, R187, R189): nothing else changes. -/
def State.refuse (s : State) (m : Manner) (code : Nat) (arrival : Date) (reason : RefusalReason) : State :=
  s.answer m (some code) arrival (.refusal reason)

/-- How many telegrams a reply has (R188). -/
def ReplyContent.telegrams : ReplyContent → Nat
  | .refusal _ => 1
  | .journal _ records => records.length + 1
  | .table _ _ _ (.elementState ..) => 2
  | .table _ _ _ (.movement _) => 2
  | .table _ _ _ (.clockLine _) => 2
  | .table .. => 1
  | .status _ => 2

/-- The upstream turn ends (R9): no further part telegram starts; what is in flight completes. -/
def State.endTurn (s : State) : State := s.onLiu fun l => { l with turn := .closed }

end Sys2Proof.Machine
end

