-- ==== Sys2Proof/Machine/ClockLines.lean ====
section
/-! DEFINITION. The two Clock Line Drivers (09, R166 to R184): position and lag, evaluation, impulses, faults and probes, CLOCK LINE SET,
and the meanings of the four clock line events. -/

namespace Sys2Proof.Machine

/-! ### Position and lag (R167) -/

/-- The dial positions of an interval in seconds. -/
def dialPositions (interval : Nat) : Nat := 43200000 / (interval * 1000)

/-- The target position of an interval at a civil time in ms. -/
def dialTarget (interval ctMs : Nat) : Nat := ctMs % 43200000 / (interval * 1000)

/-- The lag of a shown position. -/
def dialLag (interval ctMs shown : Nat) : Nat :=
  (dialTarget interval ctMs + dialPositions interval - shown) % dialPositions interval

/-- The position after one more impulse (R168). -/
def nextPosition (interval shown : Nat) : Nat := (shown + 1) % dialPositions interval

/-- The other polarity (R168). -/
def Polarity.flip : Polarity → Polarity
  | .positive => .negative
  | .negative => .positive

/-! ### One line on its own -/

/-- Whether a line is in RUN, CATCH-UP or HOLD, the states that are evaluated (R169). -/
def ClockLine.inService (l : ClockLine) : Bool :=
  match l.state with
  | .run => true
  | .catchUp => true
  | .hold => true
  | .stopped => false
  | .fault => false

/-- The line state and impulse wanted that an evaluation finds (R169), for a lag, the dial's positions and the hold limit. -/
def evaluation (lag positions holdLimit : Nat) (atBoundary : Bool) : LineRun × Bool :=
  if lag = 0 then (.run, false)
  else if positions - holdLimit ≤ lag then (.hold, false)
  else if lag = 1 ∧ atBoundary = true then (.run, true)
  else (.catchUp, true)

/-- A line evaluated (R169); each evaluation clears the boundary noted flag (R170). -/
def ClockLine.evaluated (l : ClockLine) (ctMs holdLimit : Nat) (atBoundary : Bool) : ClockLine :=
  match l.interval, l.shown with
  | some interval, some shown =>
      let found := evaluation (dialLag interval ctMs shown) (dialPositions interval) holdLimit atBoundary
      { l with state := found.1, wanted := found.2, noted := false }
  | _, _ => { l with noted := false }

/-- An impulse placed in flight with the next polarity, and the spacing expiry set by the effective catch-up spacing (R171, R176). -/
def ClockLine.started (l : ClockLine) (kind : ImpulseKind) (rt : Nat) (c : Params) : ClockLine :=
  { l with
    flight := some
      { kind := kind, polarity := l.polarity.getD .positive, startRt := rt, endRt := rt + c.pulseWidth * usPerMs }
    spacing := some (rt + max c.catchUpSpacing (c.pulseWidth + 500) * usPerMs) }

/-- Whether a NORMAL impulse may start at this RT (R171). -/
def ClockLine.mayStart (l : ClockLine) (rt : Nat) : Bool :=
  (decide (l.state = .run) || decide (l.state = .catchUp)) && l.wanted && l.flight.isNone &&
    (match l.spacing with | none => true | some x => decide (x ≤ rt))

/-- The wanted impulse started, where it may start (R171). -/
def ClockLine.startIfDue (l : ClockLine) (rt : Nat) (c : Params) : ClockLine :=
  if l.mayStart rt then { l.started .normal rt c with wanted := false } else l

/-- An impulse whose sense returned OK (R168, R174, R177): the shown position rises by 1 and the next polarity flips. -/
def ClockLine.stepped (l : ClockLine) : ClockLine :=
  { l with
    shown := match l.interval, l.shown with
      | some interval, some shown => some (nextPosition interval shown)
      | _, _ => l.shown
    polarity := l.polarity.map Polarity.flip }

/-- The values a CLOCK LINE SET with run stores (R178), before its evaluation. -/
def ClockLine.setRun (l : ClockLine) (interval shown : Nat) (polarity : Polarity) : ClockLine :=
  { l with interval := some interval, shown := some shown, polarity := some polarity, noted := false, probe := none,
           lastSense := none, wanted := false }

/-- The line after a CLOCK LINE SET with stop (R179). -/
def ClockLine.setStop (l : ClockLine) : ClockLine :=
  { l with state := .stopped, wanted := false, noted := false, probe := none }

/-- What the line's output drives (R166, R172): the polarity of the impulse in flight, from its start to its completion; with none in flight
the line is undriven. -/
def ClockLine.drive (l : ClockLine) : Option Polarity := l.flight.map (·.polarity)

/-! ### A line within the part -/

/-- The line outputs CLA and CLB (R166). -/
def State.output (s : State) (l : ClockLineName) : Option Polarity := (s.line l).drive

/-- The CLOCK LINE record of a change (R182), dated by this instant, read from the line as it stands after the change. -/
def State.clockRecord (s : State) (l : ClockLineName) (change : ClockChange) (before : LineRun) (sense : Option Sense) :
    RecordBody :=
  let line := s.line l
  .clockLine
    { line := l, change := change, before := before, after := line.state, interval := line.interval, shown := line.shown,
      polarity := line.polarity
      target := line.interval.map fun interval => dialTarget interval s.ctMs
      lag := match line.interval, line.shown with
        | some interval, some shown => some (dialLag interval s.ctMs shown)
        | _, _ => none
      sense := sense }

/-- The wanted impulse of a line started, where it may start (R171). -/
def State.startLine (s : State) (l : ClockLineName) : State :=
  s.onLine l fun x => x.startIfDue s.tbu.rt s.orh.params

/-- A line evaluated for an event of R170: a change of state writes its CLOCK LINE record with change STATE (R182), and an impulse wanted
starts where it may (R171). -/
def State.evaluateLine (s : State) (l : ClockLineName) (atBoundary : Bool) : State :=
  let before := (s.line l).state
  let s1 := s.onLine l fun x => x.evaluated s.ctMs s.orh.params.holdLimit atBoundary
  let s2 := if (s1.line l).state = before then s1 else s1.write (s1.clockRecord l .state before none) s1.now
  s2.startLine l

/-- A CLOCK LINE SET applied to a line with no impulse in flight (R178, R179). -/
def State.applySet (s : State) (l : ClockLineName) : ClockSet → State
  | .run interval shown polarity =>
      let before := (s.line l).state
      let s1 := s.onLine l fun x =>
        (x.setRun interval shown polarity).evaluated s.ctMs s.orh.params.holdLimit false
      (s1.write (s1.clockRecord l .set before none) s1.now).startLine l
  | .stop =>
      let before := (s.line l).state
      let s1 := s.onLine l ClockLine.setStop
      s1.write (s1.clockRecord l .set before none) s1.now

/-- The pending set, if one is held, applied and made absent (R180). -/
def State.applyPendingSet (s : State) (l : ClockLineName) : State :=
  match (s.line l).pendingSet with
  | some set => (s.onLine l fun x => { x with pendingSet := none }).applySet l set
  | none => s

/-- A CLOCK LINE SET that is not refused: applied at once, or held while an impulse is in flight (R180). -/
def State.takeSet (s : State) (l : ClockLineName) (set : ClockSet) : State :=
  if (s.line l).flight.isSome then s.onLine l fun x => { x with pendingSet := some set } else s.applySet l set

/-! ### The completion of an impulse (R172, R174, R175, R177) -/

/-- A NORMAL impulse completed with sense OK (R174). -/
def State.normalOk (s : State) (l : ClockLineName) : State :=
  let s1 := s.onLine l ClockLine.stepped
  match (s1.line l).pendingSet with
  | some _ => s1.applyPendingSet l
  | none => s1.evaluateLine l (s1.line l).noted

/-- A NORMAL impulse completed with sense OPEN or SHORT (R175). -/
def State.normalFailed (s : State) (l : ClockLineName) (sense : Sense) : State :=
  let before := (s.line l).state
  let s1 := s.onLine l fun x =>
    { x with state := .fault, wanted := false, noted := false
             probe := some (s.tbu.rt + s.orh.params.probePeriod * usPerSecond) }
  (s1.writeReport (s1.clockRecord l .fault before (some sense)) s1.now .clockLineFault).applyPendingSet l

/-- A PROBE impulse completed with sense OK (R177): counted, the line evaluated out of FAULT, RECOVERED recorded and reported; then the pending
set is applied, or the impulse wanted starts where it may. -/
def State.probeOk (s : State) (l : ClockLineName) : State :=
  let before := (s.line l).state
  let s1 := s.onLine l fun x => x.stepped.evaluated s.ctMs s.orh.params.holdLimit x.noted
  let s2 := s1.writeReport (s1.clockRecord l .recovered before none) s1.now .clockLineRecovered
  match (s2.line l).pendingSet with
  | some _ => s2.applyPendingSet l
  | none => s2.startLine l

/-- A PROBE impulse completed with sense OPEN or SHORT (R177). -/
def State.probeFailed (s : State) (l : ClockLineName) : State :=
  (s.onLine l fun x =>
    { x with noted := false, probe := some (s.tbu.rt + s.orh.params.probePeriod * usPerSecond) }).applyPendingSet l

/-- The impulse in flight completes with a sense result (R172). -/
def State.completeImpulse (s : State) (l : ClockLineName) (impulse : Impulse) (sense : Sense) : State :=
  let s1 := s.onLine l fun x => { x with flight := none, lastSense := some sense }
  match impulse.kind, sense with
  | .normal, .ok => s1.normalOk l
  | .normal, .openCircuit => s1.normalFailed l .openCircuit
  | .normal, .shortCircuit => s1.normalFailed l .shortCircuit
  | .probe, .ok => s1.probeOk l
  | .probe, .openCircuit => s1.probeFailed l
  | .probe, .shortCircuit => s1.probeFailed l

/-! ### Time change announcements (R181) -/

/-- Whether an announcement finds the line to be evaluated: in service, with no impulse in flight (R170, R181). -/
def ClockLine.answersAnnouncement (l : ClockLine) : Bool := l.inService && l.flight.isNone

/-- A line takes a time change announcement (R181). -/
def State.announceToLine (s : State) (l : ClockLineName) : State :=
  if (s.line l).answersAnnouncement then s.evaluateLine l false else s

/-- Both lines take the announcement, in either order (R173): where both are evaluated, the order is a free value (entry 4). -/
def State.announceToLines (s : State) : State :=
  if s.cld.a.answersAnnouncement && s.cld.b.answersAnnouncement then
    let s1 := s.onClk fun c => { c with choices := c.choices + 1 }
    if Config.lineAFirst s.clk.choices then (s1.announceToLine .a).announceToLine .b
    else (s1.announceToLine .b).announceToLine .a
  else (s.announceToLine .a).announceToLine .b

/-! ### When the events are due -/

/-- Whether the interval boundary of this microsecond of ST has been taken at a line (entry 25). -/
def State.boundaryTaken (s : State) : ClockLineName → Bool
  | .a => s.clk.boundaryTakenA
  | .b => s.clk.boundaryTakenB

/-- The interval boundary of this microsecond of ST taken at a line (entry 25). -/
def State.takeBoundary (s : State) (l : ClockLineName) : State :=
  match l with
  | .a => s.onClk fun c => { c with boundaryTakenA := true }
  | .b => s.onClk fun c => { c with boundaryTakenB := true }

/-- INTERVAL_BOUNDARY is due at a line (R170): the advance of ST in this microsecond of RT has reached a whole multiple of the interval, which is
one of CT as well (R167), and it has not been taken yet. -/
def State.boundaryDue (s : State) (l : ClockLineName) : Bool :=
  match (s.line l).interval with
  | some interval =>
      decide (s.clk.stMark / (interval * usPerSecond) < s.clk.stReached / (interval * usPerSecond)) && !s.boundaryTaken l
  | none => false

/-- PROBE_EXPIRY is due at a line (R176). -/
def State.probeDue (s : State) (l : ClockLineName) : Bool :=
  decide ((s.line l).state = .fault) && (s.line l).flight.isNone &&
    (match (s.line l).probe with | some x => decide (x ≤ s.tbu.rt) | none => false)

/-- IMPULSE_COMPLETION is due at a line (R172). -/
def State.completionDue (s : State) (l : ClockLineName) : Bool :=
  match (s.line l).flight with
  | some i => decide (i.endRt ≤ s.tbu.rt)
  | none => false

/-! ### The meanings -/

/-- INTERVAL_BOUNDARY (R170, R176): a line in service with no impulse in flight is evaluated at the boundary; with one in flight, in service or
in FAULT, the boundary is noted. -/
def execIntervalBoundary (l : ClockLineName) (s : State) : Host.Outcome State Fault Refusal :=
  if s.boundaryDue l then
    let s1 := s.takeBoundary l
    if (s.line l).flight.isSome then
      if (s.line l).inService || decide ((s.line l).state = .fault) then
        .next (s1.onLine l fun x => { x with noted := true })
      else .next s1
    else if (s.line l).inService then .next (s1.evaluateLine l true)
    else .next s1
  else .next s

/-- SPACING_EXPIRY (R171): a wanted impulse starts when RT has reached the spacing expiry. -/
def execSpacingExpiry (l : ClockLineName) (s : State) : Host.Outcome State Fault Refusal :=
  .next (s.startLine l)

/-- IMPULSE_COMPLETION (R172): the sense input of the line stands at `sense` as the impulse completes. -/
def execImpulseCompletion (l : ClockLineName) (sense : Sense) (s : State) : Host.Outcome State Fault Refusal :=
  let s1 := match l with
    | .a => s.onPins fun p => { p with senseA := sense }
    | .b => s.onPins fun p => { p with senseB := sense }
  match (s.line l).flight with
  | some impulse => if impulse.endRt ≤ s.tbu.rt then .next (s1.completeImpulse l impulse sense) else .next s1
  | none => .next s1

/-- PROBE_EXPIRY (R176): a PROBE impulse starts with the next polarity. -/
def execProbeExpiry (l : ClockLineName) (s : State) : Host.Outcome State Fault Refusal :=
  if s.probeDue l then
    .next (s.onLine l fun x => { x.started .probe s.tbu.rt s.orh.params with probe := none })
  else .next s

/-! ### The orders -/

/-- A CLOCK LINE SET with run taken from an order (R178): its refusals, then the set. -/
def State.orderSetRun (s : State) (m : Manner) (c : Capture) (line interval shown polarity : Nat) : State :=
  match clockLineOf line, polarityOf polarity with
  | some l, some p =>
      if (interval = 30 ∨ interval = 60) ∧ shown < dialPositions interval then
        if s.tbu.timeState = .unset then s.refuse m 0x60 c.date .state
        else s.takeSet l (.run interval shown p)
      else s.refuse m 0x60 c.date .range
  | _, _ => s.refuse m 0x60 c.date .range

/-- A CLOCK LINE SET with stop taken from an order (R179). -/
def State.orderSetStop (s : State) (m : Manner) (c : Capture) (line : Nat) : State :=
  match clockLineOf line with
  | some l => s.takeSet l .stop
  | none => s.refuse m 0x60 c.date .range

/-- CLOCK_LINE_SET_RUN (R178, R180). -/
def execClockLineSetRun (m : Manner) (line interval shown polarity : Nat) (s : State) : Host.Outcome State Fault Refusal :=
  .next ((s.release .i).orderSetRun m (s.captureAt .i) line interval shown polarity)

/-- CLOCK_LINE_SET_STOP (R179, R180). -/
def execClockLineSetStop (m : Manner) (line : Nat) (s : State) : Host.Outcome State Fault Refusal :=
  .next ((s.release .i).orderSetStop m (s.captureAt .i) line)

end Sys2Proof.Machine
end

