-- ==== Sys2Proof/Machine/Timetable.lean ====
section
/-! DEFINITION. The Timetable Checker (07, R122 to R147): the timetable day, windows, matching and classification, the missed sweep, the
rollover and remaking of the planes, the alteration overlay, and the meanings of SWEEP and of the timetable orders. -/

namespace Sys2Proof.Machine

/-! ### The timetable day (R125) -/

/-- The timetable day of a civil time in ms. -/
def timetableDay (h0 : Nat) (ctMs : Int) : Int := (ctMs - (h0 * msPerHour : Nat)) / (msPerDay : Nat)

/-- The day start of a day, in CT ms. -/
def dayStart (h0 : Nat) (day : Int) : Int := day * (msPerDay : Nat) + (h0 * msPerHour : Nat)

/-- The booked instant of a booked time on a day, in CT ms. -/
def bookedInstant (h0 : Nat) (day : Int) (booked : Nat) : Int := dayStart h0 day + (booked * 30000 : Nat)

/-- The weekday of a day, 0 for Monday through 6 for Sunday. -/
def weekdayOf (day : Int) : Int := (day + 5) % 7

/-! ### Planes, slots and windows -/

/-- A plane, while the planes exist. -/
def Ttc.plane (t : Ttc) (w : PlaneName) : Option Plane :=
  t.planes.map fun p => match w with
    | .current => p.current
    | .previous => p.previous

/-- A plane updated. -/
def Ttc.onPlane (t : Ttc) (w : PlaneName) (f : Plane → Plane) : Ttc :=
  { t with
    planes := t.planes.map fun p => match w with
      | .current => { p with current := f p.current }
      | .previous => { p with previous := f p.previous } }

/-- The stored status of an entry in a plane. -/
def Plane.statusOf (p : Plane) (i : Nat) : EntryStatus := p.status.getD i .void

/-- The stored status of an entry set. -/
def Plane.setStatus (p : Plane) (i : Nat) (st : EntryStatus) : Plane := { p with status := p.status.set i st }

/-- The ACTIVE slot that targets an entry (R142). -/
def Ttc.slotOf (t : Ttc) (i : Nat) : Option Nat :=
  t.overlay.findIdx? fun x => match x with
    | some slot => slot.target == i
    | none => false

/-- The content of a slot. -/
def Ttc.slot (t : Ttc) (k : Nat) : Option OverlaySlot := (t.overlay[k]?).join

/-- The ACTIVE slot that targets an entry, with its action (R142). -/
def Ttc.alteration (t : Ttc) (i : Nat) : Option (Nat × OverlayAction) :=
  (t.slotOf i).bind fun k => (t.slot k).map fun x => (k, x.action)

/-- The effective entry where an ACTIVE REPLACE slot targets it, else the base entry (R127, R143). -/
def TimetableEntry.effective (e : TimetableEntry) : Option (Nat × OverlayAction) → TimetableEntry
  | some (_, .replace train point booked mask) => { e with train := train, point := point, booked := booked, mask := mask }
  | some (_, .cancel) => e
  | none => e

/-- Whether an ACTIVE slot makes an entry stored PENDING count as VOID on a day (R143). -/
def countsVoid (alteration : Option (Nat × OverlayAction)) (day : Int) : Bool :=
  match alteration with
  | some (_, .replace _ _ _ mask) => !maskHas mask (weekdayOf day)
  | some (_, .cancel) => true
  | none => false

/-- The window start of an entry on a day, in CT ms (R127). -/
def State.windowStart (s : State) (day : Int) (e : TimetableEntry) : Int :=
  bookedInstant s.ttc.h0 day e.booked - (s.orh.params.earlyLimit * msPerMinute : Nat)

/-- The window end of an entry on a day, in CT ms (R127). -/
def State.windowEnd (s : State) (day : Int) (e : TimetableEntry) : Int :=
  bookedInstant s.ttc.h0 day e.booked + (s.orh.params.lateLimit * msPerMinute : Nat)

/-! ### Matching a passing (R128 to R134) -/

/-- What the PSD hands over with an identified passing (R116). -/
structure PassingItems where
  point : Nat
  entry : TimingPoint
  train : TrainNumber
  event : EventInstant
  address : Nat
  edge : Edge
  span : Nat
  bounces : Nat
  previous : Option Instant
  deriving DecidableEq, Repr

/-- A candidate of R128: the plane, its day, the entry index, its effective entry, the slot whose values it takes, and the booked instant. -/
structure Candidate where
  plane : PlaneName
  day : Int
  index : Nat
  entry : TimetableEntry
  slot : Option Nat
  bookedAt : Int
  deriving DecidableEq, Repr

/-- The candidate that one entry is in one plane, if it is one (R128). -/
def State.candidateAt (s : State) (w : PlaneName) (p : Plane) (x : PassingItems) (i : Nat) : Option Candidate :=
  match s.ttc.entries[i]? with
  | some base =>
      let alteration := s.ttc.alteration i
      let e := base.effective alteration
      if p.statusOf i = .pending ∧ countsVoid alteration p.day = false ∧ e.train = x.train ∧ e.point = x.point ∧
          s.windowStart p.day e ≤ x.event.date.ctMs ∧ (x.event.date.ctMs : Int) ≤ s.windowEnd p.day e then
        some { plane := w, day := p.day, index := i, entry := e, slot := alteration.map (·.1)
               bookedAt := bookedInstant s.ttc.h0 p.day e.booked }
      else none
  | none => none

/-- The candidates of a passing: the previous plane's before the current one's, each in rising entry index (R128). -/
def State.candidates (s : State) (x : PassingItems) : List Candidate :=
  match s.ttc.planes with
  | some p =>
      (List.range s.ttc.entries.length).filterMap (s.candidateAt .previous p.previous x) ++
        (List.range s.ttc.entries.length).filterMap (s.candidateAt .current p.current x)
  | none => []

/-- The candidate with the earliest booked instant, the first of those that share it (R128). -/
def earliest : List Candidate → Option Candidate
  | [] => none
  | c :: rest =>
      match earliest rest with
      | some best => if best.bookedAt < c.bookedAt then some best else some c
      | none => some c

/-- The class of a matched passing (R130). -/
def State.classify (s : State) (threshold : Nat) (quality : Quality) (lateness : Int) : PassingClass :=
  if quality = .c ∨ quality = .u then .unverified
  else if lateness < -(s.orh.params.te threshold : Int) then .early
  else if lateness < s.orh.params.t1 threshold then .rightTime
  else if lateness < s.orh.params.t2 threshold then .slightlyLate
  else .late

/-- Whether the starting signal's last proceed-proven instant qualifies for a passing (R131). -/
def qualifies (proven : Instant) (x : PassingItems) : Bool :=
  (match x.previous with | some p => decide (p.rt < proven.rt) | none => true) && decide (proven.rt ≤ x.event.rt)

/-- The cause of a late departure and its signal offset (R131). -/
def State.attribute (s : State) (x : PassingItems) (c : Candidate) (cls : PassingClass) : Option LateCause × Option Int :=
  match x.entry.signal with
  | none => (none, none)
  | some signal =>
      if (cls = .slightlyLate ∨ cls = .late) ∧ c.entry.kind = 1 then
        match (s.lys.elements[signal]?).bind (·.state.proceedProven) with
        | some proven =>
            if qualifies proven x then
              let offset := max (-10800) (min 10800 (((proven.date.ctMs : Int) - c.bookedAt).tdiv 1000))
              (some (if 0 < offset then .signal else .train), some offset)
            else (some .unknown, none)
        | none => (some .unknown, none)
      else (none, none)

/-- Whether a report is raised for a class in a report mode (R133). -/
def deviationRaised : PassingClass → ReportMode → Bool
  | .early, _ => true
  | .rightTime, .each => true
  | .rightTime, .exception => false
  | .slightlyLate, _ => true
  | .late, _ => true
  | .unverified, .each => true
  | .unverified, .exception => false

/-- The PASSING record of a passing, with the fields of a match absent (R132, R134). -/
def State.passingRecord (s : State) (x : PassingItems) (result : PassingResult) : Passing :=
  { point := x.point, address := x.address, index := x.entry.sect, edge := x.edge, train := some x.train, result := result
    span := x.span, bounces := x.bounces, layoutGeneration := some s.lys.generation
    timetableGeneration := some s.ttc.generation, planeDay := none, entry := none, kind := none, slot := none, booked := none
    lateness := none, cause := none, signalOffset := none }

/-- A passing matched to a candidate (R129 to R133): the record, then the status, then the report. -/
def State.matchPassing (s : State) (x : PassingItems) (c : Candidate) : State :=
  let lateness := ((x.event.date.ctMs : Int) - c.bookedAt).tdiv 1000
  let cls := s.classify x.entry.threshold x.event.date.quality lateness
  let cause := s.attribute x c cls
  let record := { s.passingRecord x (.judged cls) with
    planeDay := some c.day, entry := some c.index, kind := some c.entry.kind, slot := c.slot, booked := some c.entry.booked
    lateness := some lateness, cause := cause.1, signalOffset := cause.2 }
  let s1 := s.write (.passing record) x.event.date x.event.flags
  let s2 := s1.onTtc fun t => t.onPlane c.plane fun p => p.setStatus c.index (.matched lateness s.evj.next)
  if deviationRaised cls x.entry.mode then
    s2.raise
      { kind := .deviation, priority := cls.priority, seq := s.evj.next, date := x.event.date, flags := x.event.flags
        summary := .deviation cls x.train x.point lateness cause.1 }
  else s2

/-- An UNBOOKED passing (R134). -/
def State.unbookedPassing (s : State) (x : PassingItems) (reason : UnbookedReason) : State :=
  s.writeReport (.passing (s.passingRecord x (.unbooked reason))) x.event.date .unbooked x.event.flags

/-- The TTC judges an identified passing (R128, R132, R134). -/
def State.judgePassing (s : State) (x : PassingItems) : State :=
  match s.ttc.planes with
  | none => s.unbookedPassing x .noPlanes
  | some _ =>
      match earliest (s.candidates x) with
      | some c => s.matchPassing x c
      | none => s.unbookedPassing x .noCandidate

/-! ### The missed sweep (R135 to R137) -/

/-- An entry of a plane becomes MISSED (R137): the record and its report, with the effective values that were missed. -/
def State.missEntry (s : State) (w : PlaneName) (day : Int) (i : Nat) (slot : Option Nat) (e : TimetableEntry) : State :=
  (s.onTtc fun t => t.onPlane w fun p => p.setStatus i .missed).writeReport
    (.missed day i e.kind slot e.train e.point e.booked (s.windowEnd day e) s.ttc.generation) s.now .missed

/-- The base cursor of a plane worked (R135), at most `fuel` entries on. -/
def State.sweepBase (s : State) (w : PlaneName) : Nat → State
  | 0 => s
  | fuel + 1 =>
      match s.ttc.plane w with
      | none => s
      | some p =>
          match s.ttc.entries[p.cursor]? with
          | none => s
          | some e =>
              if s.windowEnd p.day e < s.ctMs then
                let s1 := s.onTtc fun t => t.onPlane w fun q => { q with cursor := p.cursor + 1 }
                if (s.ttc.slotOf p.cursor).isNone ∧ p.statusOf p.cursor = .pending then
                  (s1.missEntry w p.day p.cursor none e).sweepBase w fuel
                else s1.sweepBase w fuel
              else s

/-- One slot scanned against one plane (R136). -/
def State.scanSlot (s : State) (k : Nat) (w : PlaneName) : State :=
  match s.ttc.slot k, s.ttc.plane w with
  | some { target, action := .replace train point booked mask }, some p =>
      match s.ttc.entries[target]? with
      | some base =>
          let e := { base with train := train, point := point, booked := booked, mask := mask }
          if p.statusOf target = .pending ∧ maskHas mask (weekdayOf p.day) = true ∧ s.windowEnd p.day e < s.ctMs then
            s.missEntry w p.day target (some k) e
          else s
      | none => s
  | _, _ => s

/-- The slots scanned in rising order against the planes named (R136). -/
def State.scanSlots (s : State) (planes : List PlaneName) : State :=
  (List.range 64).foldl (fun s k => planes.foldl (fun s w => s.scanSlot k w) s) s

/-- Both base cursors, then the REPLACE slots (R135, R136). -/
def State.sweepPlanes (s : State) : State :=
  ((s.sweepBase .previous s.ttc.entries.length).sweepBase .current s.ttc.entries.length).scanSlots [.previous, .current]

/-- A new plane for a day: PENDING where the base day mask holds its weekday, else VOID (R139). -/
def Ttc.newPlane (t : Ttc) (day : Int) : Plane :=
  { day := day, cursor := 0
    status := t.entries.map fun e => if maskHas e.mask (weekdayOf day) then .pending else .void }

/-- The planes roll over (R139): the previous discarded, the current made previous, a new current made and swept. -/
def State.rollOver (s : State) (p : Planes) : State :=
  let s1 := s.onTtc fun t =>
    { t with planes := some { previous := p.current, current := t.newPlane (p.current.day + 1) } }
  (s1.sweepBase .current s1.ttc.entries.length).scanSlots [.current]

/-- The rollover of a sweep event, where CT lies at or past the next day start (R139, R140). -/
def State.rollOverIfDue (s : State) : State :=
  match s.ttc.planes with
  | some p => if dayStart s.ttc.h0 (p.current.day + 1) ≤ s.ctMs then s.rollOver p else s
  | none => s

/-- A sweep event (R135, R136, R139); with the planes absent it does nothing. -/
def State.sweepEvent (s : State) : State :=
  if s.ttc.planes.isSome then s.sweepPlanes.rollOverIfDue else s

/-- SWEEP is due (R135): the advance of ST in this microsecond of RT has reached a whole second, not taken yet, and the planes exist. -/
def State.sweepDue (s : State) : Bool :=
  s.ttc.planes.isSome && decide (s.clk.stMark / usPerSecond < s.clk.stReached / usPerSecond) && !s.clk.sweepTaken

/-- SWEEP (R135). -/
def execSweep (s : State) : Host.Outcome State Fault Refusal :=
  if s.sweepDue then .next (s.onClk fun c => { c with sweepTaken := true }).sweepEvent else .next s

/-! ### Making the planes afresh (R141) -/

/-- A plane made afresh for a day at a civil time in ms (R141). -/
def State.freshPlane (s : State) (day : Int) : Plane :=
  { day := day, cursor := 0
    status := s.ttc.entries.mapIdx fun i e =>
      if maskHas e.mask (weekdayOf day) ∧ (s.ctMs : Int) ≤ s.windowEnd day (e.effective (s.ttc.alteration i)) then .pending
      else .void }

/-- The number of PENDING entries of a plane. -/
def Plane.pendingCount (p : Plane) : Nat := (p.status.filter fun st => decide (st = .pending)).length

/-- The number of PENDING entries of the planes held (R141). -/
def Ttc.pendingCount (t : Ttc) : Nat :=
  match t.planes with
  | some p => p.current.pendingCount + p.previous.pendingCount
  | none => 0

/-- The planes are made afresh with a cause, and the TIMETABLE RESET record written (R141). -/
def State.remakePlanes (s : State) (cause : ResetCause) : State :=
  let day := timetableDay s.ttc.h0 s.ctMs
  let fresh : Planes := { current := s.freshPlane day, previous := s.freshPlane (day - 1) }
  (s.onTtc fun t => { t with planes := some fresh }).write
    (.timetableReset cause s.ttc.generation s.ttc.h0 day s.ttc.entries.length fresh.current.pendingCount
      fresh.previous.pendingCount s.ttc.pendingCount) s.now

/-- A time change announcement (R27). -/
structure Announcement where
  cause : ChangeCause
  stBefore : Nat
  stAfter : Nat
  seasonBefore : Nat
  seasonAfter : Nat
  unsetBefore : Bool
  deriving DecidableEq, Repr

/-- The CT change of an announcement, in µs (R140). -/
def Announcement.ctChange (a : Announcement) : Int :=
  ((a.stAfter + a.seasonAfter * usPerMinute : Nat) : Int) - ((a.stBefore + a.seasonBefore * usPerMinute : Nat) : Int)

/-- Whether a change is more than 6 h either way (R140). -/
def Announcement.large (a : Announcement) : Bool := decide (21600000000 < a.ctChange.natAbs)

/-- The TTC takes a time change announcement (R140). -/
def State.announceToTtc (s : State) (a : Announcement) : State :=
  match s.ttc.planes with
  | none =>
      if a.unsetBefore = true ∧ s.tbu.timeState ≠ .unset ∧ s.ttc.active = true then s.remakePlanes .firstTime else s
  | some _ =>
      match a.cause with
      | .step => if a.large then s.remakePlanes .step else s.sweepEvent
      | .timeSet => if a.large then s.remakePlanes .timeSet else s.sweepEvent
      | .season => s.sweepEvent

/-! ### The overlay (R142 to R145) -/

/-- The release of an entry in one plane (R144): a PENDING entry whose base window has closed, or that the base cursor has passed, becomes VOID. -/
def State.releaseInPlane (s : State) (target : Nat) (e : TimetableEntry) (p : Plane) : Plane :=
  if p.statusOf target = .pending ∧ (s.windowEnd p.day e < s.ctMs ∨ target < p.cursor) then p.setStatus target .void else p

/-- A slot's target released (R144). -/
def State.releaseTarget (s : State) (target : Nat) : State :=
  match s.ttc.entries[target]? with
  | some e =>
      s.onTtc fun t =>
        (t.onPlane .previous (s.releaseInPlane target e)).onPlane .current (s.releaseInPlane target e)
  | none => s

/-- A slot made FREE, its target released (R144); a FREE slot stays as it is. -/
def State.clearSlot (s : State) (k : Nat) : State :=
  match s.ttc.slot k with
  | some x => (s.releaseTarget x.target).onTtc fun t => { t with overlay := t.overlay.set k none }
  | none => s

/-- OVERLAY CLEAR taken from an order (R144). -/
def State.orderOverlayClear (s : State) (m : Manner) (c : Capture) (k : Nat) : State :=
  if k < 64 then s.clearSlot k else s.refuse m 0x41 c.date .range

/-- The action of an OVERLAY WRITE, where its fields pass R145's RANGE checks (R205: CANCEL's other fields are not read). -/
def State.overlayAction (s : State) (action : Nat) (train : TrainNumber) (point booked mask : Nat) : Option OverlayAction :=
  match action with
  | 0 =>
      if trainOk train = true ∧ point < s.psd.points.length ∧ booked ≤ 2879 ∧ maskOk mask = true then
        some (.replace train point booked mask)
      else none
  | 1 => some .cancel
  | _ => none

/-- Whether an armed APPLY has LAYOUT in its scope (R73). -/
def layoutArmed : Option Scope → Bool
  | some .layout => true
  | some .both => true
  | some .timetable => false
  | none => false

/-- Whether R145 bars the write with STATE: another ACTIVE slot targets the entry, or the armed layout has no such timing point. -/
def State.overlayBarred (s : State) (k target : Nat) (action : OverlayAction) : Bool :=
  (match s.ttc.slotOf target with | some j => decide (j ≠ k) | none => false) ||
    (match action with
      | .replace _ point _ _ => layoutArmed s.lys.armed && decide (s.lys.stagingPoints.length ≤ point)
      | .cancel => false)

/-- A slot set ACTIVE, an old target that differs first released (R145). -/
def State.writeSlot (s : State) (k target : Nat) (action : OverlayAction) : State :=
  let s1 := match s.ttc.slot k with
    | some old => if old.target = target then s else s.releaseTarget old.target
    | none => s
  s1.onTtc fun t => { t with overlay := t.overlay.set k (some { target := target, action := action }) }

/-- OVERLAY WRITE taken from an order (R145). -/
def State.orderOverlayWrite (s : State) (m : Manner) (c : Capture) (k target action : Nat) (train : TrainNumber)
    (point booked mask : Nat) : State :=
  match s.overlayAction action train point booked mask with
  | some act =>
      if k < 64 ∧ target < s.ttc.entries.length then
        if s.overlayBarred k target act then s.refuse m 0x40 c.date .state else s.writeSlot k target act
      else s.refuse m 0x40 c.date .range
  | none => s.refuse m 0x40 c.date .range

/-! ### TIMETABLE WRITE and the timetable apply (R123, R146) -/

/-- Whether an entry of a TIMETABLE WRITE passes R123's RANGE checks (R205: with used = 0 the other fields are not checked). -/
def rawEntryOk (e : RawEntry) : Bool :=
  match yesNoOf e.used with
  | some true => trainOk e.train && decide (e.kind ≤ 2) && decide (e.booked ≤ 2879) && maskOk e.mask
  | some false => true
  | none => false

/-- Consecutive entries written to a staging timetable bank (R123). -/
def writeEntries (b : Bank TimetableEntry) : Nat → List RawEntry → Bank TimetableEntry
  | _, [] => b
  | i, e :: rest =>
      if e.used = 1 then
        writeEntries (b.put i { train := e.train, point := e.point, kind := e.kind, booked := e.booked, mask := e.mask })
          (i + 1) rest
      else writeEntries (b.remove i) (i + 1) rest

/-- TIMETABLE WRITE taken from an order whose length has been judged (R123). -/
def State.orderTimetableWrite (s : State) (m : Manner) (c : Capture) (first count : Nat) (entries : List RawEntry) : State :=
  if 1 ≤ count ∧ count ≤ 4 ∧ first + count ≤ 8192 ∧ entries.all rawEntryOk = true then
    if s.lys.armed.isSome then s.refuse m 0x32 c.date .state
    else s.onTtc fun t => { t with staging := writeEntries t.staging first entries }
  else s.refuse m 0x32 c.date .range

/-- A TIMETABLE apply takes effect (R146): the bank, the generation, H0 and the slots; outside UNSET the planes are made afresh. -/
def State.applyTimetable (s : State) : State :=
  let s1 := s.onTtc fun t =>
    { t with entries := t.staging.values, generation := (t.generation + 1) % 65536, active := true, h0 := s.orh.params.h0
             overlay := List.replicate 64 none }
  if s.tbu.timeState = .unset then s1 else s1.remakePlanes .apply

/-- TIMETABLE_WRITE (R123): a count of 1..4 that its entries do not match is a wrong length (R205). -/
def execTimetableWrite (m : Manner) (first count : Nat) (entries : List RawEntry) (s : State) :
    Host.Outcome State Fault Refusal :=
  if 1 ≤ count ∧ count ≤ 4 ∧ entries.length ≠ count then
    .next ((s.release .i).refuse m 0x32 (s.captureAt .i).date .length)
  else .next ((s.release .i).orderTimetableWrite m (s.captureAt .i) first count entries)

/-- OVERLAY_WRITE (R145). -/
def execOverlayWrite (m : Manner) (slot target action : Nat) (train : TrainNumber) (point booked mask : Nat) (s : State) :
    Host.Outcome State Fault Refusal :=
  .next ((s.release .i).orderOverlayWrite m (s.captureAt .i) slot target action train point booked mask)

/-- OVERLAY_CLEAR (R144). -/
def execOverlayClear (m : Manner) (slot : Nat) (s : State) : Host.Outcome State Fault Refusal :=
  .next ((s.release .i).orderOverlayClear m (s.captureAt .i) slot)

end Sys2Proof.Machine
end

