-- ==== Sys2Proof/Machine/TimeBase.lean ====
section
/-! DEFINITION. The Time Base Unit (02, R19 to R43): the advance of RT and ST, the second mark, holdover, the time orders, time change
announcements, and the meanings of the time rows. -/

namespace Sys2Proof.Machine

/-- The last microsecond of day 65,535 (R20). -/
def maxSt : Nat := 5662310399999999

/-- Where the trim accumulator carries (R22). -/
def trimCarryAt : Nat := 100000000

/-! ### The advance (R19 to R23) -/

/-- ST one microsecond on; at its end ST stays (R20). -/
def stUp (st : Nat) : Nat := if st < maxSt then st + 1 else st

/-- ST one microsecond less, a skip; at 0 the skip is lost (R20). -/
def stDown (st : Nat) : Nat := st - 1

/-- Whether a skip is lost in this microsecond: ST's advance has not risen in it, or has been taken back already, and ST never falls in its
advance (R21) and stays at the end of its range (R20; entry 33). -/
def State.skipLost (s : State) : Bool := decide (s.clk.stReached ≤ s.clk.stMark)

/-- A count of ST adjusted by one microsecond in the direction of a signed quantity (R20 to R23). -/
def State.adjusted (s : State) (direction : Int) (st : Nat) : Nat :=
  if 0 < direction then stUp st else if s.skipLost then st else stDown st

/-- One microsecond of RT (R19, R21, R22, R23): RT and ST rise by one, |T| goes into the accumulator, and the slew phase counts. The trim carry
and the slew tick that come due in it are events of their own. -/
def Tbu.tick (t : Tbu) : Tbu :=
  { t with
    rt := t.rt + 1
    st := stUp t.st
    accumulator := t.accumulator + t.trim.natAbs
    slewPhase := if t.slewPhase + 1 = 1000 ∧ t.slew = 0 then 0 else t.slewPhase + 1 }

/-- One microsecond passes (entries 1 and 25). -/
def State.tick (s : State) : State :=
  (s.onTbu Tbu.tick).onClk fun c =>
    { c with stMark := s.tbu.st, stReached := stUp s.tbu.st, sweepTaken := false, boundaryTakenA := false, boundaryTakenB := false }

/-- An adjustment of ST's advance in this microsecond, noted for the events of ST (entry 25). -/
def State.noteAdjust (s : State) (direction : Int) : State :=
  s.onClk fun c => { c with stReached := s.adjusted direction c.stReached }

/-- TRIM_CARRY is due (R22). -/
def State.trimCarryDue (s : State) : Bool := decide (trimCarryAt ≤ s.tbu.accumulator)

/-- The TBU after a trim carry that brings ST to a value (R22). -/
def Tbu.trimCarried (t : Tbu) (st : Nat) : Tbu := { t with accumulator := t.accumulator - trimCarryAt, st := st }

/-- TRIM_CARRY (R22): 100,000,000 leaves the accumulator, and ST gains or skips one microsecond. -/
def execTrimCarry (s : State) : Host.Outcome State Fault Refusal :=
  if s.trimCarryDue then .next ((s.onTbu fun t => t.trimCarried (s.adjusted t.trim t.st)).noteAdjust s.tbu.trim) else .next s

/-- SLEW_TICK is due (R23): the 1,000th microsecond of the slew phase has been counted, and P is not 0. -/
def State.slewTickDue (s : State) : Bool := decide (1000 ≤ s.tbu.slewPhase) && decide (s.tbu.slew ≠ 0)

/-- The TBU after a slew tick that brings ST to a value (R23). -/
def Tbu.slewTicked (t : Tbu) (st : Nat) : Tbu := { t with slewPhase := 0, st := st, slew := t.slew - t.slew.sign }

/-- SLEW_TICK (R23): ST gains or skips one microsecond, P moves one toward zero, and the phase starts again. -/
def execSlewTick (s : State) : Host.Outcome State Fault Refusal :=
  if s.slewTickDue then .next ((s.onTbu fun t => t.slewTicked (s.adjusted t.slew t.st)).noteAdjust s.tbu.slew) else .next s

/-! ### Seasonal changes and announcements (R25, R27) -/

/-- A time change announcement reaches the TTC and then both CLDs (R27). -/
def State.announce (s : State) (a : Announcement) : State := (s.announceToTtc a).announceToLines

/-- The scheduled seasonal change takes effect (R25): S, the SEASON record dated at the effective instant with the new S, the SEASON report. The
announcement is the caller's. -/
def State.applySeason (s : State) (offset minute : Nat) : State :=
  let s1 := s.onTbu fun t => { t with season := offset, scheduled := none }
  s1.writeReport (.season s.tbu.season offset) (dateOf (minute * usPerMinute) offset s1.quality) .season

/-- Whether a scheduled change's effective instant lies at or before ST (R25, R31, R41). -/
def instantReached (scheduled : Option (Nat × Nat)) (st : Nat) : Bool :=
  match scheduled with
  | some (_, minute) => decide (minute * usPerMinute ≤ st)
  | none => false

/-- The scheduled seasonal change applied where its instant is reached, without an announcement (R31). -/
def State.applySeasonIfReached (s : State) : State :=
  match s.tbu.scheduled with
  | some (offset, minute) => if minute * usPerMinute ≤ s.tbu.st then s.applySeason offset minute else s
  | none => s

/-- A seasonal change alone takes effect, if its instant is reached, with its announcement (R25). -/
def State.takeSeason (s : State) : State :=
  if instantReached s.tbu.scheduled s.tbu.st then
    let s1 := s.applySeasonIfReached
    s1.announce
      { cause := .season, stBefore := s.tbu.st, stAfter := s.tbu.st, seasonBefore := s.tbu.season, seasonAfter := s1.tbu.season
        unsetBefore := decide (s.tbu.timeState = .unset) }
  else s

/-- SEASON (R25). -/
def execSeason (s : State) : Host.Outcome State Fault Refusal := .next s.takeSeason

/-! ### The second mark (R28 to R35) -/

/-- STEP's ST: second N, held at the last microsecond of day 65,535 where N lies beyond that day's last second (R31). -/
def stepTo (n : Nat) : Nat := if n ≤ 5662310399 then n * usPerSecond else maxSt

/-- The TBU after a STEP to second N (R30, R31, R35). -/
def Tbu.stepped (t : Tbu) (n : Nat) : Tbu :=
  { t with st := stepTo n, slew := 0, slewPhase := 0, outliers := 0, good := 0, timeState := .acquire, prevAccepted := true
           prevSlew := 0, holdoverExpiry := some (t.rt + 3000000), holdoverEntry := none }

/-- STEP up to its announcement (R31): ST and the state, the TIME STEP record and report, and a scheduled seasonal change reached. -/
def State.stepClock (s : State) (n : Nat) (e : Int) (labelled : Bool) : State :=
  let s1 := s.onTbu fun t => t.stepped n
  (s1.writeReport (.timeStep e n labelled s.tbu.st (stepTo n) s.tbu.timeState .acquire) s1.now .timeStep).applySeasonIfReached

/-- STEP (R31), with its one announcement (R27). -/
def State.stepMark (s : State) (n : Nat) (e : Int) (labelled : Bool) : State :=
  (s.stepClock n e labelled).announce
    { cause := .step, stBefore := s.tbu.st, stAfter := stepTo n, seasonBefore := s.tbu.season
      seasonAfter := (s.stepClock n e labelled).tbu.season, unsetBefore := decide (s.tbu.timeState = .unset) }

/-- Trim learning's new T (R35): T - 25 e, clamped. -/
def learnedTrim (trim e : Int) : Int := max (-5000) (min 5000 (trim - 25 * e))

/-- Whether the trim is learned at a SLEW (R35). -/
def Tbu.learns (t : Tbu) (e : Int) : Bool :=
  (decide (t.timeState = .acquire) || decide (t.timeState = .locked)) && t.prevAccepted && decide (t.prevSlew.natAbs ≤ 1000) &&
    decide (e.natAbs ≤ t.lockWindow)

/-- The accumulator after T becomes another value: cleared where T changes sign or becomes 0 (R22). -/
def accumulatorAfter (old new : Int) (accumulator : Nat) : Nat := if new.sign = old.sign ∧ new ≠ 0 then accumulator else 0

/-- Trim learning tried at a SLEW (R35). -/
def Tbu.learn (t : Tbu) (e : Int) : Tbu :=
  if t.learns e then
    { t with trim := learnedTrim t.trim e, accumulator := accumulatorAfter t.trim (learnedTrim t.trim e) t.accumulator }
  else t

/-- The counts and the state after a SLEW (R30, R34). DESIGN CHOICE (entry 37): R30 and R34 give the outlier count no value at a SLEW taken in
FREE or HOLDOVER, and it is kept. -/
def Tbu.slewCounts (t : Tbu) (e : Int) : Tbu :=
  let inside := decide (e.natAbs ≤ t.lockWindow)
  match t.timeState with
  | .unset => t
  | .free => { t with timeState := .acquire, good := if inside then 1 else 0 }
  | .holdover => { t with timeState := .acquire, good := if inside then 1 else 0 }
  | .acquire =>
      if inside then
        if 8 ≤ t.good + 1 then { t with good := t.good + 1, timeState := .locked, outliers := 0 }
        else { t with good := t.good + 1 }
      else { t with good := 0 }
  | .locked =>
      if inside then { t with outliers := 0 }
      else if 4 ≤ t.outliers + 1 then { t with timeState := .acquire, good := 0, outliers := 0 }
      else { t with outliers := t.outliers + 1 }

/-- The TBU after a SLEW with phase error `e` (R30, R32, R34, R35). -/
def Tbu.slewed (t : Tbu) (e : Int) : Tbu :=
  let t1 := (t.learn e).slewCounts e
  { t1 with slew := -e, slewPhase := 0, prevAccepted := true, prevSlew := -e, holdoverExpiry := some (t.rt + 3000000)
            holdoverEntry := none }

/-- The cause of the change of state that a SLEW brings (R34). -/
def slewCause : TimeState → TimeCause
  | .unset => .markAccepted
  | .free => .markAccepted
  | .acquire => .goodMarks
  | .locked => .outliers
  | .holdover => .markAccepted

/-- The TIME STATE record of the present state, coming from another with a cause (R38). -/
def State.timeStateRecord (s : State) (before : TimeState) (cause : TimeCause) : RecordBody :=
  .timeState before s.tbu.timeState cause s.tbu.good s.tbu.trim

/-- SLEW (R32): a change of time state writes its TIME STATE record (R34). -/
def State.slewMark (s : State) (e : Int) : State :=
  let s1 := s.onTbu fun t => t.slewed e
  if s1.tbu.timeState = s.tbu.timeState then s1
  else s1.write (s1.timeStateRecord s.tbu.timeState (slewCause s.tbu.timeState)) s1.now

/-- REJECT (R33). -/
def State.rejectMark (s : State) (n : Nat) (e : Int) (labelled : Bool) : State :=
  (s.onTbu fun t => { t with prevAccepted := false }).write (.markRejected e n labelled) s.now

/-- The mark's action, by the time state and |e| against the latched Lstep (R30). -/
def State.actOnMark (s : State) (n : Nat) (labelled : Bool) : State :=
  let e : Int := (s.tbu.st : Int) - (n * usPerSecond : Nat)
  let beyond := decide (s.tbu.stepLimit < e.natAbs)
  match s.tbu.timeState with
  | .unset => s.stepMark n e labelled
  | .free => if beyond then s.stepMark n e labelled else s.slewMark e
  | .acquire => if beyond then s.stepMark n e labelled else s.slewMark e
  | .locked => if beyond then s.rejectMark n e labelled else s.slewMark e
  | .holdover => if beyond then s.stepMark n e labelled else s.slewMark e

/-- The second a mark is labelled with: the label's, where it is at most 2,000,000 µs old (R28). -/
def Tbu.markLabel (t : Tbu) : Option Nat :=
  match t.label with
  | some (n, taken) => if t.rt - taken ≤ 2000000 then some n else none
  | none => none

/-- The second nearest to ST, a value halfway going to the later (R29). -/
def nearestSecond (st : Nat) : Nat := (st + 500000) / usPerSecond

/-- A mark (R28 to R30): Lstep and Lw latched, the label settled, and the mark acted on or ignored. -/
def State.takeMark (s : State) : State :=
  let s1 := s.onTbu fun t =>
    { t with stepLimit := s.orh.params.stepLimit, lockWindow := s.orh.params.lockWindow, label := none }
  match s.tbu.markLabel with
  | some n => s1.actOnMark n true
  | none =>
      match s.tbu.timeState with
      | .unset => s1.onTbu fun t => { t with prevAccepted := false }
      | .free => s1.onTbu fun t => { t with prevAccepted := false }
      | .acquire => s1.actOnMark (nearestSecond s.tbu.st) false
      | .locked => s1.actOnMark (nearestSecond s.tbu.st) false
      | .holdover => s1.actOnMark (nearestSecond s.tbu.st) false

/-- MARK (R28). -/
def execMark (s : State) : Host.Outcome State Fault Refusal := .next s.takeMark

/-! ### Holdover (R36, R37) -/

/-- HOLDOVER_EXPIRY is due (R36). -/
def State.holdoverExpiryDue (s : State) : Bool :=
  (decide (s.tbu.timeState = .acquire) || decide (s.tbu.timeState = .locked)) &&
    (match s.tbu.holdoverExpiry with | some x => decide (x ≤ s.tbu.rt) | none => false)

/-- HOLDOVER_EXPIRY (R36). -/
def execHoldoverExpiry (s : State) : Host.Outcome State Fault Refusal :=
  if s.holdoverExpiryDue then
    let s1 := s.onTbu fun t =>
      { t with timeState := .holdover, holdoverEntry := some t.rt, holdoverExpiry := none }
    .next (s1.write (s1.timeStateRecord s.tbu.timeState .noMark) s1.now)
  else .next s

/-- HOLDOVER_LIMIT is due (R37). -/
def State.holdoverLimitDue (s : State) : Bool :=
  decide (s.tbu.timeState = .holdover) &&
    (match s.tbu.holdoverEntry with
      | some entry => decide (entry + s.orh.params.holdoverLimit * usPerMinute ≤ s.tbu.rt)
      | none => false)

/-- The holdover limit reached (R37). -/
def State.takeHoldoverLimit (s : State) : State :=
  if s.holdoverLimitDue then
    let s1 := s.onTbu fun t => { t with timeState := .free, holdoverEntry := none }
    s1.writeReport (s1.timeStateRecord s.tbu.timeState .holdoverLimit) s1.now .timeFree
  else s

/-- HOLDOVER_LIMIT (R37). -/
def execHoldoverLimit (s : State) : Host.Outcome State Fault Refusal := .next s.takeHoldoverLimit

/-! ### The time orders (R39 to R41) -/

/-- TIME MARK taken from an order (R39). -/
def State.orderTimeMark (s : State) (m : Manner) (c : Capture) (second : Nat) : State :=
  if second ≤ 5662310399 then s.onTbu fun t => { t with label := some (second, t.rt) }
  else s.refuse m 0x10 c.date .range

/-- The TBU after a TIME SET to ST and S (R40). -/
def Tbu.set (t : Tbu) (st season : Nat) : Tbu :=
  { t with st := st, season := season, slew := 0, slewPhase := 0, good := 0, outliers := 0, prevAccepted := false, prevSlew := 0
           holdoverExpiry := none, holdoverEntry := none, timeState := .free
           scheduled := if instantReached t.scheduled st then none else t.scheduled }

/-- TIME SET carried out (R40). -/
def State.setTime (s : State) (ms offset : Nat) : State :=
  let st := ms * usPerMs
  let s1 := s.onTbu fun t => t.set st offset
  let s2 := s1.writeReport
    (.timeSet s.tbu.st st s.tbu.season offset s.tbu.timeState (instantReached s.tbu.scheduled st)) s1.now .timeSet
  s2.announce
    { cause := .timeSet, stBefore := s.tbu.st, stAfter := st, seasonBefore := s.tbu.season, seasonAfter := offset
      unsetBefore := decide (s.tbu.timeState = .unset) }

/-- TIME SET taken from an order (R40). -/
def State.orderTimeSet (s : State) (m : Manner) (c : Capture) (ms offset : Nat) : State :=
  if ms ≤ 5662310399999 ∧ offset ≤ 120 then s.setTime ms offset else s.refuse m 0x11 c.date .range

/-- SEASON CHANGE taken from an order (R41): scheduled, and applied at once where its instant is already reached. -/
def State.orderSeasonChange (s : State) (m : Manner) (c : Capture) (offset minute : Nat) : State :=
  if offset ≤ 120 ∧ minute ≤ 94371839 then (s.onTbu fun t => { t with scheduled := some (offset, minute) }).takeSeason
  else s.refuse m 0x12 c.date .range

/-- TIME_MARK (R39). -/
def execTimeMark (m : Manner) (second : Nat) (s : State) : Host.Outcome State Fault Refusal :=
  .next ((s.release .i).orderTimeMark m (s.captureAt .i) second)

/-- TIME_SET (R40). -/
def execTimeSet (m : Manner) (ms offset : Nat) (s : State) : Host.Outcome State Fault Refusal :=
  .next ((s.release .i).orderTimeSet m (s.captureAt .i) ms offset)

/-- SEASON_CHANGE (R41). -/
def execSeasonChange (m : Manner) (offset minute : Nat) (s : State) : Host.Outcome State Fault Refusal :=
  .next ((s.release .i).orderSeasonChange m (s.captureAt .i) offset minute)

end Sys2Proof.Machine
end

