-- ==== Sys2Proof/Machine/Formats.lean ====
section
/-! DEFINITION. What the part sends (11, R202 to R209): the check, the frame, and the bytes of records, reports and replies. The code numbers
that no table gives, and the field orders within a record, are entries 20 to 22. -/

namespace Sys2Proof.Machine

/-! ### The check and the frame (R202, R203) -/

/-- One bit into the check register (R203). -/
def crcBit (r : BitVec 16) (bit : Bool) : BitVec 16 :=
  if r.msb != bit then (r <<< 1) ^^^ 0x1021#16 else r <<< 1

/-- One byte into the check register, most significant bit first (R203). -/
def crcByte (r : BitVec 16) (b : Byte) : BitVec 16 :=
  [7, 6, 5, 4, 3, 2, 1, 0].foldl (fun r i => crcBit r (b.getLsbD i)) r

/-- The check of bytes in line order (R203). -/
def crc (bs : List Byte) : BitVec 16 := bs.foldl crcByte 0xFFFF#16

/-- The start byte (11 "The frame"). -/
def startByte : Byte := 0xD2#8

/-- The kind and address, the length and the payload of a telegram, the bytes its check is taken over (11 "The frame", R203). -/
def checkedBytes (kind address : Nat) (payload : List Byte) : List Byte :=
  [BitVec.ofNat 8 (kind * 16 + address / 256), BitVec.ofNat 8 address, BitVec.ofNat 8 payload.length] ++ payload

/-- The check of a telegram (R203). -/
def telegramCheck (kind address : Nat) (payload : List Byte) : Nat := (crc (checkedBytes kind address payload)).toNat

/-- A whole telegram (11 "The frame"). -/
def telegram (kind address : Nat) (payload : List Byte) : List Byte :=
  startByte :: checkedBytes kind address payload ++ toBytes 2 (telegramCheck kind address payload)

/-! ### Fields (R204, R209) -/

/-- A date with its flags; `rateBit` is bit 7 of its last byte, set in a REPLY or REPORT header alone (R204). -/
def dateBytes (d : Date) (f : Flags := {}) (rateBit : Nat := 0) : List Byte :=
  toBytes 2 d.day ++ toBytes 4 d.msOfDay ++ toBytes 1 d.season ++ toBytes 1 (qualityFlagsByte d.quality f + 128 * rateBit)

/-- An RT with a date and flags, or both absent. -/
def instantBytes : Option (Nat × Date × Flags) → List Byte
  | some (rt, d, f) => toBytes 8 rt ++ dateBytes d f
  | none => absentBytes 16

/-- A train number (R204). -/
def trainBytes (t : TrainNumber) : List Byte := toBytes 4 t.toNat

/-- A train number that may be absent: four bytes of 20h (R209). -/
def optTrain : Option TrainNumber → List Byte
  | some t => trainBytes t
  | none => List.replicate 4 0x20#8

/-- A sequence number that may be absent (R209). -/
def optSeq (n : Option Nat) : List Byte := toBytes 4 (n.getD 0)

/-- A yes or no. -/
def boolBytes (b : Bool) : List Byte := toBytes 1 (yesNo b)

/-! ### Codes (R204, R208; entry 20) -/

def TimeState.code : TimeState → Nat
  | .unset => 1
  | .free => 2
  | .acquire => 3
  | .locked => 4
  | .holdover => 5

def TimeCause.code : TimeCause → Nat
  | .goodMarks => 1
  | .outliers => 2
  | .markAccepted => 3
  | .noMark => 4
  | .holdoverLimit => 5

def SectionState.code : SectionState → Nat
  | .clear => 1
  | .occupied => 2
  | .unknown => 3

def ApplyTrigger.code : ApplyTrigger → Nat
  | .roundOpen => 1
  | .lineLost => 2
  | .orderInLost => 3

def ApplyTable.code : ApplyTable → Nat
  | .noTable => 0
  | .element => 1
  | .point => 2
  | .timetable => 3
  | .overlay => 4

def ApplyReason.code : ApplyReason → Nat
  | .prefixRule => 1
  | .addressOrder => 2
  | .link => 3
  | .bookedOrder => 4
  | .timingPoint => 5
  | .scope => 6

def MovementPhase.code : MovementPhase → Nat
  | .commanded => 1
  | .moving => 2
  | .clearing => 3
  | .replacing => 4

def MovementOutcome.code : MovementOutcome → Nat
  | .complete => 1
  | .late => 2
  | .returned => 3
  | .fault => 4
  | .superseded => 5
  | .abandoned => 6

def AbandonReason.code : AbandonReason → Nat
  | .noEnd => 1
  | .line => 2
  | .apply => 3
  | .restart => 4

def UnsupervisedReason.code : UnsupervisedReason → Nat
  | .fault => 1
  | .full => 2

/-- The class of a passing in a PASSING record, numbered from 1 (R208). -/
def PassingClass.code : PassingClass → Nat
  | .early => 1
  | .rightTime => 2
  | .slightlyLate => 3
  | .late => 4
  | .unverified => 5

def UnbookedReason.code : UnbookedReason → Nat
  | .noCandidate => 1
  | .noPlanes => 2

/-- The byte that the result and the unbooked reason share (R208). DESIGN CHOICE (entry 20): UNIDENTIFIED, which the list of R132 does not hold,
is 7. -/
def PassingResult.code : PassingResult → Nat
  | .judged cls => cls.code
  | .unbooked reason => 6 + 16 * reason.code
  | .unidentified => 7

def LateCause.code : LateCause → Nat
  | .signal => 1
  | .train => 2
  | .unknown => 3

def ResetCause.code : ResetCause → Nat
  | .firstTime => 1
  | .step => 2
  | .timeSet => 3
  | .apply => 4

def LineRun.code : LineRun → Nat
  | .stopped => 1
  | .run => 2
  | .catchUp => 3
  | .hold => 4
  | .fault => 5

def ImpulseKind.code : ImpulseKind → Nat
  | .normal => 1
  | .probe => 2

def senseCode : Sense → Nat
  | .ok => 1
  | .openCircuit => 2
  | .shortCircuit => 3

def ClockChange.code : ClockChange → Nat
  | .set => 1
  | .state => 2
  | .fault => 3
  | .recovered => 4

def LineState.code : LineState → Nat
  | .starting => 1
  | .running => 2
  | .lost => 3

def RoundPhase.code : RoundPhase → Nat
  | .none => 1
  | .opened => 2
  | .closed => 3

def RecordClass.code : RecordClass → Nat
  | .vital => 0
  | .traffic => 1
  | .minor => 2

/-- A record's kind, numbered in the order of the record kinds table (R208). -/
def RecordBody.code : RecordBody → Nat
  | .movementEnd .. => 1
  | .movementOverdue .. => 2
  | .movementUnsupervised .. => 3
  | .timeStep .. => 4
  | .timeSet .. => 5
  | .markRejected .. => 6
  | .timeState .. => 7
  | .season .. => 8
  | .timetableReset .. => 9
  | .lineReset => 10
  | .lineLost .. => 10
  | .lineReturn .. => 10
  | .apply .. => 11
  | .config .. => 12
  | .clockLine .. => 13
  | .restartPower .. => 14
  | .restartOrder .. => 14
  | .commandChange .. => 15
  | .indicationChange .. => 16
  | .passing .. => 17
  | .missed .. => 18
  | .unknownAddress .. => 19
  | .expectationDropped .. => 20
  | .roundGap .. => 21
  | .indicationRepeat .. => 22
  | .bounce .. => 23

/-- A report's kind (R207). -/
def ReportKind.code : ReportKind → Nat
  | .movementFault => 1
  | .movementReturned => 2
  | .movementAbandonedNoEnd => 3
  | .clockLineFault => 4
  | .timeFree => 5
  | .movementOverdue => 6
  | .movementUnsupervised => 7
  | .timeStep => 8
  | .timeSet => 9
  | .lineLost => 10
  | .lineReturn => 11
  | .deviation => 12
  | .missed => 13
  | .unbooked => 14
  | .unidentified => 15
  | .unknownAddress => 16
  | .expectationDropped => 17
  | .duplicateIdent => 18
  | .applyDone => 19
  | .season => 20
  | .clockLineRecovered => 21

/-- The class in a DEVIATION's summary (R207). -/
def PassingClass.summaryCode : PassingClass → Nat
  | .early => 0
  | .rightTime => 1
  | .slightlyLate => 2
  | .late => 3
  | .unverified => 4

/-! ### Records (R208) -/

/-- The kind fields of a MOVEMENT END record (R98). -/
def MovementEnd.fields (m : MovementEnd) : List (List Byte) :=
  [toBytes 2 m.address, toBytes 2 m.index, toBytes 1 m.kind.code, toBytes 1 m.position, toBytes 1 m.outcome.code,
   optBytes 1 (m.reason.map (·.code)), toBytes 1 m.phase.code, toBytes 1 m.target, dateBytes m.start, toBytes 2 m.limit,
   boolBytes m.overdue, toBytes 4 m.total, optBytes 4 m.startDelay, optBytes 4 m.throwTime]

/-- The kind fields of a PASSING record (R115, R132). -/
def Passing.fields (p : Passing) : List (List Byte) :=
  [toBytes 1 p.point, toBytes 2 p.address, toBytes 2 p.index, toBytes 1 p.edge.code, optTrain p.train, toBytes 1 p.result.code,
   toBytes 4 p.span, toBytes 1 p.bounces, optBytes 2 p.layoutGeneration, optBytes 2 p.timetableGeneration,
   optSigned 3 p.planeDay, optBytes 2 p.entry, optBytes 1 p.kind, optBytes 1 p.slot, optBytes 2 p.booked,
   optSigned 2 p.lateness, optBytes 1 (p.cause.map (·.code)), optSigned 2 p.signalOffset]

/-- The kind fields of a CLOCK LINE record (R182). -/
def ClockRecord.fields (r : ClockRecord) : List (List Byte) :=
  [toBytes 1 (clockLineCode r.line), toBytes 1 r.change.code, toBytes 1 r.before.code, toBytes 1 r.after.code,
   optBytes 1 r.interval, optBytes 2 r.shown, optBytes 1 (r.polarity.map (·.code)), optBytes 2 r.target, optBytes 2 r.lag,
   optBytes 1 (r.sense.map senseCode)]

/-- The kind fields of an element record (R67, R68). -/
def elementFields (address index : Nat) (kind : ElementKind) (old new : Option Nat) : List (List Byte) :=
  [toBytes 2 address, toBytes 2 index, toBytes 1 kind.code, optBytes 2 old, optBytes 2 new]

/-- The kind fields of a record, field by field (R208). DESIGN CHOICE (entry 21): in a TIME SET record ST before, ST after, S before, S after; in a
TIMETABLE RESET record the current plane's count before the previous plane's. DESIGN CHOICE (entry 40): a window end before CT 0 in two's
complement. -/
def RecordBody.fields : RecordBody → List (List Byte)
  | .movementEnd m => m.fields
  | .movementOverdue address index kind position target phase start limit startDelay =>
      [toBytes 2 address, toBytes 2 index, toBytes 1 kind.code, toBytes 1 position, toBytes 1 target, toBytes 1 phase.code,
       dateBytes start, toBytes 2 limit, optBytes 4 startDelay]
  | .movementUnsupervised address index kind target lastIndicated reason =>
      [toBytes 2 address, toBytes 2 index, toBytes 1 kind.code, toBytes 1 target, optBytes 2 lastIndicated,
       toBytes 1 reason.code]
  | .timeStep e n labelled stBefore stAfter before after =>
      [toBytesSigned 8 e, toBytes 5 n, boolBytes labelled, toBytes 8 stBefore, toBytes 8 stAfter, toBytes 1 before.code,
       toBytes 1 after.code]
  | .timeSet stBefore stAfter sBefore sAfter before discarded =>
      [toBytes 8 stBefore, toBytes 8 stAfter, toBytes 1 sBefore, toBytes 1 sAfter, toBytes 1 before.code, boolBytes discarded]
  | .markRejected e n labelled => [toBytesSigned 8 e, toBytes 5 n, boolBytes labelled]
  | .timeState before after cause good trim =>
      [toBytes 1 before.code, toBytes 1 after.code, toBytes 1 cause.code, toBytes 1 good, toBytesSigned 2 trim]
  | .season old new => [toBytes 1 old, toBytes 1 new]
  | .timetableReset cause generation h0 day count pendingCurrent pendingPrevious discarded =>
      [toBytes 1 cause.code, toBytes 2 generation, toBytes 1 h0, toBytesSigned 3 day, toBytes 2 count,
       toBytes 2 pendingCurrent, toBytes 2 pendingPrevious, toBytes 2 discarded]
  | .lineReset => [toBytes 1 1]
  | .lineLost round timeout => [toBytes 1 2, optBytes 2 round, toBytes 4 timeout]
  | .lineReturn duration round => [toBytes 1 3, toBytes 4 duration, toBytes 2 round]
  | .apply scope trigger layoutGeneration timetableGeneration elements points elementsCarried pointsCarried =>
      [toBytes 1 (scopeCode (some scope)), toBytes 1 trigger.code, toBytes 2 layoutGeneration, toBytes 2 timetableGeneration,
       toBytes 2 elements, toBytes 2 points, toBytes 2 elementsCarried, toBytes 2 pointsCarried]
  | .config parameter written before taken =>
      [toBytes 1 parameter, toBytesSigned 4 written, toBytes 4 before, toBytes 4 taken]
  | .clockLine r => r.fields
  | .restartPower node rate => [toBytes 1 1, toBytes 2 node, toBytes 1 (rateCode rate)]
  | .restartOrder armed movements trains reports replyHeld =>
      [toBytes 1 2, optBytes 1 (armed.map fun x => scopeCode (some x)), toBytes 2 movements, toBytes 2 trains, toBytes 2 reports, boolBytes replyHeld]
  | .commandChange address index kind old new => elementFields address index kind old new
  | .indicationChange address index kind old new => elementFields address index kind old new
  | .passing p => p.fields
  | .missed day entry kind slot train point booked windowEnd generation =>
      [toBytesSigned 3 day, toBytes 2 entry, toBytes 1 kind, optBytes 1 slot, trainBytes train, toBytes 1 point,
       toBytes 2 booked, toBytesSigned 6 windowEnd, toBytes 2 generation]
  | .unknownAddress address command code => [toBytes 2 address, toBytes 1 (if command then 3 else 4), toBytes 2 code]
  | .expectationDropped point address edge train byApply =>
      [toBytes 1 point, toBytes 2 address, toBytes 1 edge.code, trainBytes train, toBytes 1 (if byApply then 2 else 1)]
  | .roundGap expected received => [toBytes 2 expected, toBytes 2 received]
  | .indicationRepeat address index kind old new => elementFields address index kind old new
  | .bounce point address index edge span settle =>
      [toBytes 1 point, toBytes 2 address, toBytes 2 index, toBytes 1 edge.code, toBytes 4 span, toBytes 4 settle]

/-- A journal record as delivered (R208). -/
def Record.bytes (r : Record) : List Byte :=
  toBytes 4 r.seq ++ toBytes 1 r.body.code ++ toBytes 1 r.body.cls.code ++ dateBytes r.date r.flags ++ r.body.fields.flatten

/-! ### Reports (R207) -/

/-- The greatest payload of a telegram (11 "The frame"). -/
def maxPayload : Nat := 58

/-- The leading whole fields that a number of bytes holds (R207). -/
def leadingFields : Nat → List (List Byte) → List Byte
  | _, [] => []
  | room, f :: rest => if f.length ≤ room then f ++ leadingFields (room - f.length) rest else []

/-- A report's summary (R207): for most reports as many whole leading kind fields as the payload holds. -/
def Summary.bytes (room : Nat) : Summary → List Byte
  | .ofRecord body => leadingFields room body.fields
  | .deviation cls train point lateness cause =>
      toBytes 1 cls.summaryCode ++ trainBytes train ++ toBytes 1 point ++ toBytesSigned 2 lateness ++
        toBytes 1 ((cause.map (·.code)).getD 0)
  | .duplicate point train position => toBytes 1 point ++ trainBytes train ++ toBytes 1 position

/-- The payload of a REPORT telegram (R207): a head of 14 bytes and the summary. -/
def Report.payload (rate : LineRate) (r : Report) : List Byte :=
  toBytes 1 r.kind.code ++ toBytes 1 r.priority ++ toBytes 4 r.seq ++ dateBytes r.date r.flags (rateCode rate) ++
    r.summary.bytes (maxPayload - 14)

/-! ### Replies (R206) -/

/-- The reply kind's code (R206). -/
def ReplyContent.code : ReplyContent → Nat
  | .refusal _ => 0
  | .journal _ _ => 1
  | .table _ _ _ _ => 2
  | .status _ => 3

/-- Whether the reply carries GAP (R159, R209). -/
def ReplyContent.gap : ReplyContent → Bool
  | .refusal _ => false
  | .journal h _ => h.gap
  | .table _ _ _ _ => false
  | .status _ => false

/-- The common head of the REPLY telegram now to start (R206). -/
def Reply.head (rate : LineRate) (r : Reply) : List Byte :=
  toBytes 1 (r.content.code + 4 * r.sent + 16 * (r.content.telegrams - 1) + 64 * yesNo r.overrun + 128 * yesNo r.content.gap) ++
    toBytes 1 (r.code.getD 0) ++ dateBytes r.arrival {} (rateCode rate)

/-- The body of a REFUSAL (R206). -/
def RefusalReason.bytes : RefusalReason → List Byte
  | .length => toBytes 1 1
  | .unknown => toBytes 1 2
  | .range => toBytes 1 3
  | .state => toBytes 1 4
  | .order f => toBytes 1 5 ++ toBytes 1 f.table.code ++ toBytes 2 f.index ++ toBytes 1 f.reason.code

/-- The journal header (R160, R206). -/
def JournalHeader.bytes (h : JournalHeader) : List Byte :=
  toBytes 4 h.asked ++ toBytes 1 h.taken ++ optSeq h.first ++ toBytes 1 h.delivered ++ toBytes 4 h.oldest ++
    toBytes 4 h.newest ++ toBytes 2 h.unread ++ toBytes 4 h.minorRefusals

/-- The fields of an element entry, the unused values for an unused one (R58). -/
def elementEntryBytes : Option Element → List Byte
  | some e => toBytes 2 e.address ++ toBytes 1 e.kind.code ++ toBytes 2 e.limit ++ toBytes 1 e.cls.code ++ boolBytes true
  | none =>
      toBytes 2 0 ++ toBytes 1 ElementKind.other.code ++ toBytes 2 0 ++ toBytes 1 JournalClass.nothing.code ++ boolBytes false

/-- The fields of a timing point, the unused values for an unused one (R60). -/
def pointEntryBytes : Option TimingPoint → List Byte
  | some p =>
      toBytes 2 p.sect ++ toBytes 1 p.edge.code ++ optBytes 2 p.signal ++ toBytes 1 p.threshold ++ toBytes 1 p.mode.code ++
        boolBytes true
  | none =>
      toBytes 2 0 ++ toBytes 1 Edge.occupy.code ++ optBytes 2 none ++ toBytes 1 0 ++ toBytes 1 ReportMode.exception.code ++
        boolBytes false

/-- A timing point's PSD record (R105, R192), the queue oldest first. DESIGN CHOICE (entry 22): the queue has four places, and those beyond its
length are absent train numbers. -/
def PointRecord.bytes (r : PointRecord) : List Byte :=
  optTrain r.queue[0]? ++ optTrain r.queue[1]? ++ optTrain r.queue[2]? ++ optTrain r.queue[3]? ++ toBytes 1 r.bounces ++
    instantBytes (r.lastPassing.map fun i => (i.rt, i.date, {}))

/-- The unused train number: the characters 0000 (R122). -/
def unusedTrain : TrainNumber := 0x30303030#32

/-- The fields of a timetable entry, the unused values for an unused one (R122). -/
def timetableEntryBytes : Option TimetableEntry → List Byte
  | some e =>
      trainBytes e.train ++ toBytes 1 e.point ++ toBytes 1 e.kind ++ toBytes 2 e.booked ++ toBytes 1 e.mask ++ boolBytes true
  | none => trainBytes unusedTrain ++ toBytes 1 0 ++ toBytes 1 0 ++ toBytes 2 0 ++ toBytes 1 0 ++ boolBytes false

/-- The first part of an element state record, up to the last indication instant (R62, R192). -/
def ElementState.firstBytes (x : ElementState) : List Byte :=
  optBytes 2 x.lastCommand ++ instantBytes (x.lastCommandAt.map fun i => (i.rt, i.date, {})) ++ optBytes 2 x.lastBadCommand ++
    optBytes 2 x.lastIndicated ++ instantBytes (x.lastIndicationAt.map fun i => (i.rt, i.date, i.flags))

/-- The second part of an element state record, from the last bad indication code on (R62, R192); the section fields of an element that is
no SECTION are absent (entry 22). -/
def ElementState.secondBytes (kind : ElementKind) (x : ElementState) : List Byte :=
  optBytes 2 x.lastBadIndication ++ optBytes 1 (if kind = .sect then some x.sectionState.code else none) ++
    optBytes 8 (if kind = .sect then some x.sectionSince else none) ++
    instantBytes (x.proceedProven.map fun i => (i.rt, i.date, {})) ++ optBytes 1 x.movement ++ boolBytes x.seen

/-- An entry's stored status, with L and the sequence number (R126, R192). -/
def EntryStatus.bytes : EntryStatus → List Byte
  | .pending => toBytes 1 1 ++ absentSigned 2 ++ optSeq none
  | .matched lateness seq => toBytes 1 2 ++ toBytesSigned 2 lateness ++ toBytes 4 seq
  | .missed => toBytes 1 3 ++ absentSigned 2 ++ optSeq none
  | .void => toBytes 1 4 ++ absentSigned 2 ++ optSeq none

/-- The content of an overlay slot; a FREE slot in its absent forms (R142, R206). -/
def overlaySlotBytes : Option OverlaySlot → List Byte
  | some { target, action := .replace train point booked mask } =>
      toBytes 2 target ++ toBytes 1 0 ++ trainBytes train ++ toBytes 1 point ++ toBytes 2 booked ++ toBytes 1 mask
  | some { target, action := .cancel } =>
      toBytes 2 target ++ toBytes 1 1 ++ optTrain none ++ absentBytes 1 ++ absentBytes 2 ++ absentBytes 1
  | none => absentBytes 2 ++ absentBytes 1 ++ optTrain none ++ absentBytes 1 ++ absentBytes 2 ++ absentBytes 1

/-- The first part of a movement record, up to the limit expiry; a FREE position in its absent forms (R80, R206). -/
def movementFirstBytes : Option Movement → List Byte
  | some r =>
      toBytes 2 r.element ++ toBytes 2 r.address ++ toBytes 1 r.kind.code ++ toBytes 1 r.target ++ toBytes 1 r.phase.code ++
        toBytes 8 r.start.rt ++ dateBytes r.start.date ++ toBytes 2 r.limit ++ toBytes 8 r.limitExpiry
  | none => absentBytes 33

/-- The second part of a movement record, from the abandon expiry on (R80, R192). -/
def movementSecondBytes : Option Movement → List Byte
  | some r => toBytes 8 r.abandonExpiry ++ boolBytes r.overdue ++ optBytes 8 r.loss
  | none => absentBytes 17

/-- The first part of a clock line, up to the impulse in flight (09, R192). -/
def ClockLine.firstBytes (l : ClockLine) : List Byte :=
  toBytes 1 l.state.code ++ optBytes 1 l.interval ++ optBytes 2 l.shown ++ optBytes 1 (l.polarity.map (·.code)) ++
    boolBytes l.wanted ++ optBytes 1 (l.flight.map (·.kind.code)) ++ optBytes 1 (l.flight.map (·.polarity.code)) ++
    optBytes 8 (l.flight.map (·.startRt)) ++ optBytes 8 (l.flight.map (·.endRt))

/-- A CLOCK LINE SET as held (R180). DESIGN CHOICE (entry 39): run or stop, interval, shown position and polarity, without the order's line field;
all ones where none is held. -/
def pendingSetBytes : Option ClockSet → List Byte
  | some (.run interval shown polarity) =>
      toBytes 1 1 ++ toBytes 1 interval ++ toBytes 2 shown ++ toBytes 1 polarity.code
  | some .stop => toBytes 1 0 ++ absentBytes 4
  | none => absentBytes 5

/-- The second part of a clock line, from the boundary noted flag on (09, R192). -/
def ClockLine.secondBytes (l : ClockLine) : List Byte :=
  boolBytes l.noted ++ optBytes 8 l.spacing ++ optBytes 8 l.probe ++ optBytes 1 (l.lastSense.map senseCode) ++
    pendingSetBytes l.pendingSet

/-- The fields of a TABLE entry in the first telegram, and in the second where the entry has two (R192, R206). -/
def TableEntry.bytes (second : Bool) : TableEntry → List Byte
  | .element e => elementEntryBytes e
  | .stagingPoint p => pointEntryBytes p
  | .activePoint (some p) => pointEntryBytes (some p.entry) ++ p.record.bytes
  | .activePoint none => pointEntryBytes none
  | .timetable e => timetableEntryBytes e
  | .elementState address kind st =>
      if second then st.secondBytes kind else toBytes 2 address ++ toBytes 1 kind.code ++ st.firstBytes
  | .plane day cursor status slot => toBytesSigned 3 day ++ toBytes 2 cursor ++ status.bytes ++ optBytes 1 slot
  | .overlay s => overlaySlotBytes s
  | .unknownAddress address length => optBytes 2 address ++ toBytes 2 length
  | .movement m => if second then movementSecondBytes m else movementFirstBytes m
  | .clockLine l => if second then l.secondBytes else l.firstBytes

/-- The first telegram of a STATUS reply: the rows up to and including the LYS row (R193, R206). DESIGN CHOICE (entry 20): the quality class and
the line rate, as fields of their own, are one byte each. DESIGN CHOICE (entry 21): the line error count of the I-port stands before that of the
F-port. -/
def Status.firstBytes (s : Status) : List Byte :=
  toBytes 2 s.node ++ toBytes 1 (rateCode s.rate) ++ toBytes 1 s.timeState.code ++ toBytes 8 s.st ++ toBytes 1 s.season ++
    toBytesSigned 2 s.trim ++ toBytesSigned 4 s.slew ++ toBytes 1 s.quality.code ++ boolBytes s.seasonScheduled ++
    toBytes 1 s.lineState.code ++ optBytes 2 s.round ++ toBytes 1 s.phase.code ++ toBytes 2 s.errorsI ++
    toBytes 2 s.errorsF ++ toBytes 2 s.layoutGeneration ++ toBytes 2 s.elements ++ toBytes 2 s.points ++
    toBytes 1 (scopeCode s.armed) ++ toBytes 2 s.unknownCount ++ toBytes 2 s.unseen

/-- The second telegram of a STATUS reply: the rows from the TTC row on (R193, R206). -/
def Status.secondBytes (s : Status) : List Byte :=
  toBytes 2 s.timetableGeneration ++ boolBytes s.timetableActive ++ toBytes 1 s.h0 ++ optSigned 3 s.planeDay ++
    toBytes 2 s.timetableCount ++ toBytes 2 s.movements ++ toBytes 2 s.stored ++ toBytes 2 s.unread ++ toBytes 4 s.newest ++
    toBytes 4 s.minorRefusals ++ toBytes 2 s.reports ++ toBytes 2 s.discarded ++ toBytes 1 s.lineA.code ++
    toBytes 1 s.lineB.code

/-- The body of a reply's telegram at a place counted from 0 (R206). -/
def ReplyContent.body (place : Nat) : ReplyContent → List Byte
  | .refusal reason => reason.bytes
  | .journal header records =>
      match place with
      | 0 => header.bytes
      | k + 1 => ((records[k]?).map Record.bytes).getD []
  | .table tbl selector index entry =>
      toBytes 1 tbl ++ toBytes 1 selector ++ toBytes 2 index ++ entry.bytes (decide (0 < place))
  | .status s => if place = 0 then s.firstBytes else s.secondBytes

/-- The payload of the next unsent REPLY telegram (R206), its head made as it starts (R209). -/
def Reply.payload (rate : LineRate) (r : Reply) : List Byte := r.head rate ++ r.content.body r.sent

end Sys2Proof.Machine
end

