-- ==== Sys2Proof/Machine/Movements.lean ====
section
/-! DEFINITION. The Movement Supervisor (05, R80 to R104): opening, transitions, expiries and closing of movement records, and the meanings
of the two expiries. -/

namespace Sys2Proof.Machine

/-- The open record at a position of the movement table. -/
def Mvs.at? (v : Mvs) (position : Nat) : Option Movement := (v.table[position]?).join

/-- A position of the movement table set. -/
def Mvs.put (v : Mvs) (position : Nat) (r : Option Movement) : Mvs := { v with table := v.table.set position r }

/-- The lowest-numbered FREE position (R80). -/
def Mvs.free? (v : Mvs) : Option Nat := v.table.findIdx? (·.isNone)

/-- The number of open records (R80). -/
def Mvs.openCount (v : Mvs) : Nat := (v.table.filter (·.isSome)).length

/-! ### Closing (R96 to R98) -/

/-- The MOVEMENT END record of a closing (R97, R98), for the RT of its end instant. -/
def Movement.endRecord (r : Movement) (position : Nat) (outcome : MovementOutcome) (reason : Option AbandonReason) (endRt : Nat) :
    RecordBody :=
  .movementEnd
    { address := r.address, index := r.element, kind := r.kind, position := position, outcome := outcome, reason := reason
      phase := r.phase, target := r.target, start := r.start.date, limit := r.limit, overdue := r.overdue
      total := durationMs endRt r.start.rt
      startDelay := r.loss.map fun l => durationMs l r.start.rt
      throwTime := r.loss.map fun l => durationMs endRt l }

/-- The flags of a MOVEMENT END (R98): the closing indication's, and PRECEDES COMMAND (R56). -/
def Movement.endFlags (r : Movement) (flags : Flags) (endRt : Nat) : Flags :=
  { flags with precedesCommand := precedesCommand r.start.rt endRt r.loss }

/-- The report that an outcome calls for (R96). -/
def outcomeReport : MovementOutcome → Option AbandonReason → Option ReportKind
  | .complete, _ => none
  | .late, _ => none
  | .returned, _ => some .movementReturned
  | .fault, _ => some .movementFault
  | .superseded, _ => none
  | .abandoned, some .noEnd => some .movementAbandonedNoEnd
  | .abandoned, some .line => none
  | .abandoned, some .apply => none
  | .abandoned, some .restart => none
  | .abandoned, none => none

/-- A record closes (R96): its MOVEMENT END, the report its outcome calls for, the element's link made absent, the position FREE. -/
def State.closeMovement (s : State) (position : Nat) (r : Movement) (outcome : MovementOutcome) (reason : Option AbandonReason)
    (ending : Instant) (flags : Flags) : State :=
  let body := r.endRecord position outcome reason ending.rt
  let all := r.endFlags flags ending.rt
  let s1 := match outcomeReport outcome reason with
    | some kind => s.writeReport body ending.date kind all
    | none => s.write body ending.date all
  (s1.onElement r.element fun e => { e with movement := none }).onMvs fun v => v.put position none

/-- Every open record closed ABANDONED with a reason, in rising order of table position (R99, R102). -/
def State.closeAll (s : State) (reason : AbandonReason) (ending : Instant) : State :=
  (List.range 64).foldl
    (fun s position => match s.mvs.at? position with
      | some r => s.closeMovement position r .abandoned (some reason) ending {}
      | none => s) s

/-! ### Opening (R82 to R86) -/

/-- What the opening rule calls for. -/
inductive Opening where
  | noRecord
  | unsupervised
  | opens (phase : MovementPhase)
  deriving DecidableEq, Repr

/-- The opening rule of a POINT (R83) and of a SIGNAL (R84), for the target and the last indicated code. -/
def openingRule (kind : ElementKind) (target : Nat) (lastIndicated : Option Nat) : Opening :=
  match kind with
  | .point =>
      if lastIndicated = some target then .noRecord
      else if lastIndicated = some 0 then .opens .moving
      else if lastIndicated = some 3 then .unsupervised
      else .opens .commanded
  | .signal =>
      if lastIndicated = some target then .noRecord
      else if target = 0 then .opens .replacing
      else .opens .clearing
  | .sect => .noRecord
  | .other => .noRecord

/-- The record that opens for an element (R83, R84, R85). -/
def newMovement (index : Nat) (e : Element) (target : Nat) (phase : MovementPhase) (start : Instant) : Movement :=
  { element := index, address := e.address, kind := e.kind, target := target, phase := phase, start := start, limit := e.limit
    limitExpiry := start.rt + e.limit * usPerMs, abandonExpiry := start.rt + 4 * e.limit * usPerMs, overdue := false
    loss := none }

/-- A command change that opens no record is unsupervised (R86). -/
def State.unsupervised (s : State) (index : Nat) (e : LiveElement) (target : Nat) (arrival : Instant)
    (reason : UnsupervisedReason) : State :=
  s.writeReport
    (.movementUnsupervised e.entry.address index e.entry.kind target e.state.lastIndicated reason) arrival.date
    .movementUnsupervised

/-- The opening rule applied to a command change (R83, R84, R86). -/
def State.openMovement (s : State) (index : Nat) (e : LiveElement) (target : Nat) (arrival : Instant) : State :=
  match openingRule e.entry.kind target e.state.lastIndicated with
  | .noRecord => s
  | .unsupervised => s.unsupervised index e target arrival .fault
  | .opens phase =>
      match s.mvs.free? with
      | some position =>
          (s.onMvs fun v => v.put position (some (newMovement index e.entry target phase arrival))).onElement index
            fun x => { x with movement := some position }
      | none => s.unsupervised index e target arrival .full

/-- The open record of an element, with its position (R81). -/
def State.openRecordOf (s : State) (e : LiveElement) : Option (Nat × Movement) :=
  e.state.movement.bind fun position => (s.mvs.at? position).map fun r => (position, r)

/-- A command change handed to the MVS (R82): an open record is closed SUPERSEDED, then the opening rule is applied. -/
def State.commandChange (s : State) (index : Nat) (target : Nat) (arrival : Instant) : State :=
  match s.lys.elements[index]? with
  | some e =>
      let s1 := match s.openRecordOf e with
        | some (position, r) => s.closeMovement position r .superseded none arrival {}
        | none => s
      s1.openMovement index e target arrival
  | none => s

/-! ### Indications during a movement (R87 to R92) -/

/-- What an indication does to a record. -/
inductive Transition where
  | noChange
  | toMoving
  | closes (outcome : MovementOutcome)
  deriving DecidableEq, Repr

/-- COMPLETE or LATE, by the overdue flag (R94). -/
def Movement.completion (r : Movement) : MovementOutcome := if r.overdue then .late else .complete

/-- The transition rules (R88, R89, R90, R91). -/
def Movement.transition (r : Movement) (code : Nat) : Transition :=
  match r.phase with
  | .commanded =>
      if code = r.target then .closes r.completion
      else if code = 0 then .toMoving
      else if code = 3 then .closes .fault
      else .noChange
  | .moving =>
      if code = r.target then .closes r.completion
      else if code = 0 then .noChange
      else if code = 3 then .closes .fault
      else .closes .returned
  | .clearing =>
      if code = r.target then .closes r.completion
      else if code = 15 then .closes .fault
      else .noChange
  | .replacing =>
      if code = r.target then .closes r.completion
      else if code = 15 then .closes .fault
      else .noChange

/-- Whether a closing proves proceed (R92): a CLEARING record closing COMPLETE or LATE. -/
def provesProceed : MovementPhase → MovementOutcome → Bool
  | .clearing, .complete => true
  | .clearing, .late => true
  | _, _ => false

/-- An indication handed to the MVS for an element with an open record (R87). -/
def State.indicationToMvs (s : State) (index : Nat) (code : Nat) (event : EventInstant) : State :=
  match s.lys.elements[index]? with
  | some e =>
      match s.openRecordOf e with
      | some (position, r) =>
          match r.transition code with
          | .noChange => s
          | .toMoving => s.onMvs fun v => v.put position (some { r with phase := .moving, loss := some event.rt })
          | .closes outcome =>
              let s1 := s.closeMovement position r outcome none event.instant event.flags
              if provesProceed r.phase outcome then
                s1.onElement index fun x => { x with proceedProven := some event.instant }
              else s1
      | none => s
  | none => s

/-! ### The expiries (R93, R95) -/

/-- LIMIT_EXPIRY is due at a position (R93). -/
def State.limitDue (s : State) (position : Nat) : Bool :=
  match s.mvs.at? position with
  | some r => !r.overdue && decide (r.limitExpiry ≤ s.tbu.rt)
  | none => false

/-- ABANDON_EXPIRY is due at a position (R95). -/
def State.abandonDue (s : State) (position : Nat) : Bool :=
  match s.mvs.at? position with
  | some r => decide (r.abandonExpiry ≤ s.tbu.rt)
  | none => false

/-- The limit expiry of the record at a position (R93). -/
def State.takeLimit (s : State) (position : Nat) (r : Movement) : State :=
  (s.onMvs fun v => v.put position (some { r with overdue := true })).writeReport
    (.movementOverdue r.address r.element r.kind position r.target r.phase r.start.date r.limit
      (r.loss.map fun l => durationMs l r.start.rt)) s.now .movementOverdue

/-- LIMIT_EXPIRY (R93). -/
def execLimitExpiry (position : Nat) (s : State) : Host.Outcome State Fault Refusal :=
  match s.mvs.at? position with
  | some r => if s.limitDue position then .next (s.takeLimit position r) else .next s
  | none => .next s

/-- ABANDON_EXPIRY (R95). -/
def execAbandonExpiry (position : Nat) (s : State) : Host.Outcome State Fault Refusal :=
  match s.mvs.at? position with
  | some r =>
      if s.abandonDue position then .next (s.closeMovement position r .abandoned (some .noEnd) s.nowInstant {})
      else .next s
  | none => .next s

end Sys2Proof.Machine
end

