-- ==== Sys2Proof/Machine/Passings.lean ====
section
/-! DEFINITION. The Passing Detector (06, R105 to R121): section edges, bounces and passings, and the two train orders. -/

namespace Sys2Proof.Machine

/-! ### Edges, bounces and passings (R111 to R116) -/

/-- A section edge as the LYS hands it over (R66, R111); `since` is the since RT of the state just left. -/
structure SectionEdge where
  sect : Nat
  address : Nat
  edge : Edge
  event : EventInstant
  since : Nat
  deriving DecidableEq, Repr

/-- The span of the state left (R112). -/
def SectionEdge.span (x : SectionEdge) : Nat := durationMs x.event.rt x.since

/-- A bounce at a point (R113). -/
def State.bounceAt (s : State) (x : SectionEdge) (point : Nat) : State :=
  (s.onPoint point fun r => { r with bounces := min (r.bounces + 1) 255 }).write
    (.bounce point x.address x.sect x.edge x.span s.orh.params.settleTime) x.event.date x.event.flags

/-- The PASSING record of an unidentified passing (R115). -/
def unidentifiedRecord (x : SectionEdge) (point : Nat) (bounces : Nat) : Passing :=
  { point := point, address := x.address, index := x.sect, edge := x.edge, train := none, result := .unidentified
    span := x.span, bounces := bounces, layoutGeneration := none, timetableGeneration := none, planeDay := none
    entry := none, kind := none, slot := none, booked := none, lateness := none, cause := none, signalOffset := none }

/-- The point record after a passing (R114): the head of the queue spent, the bounce count 0, the last passing this one. -/
def PointRecord.passed (x : SectionEdge) (r : PointRecord) : PointRecord :=
  { queue := r.queue.tail, bounces := 0, lastPassing := some x.event.instant }

/-- A passing at a point (R114): identified by the head of the queue and judged by the TTC (R116), or unidentified (R115). -/
def State.passingAt (s : State) (x : SectionEdge) (point : Nat) (p : LivePoint) : State :=
  let s1 := s.onPoint point (PointRecord.passed x)
  match p.record.queue with
  | train :: _ =>
      s1.judgePassing
        { point := point, entry := p.entry, train := train, event := x.event, address := x.address, edge := x.edge
          span := x.span, bounces := p.record.bounces, previous := p.record.lastPassing }
  | [] =>
      s1.writeReport (.passing (unidentifiedRecord x point p.record.bounces)) x.event.date .unidentified x.event.flags

/-- The edge taken at one point, if it names the section and triggers on the edge (R111, R112). -/
def State.edgeAtPoint (s : State) (x : SectionEdge) (point : Nat) : State :=
  match s.psd.points[point]? with
  | some p =>
      if p.entry.sect = x.sect ∧ p.entry.edge = x.edge then
        if x.span < s.orh.params.settleTime then s.bounceAt x point else s.passingAt x point p
      else s
  | none => s

/-- An edge handed to the PSD (R111): the points in rising index order, each finished before the next. -/
def State.takeEdge (s : State) (x : SectionEdge) : State :=
  (List.range s.psd.points.length).foldl (fun s point => s.edgeAtPoint x point) s

/-! ### TRAIN IDENT and TRAIN CANCEL (R107 to R110) -/

/-- How many numbers an expectation queue holds (R106). -/
def expectationSize : Nat := 4

/-- The EXPECTATION DROPPED record and its report (R109, R119). -/
def State.dropExpectation (s : State) (point address : Nat) (edge : Edge) (train : TrainNumber) (byApply : Bool) (date : Date) :
    State :=
  s.writeReport (.expectationDropped point address edge train byApply) date .expectationDropped

/-- A number named at a point (R107, R108, R109). -/
def State.identTrain (s : State) (point : Nat) (p : LivePoint) (train : TrainNumber) (date : Date) : State :=
  match p.record.queue.findIdx? (· == train) with
  | some position =>
      s.raise
        { kind := .duplicateIdent, priority := ReportKind.duplicateIdent.priority, seq := 0, date := date, flags := {}
          summary := .duplicate point train position }
  | none =>
      if p.record.queue.length < expectationSize then
        s.onPoint point fun r => { r with queue := r.queue ++ [train] }
      else
        match p.record.queue with
        | oldest :: _ =>
            (s.dropExpectation point (s.sectionAddress p.entry) p.entry.edge oldest false date).onPoint point
              fun r => { r with queue := r.queue.tail ++ [train] }
        | [] => s

/-- TRAIN IDENT taken from an order (R107). -/
def State.orderTrainIdent (s : State) (m : Manner) (c : Capture) (point : Nat) (train : TrainNumber) : State :=
  match s.psd.points[point]? with
  | some p => if trainOk train then s.identTrain point p train c.date else s.refuse m 0x48 c.date .range
  | none => s.refuse m 0x48 c.date .range

/-- A number removed from a queue, the numbers behind it closing up (R110). -/
def PointRecord.without (train : TrainNumber) (r : PointRecord) : PointRecord :=
  { r with queue := r.queue.filter (· != train) }

/-- TRAIN CANCEL taken from an order (R110); 0FFFFh names every used point (R205). -/
def State.orderTrainCancel (s : State) (m : Manner) (c : Capture) (train : TrainNumber) (point : Nat) : State :=
  if trainOk train = true ∧ (point = 65535 ∨ point < s.psd.points.length) then
    if point = 65535 then
      s.onPsd fun d => { d with points := d.points.map fun p => { p with record := p.record.without train } }
    else s.onPoint point (PointRecord.without train)
  else s.refuse m 0x49 c.date .range

/-- TRAIN_IDENT (R107). -/
def execTrainIdent (m : Manner) (point : Nat) (train : TrainNumber) (s : State) : Host.Outcome State Fault Refusal :=
  .next ((s.release .i).orderTrainIdent m (s.captureAt .i) point train)

/-- TRAIN_CANCEL (R110). -/
def execTrainCancel (m : Manner) (train : TrainNumber) (point : Nat) (s : State) : Host.Outcome State Fault Refusal :=
  .next ((s.release .i).orderTrainCancel m (s.captureAt .i) train point)

end Sys2Proof.Machine
end

