-- ==== Sys2Proof/Machine/Layout.lean ====
section
/-! DEFINITION. The Layout Store (04, R58 to R79): the staging writes, a COMMAND and an INDICATION taken, unknown addresses, line reset and
loss, APPLY with its validation, arming, taking effect and carry-over, and the meanings of their rows. -/

namespace Sys2Proof.Machine

/-! ### The staging writes (R59, R61) -/

/-- The element that an ELEMENT WRITE with used = yes stores, where its fields pass R59's RANGE checks. -/
def writtenElement (address kind limit cls : Nat) : Option Element :=
  match elementKindOf kind, journalClassOf cls with
  | some k, some j =>
      if 1 ≤ address ∧ address ≤ 3999 then some { address := address, kind := k, limit := clampLimit k limit, cls := j } else none
  | _, _ => none

/-- ELEMENT WRITE taken from an order (R59). -/
def State.orderElementWrite (s : State) (m : Manner) (c : Capture) (index address kind limit cls used : Nat) : State :=
  if index ≤ 1023 then
    match yesNoOf used with
    | some true =>
        match writtenElement address kind limit cls with
        | some e =>
            if s.lys.armed.isSome then s.refuse m 0x30 c.date .state
            else s.onLys fun l => { l with stagingElements := l.stagingElements.put index e }
        | none => s.refuse m 0x30 c.date .range
    | some false =>
        if s.lys.armed.isSome then s.refuse m 0x30 c.date .state
        else s.onLys fun l => { l with stagingElements := l.stagingElements.remove index }
    | none => s.refuse m 0x30 c.date .range
  else s.refuse m 0x30 c.date .range

/-- The point that a POINT WRITE with used = yes stores, where its fields pass R61's RANGE checks (R205 for the starting signal). -/
def writtenPoint (sect edge signal threshold mode : Nat) : Option TimingPoint :=
  match edgeOf edge, reportModeOf mode with
  | some e, some r =>
      if sect ≤ 1023 ∧ (signal ≤ 1023 ∨ signal = 65535) ∧ threshold ≤ 3 then
        some { sect := sect, edge := e, signal := signalOf signal, threshold := threshold, mode := r }
      else none
  | _, _ => none

/-- POINT WRITE taken from an order (R61). -/
def State.orderPointWrite (s : State) (m : Manner) (c : Capture) (index sect edge signal threshold mode used : Nat) : State :=
  if index ≤ 255 then
    match yesNoOf used with
    | some true =>
        match writtenPoint sect edge signal threshold mode with
        | some p =>
            if s.lys.armed.isSome then s.refuse m 0x31 c.date .state
            else s.onLys fun l => { l with stagingPoints := l.stagingPoints.put index p }
        | none => s.refuse m 0x31 c.date .range
    | some false =>
        if s.lys.armed.isSome then s.refuse m 0x31 c.date .state
        else s.onLys fun l => { l with stagingPoints := l.stagingPoints.remove index }
    | none => s.refuse m 0x31 c.date .range
  else s.refuse m 0x31 c.date .range

/-! ### Unknown addresses (R69) -/

/-- How many addresses the unknown-address list holds. -/
def unknownSize : Nat := 32

/-- A COMMAND or INDICATION of an unknown address (R69). -/
def State.unknownAddress (s : State) (address : Nat) (command : Bool) (code : Nat) (date : Date) (flags : Flags) : State :=
  if s.lys.unknown.contains address || decide (unknownSize ≤ s.lys.unknown.length) then s
  else
    (s.onLys fun l => { l with unknown := l.unknown ++ [address] }).writeReport
      (.unknownAddress address command code) date .unknownAddress flags

/-! ### A COMMAND taken (R63, R64, R67, R68) -/

/-- A command change is journaled in class ALL and CHANGES (R67). -/
def journalsChange : JournalClass → Bool
  | .all => true
  | .changes => true
  | .nothing => false

/-- A record written where a class asks for it (R67). -/
def State.writeIf (s : State) (asked : Bool) (body : RecordBody) (date : Date) (flags : Flags) : State :=
  if asked then s.write body date flags else s

/-- Whether a kind's command changes go to the MVS (R64). -/
def ElementKind.moves : ElementKind → Bool
  | .point => true
  | .signal => true
  | .sect => false
  | .other => false

/-- A COMMAND with a valid code (R64): a change is stored, journaled by class and handed to the MVS; a repeat is not. -/
def State.validCommand (s : State) (index : Nat) (e : LiveElement) (code : Nat) (arrival : Instant) : State :=
  if e.state.lastCommand = some code then
    s.onElement index fun x => { x with seen := true, lastBadCommand := none }
  else
    let s1 := s.onElement index fun x =>
      { x with seen := true, lastBadCommand := none, lastCommand := some code, lastCommandAt := some arrival }
    let s2 := s1.writeIf (journalsChange e.entry.cls)
      (.commandChange e.entry.address index e.entry.kind e.state.lastCommand (some code)) arrival.date {}
    if e.entry.kind.moves then s2.commandChange index code arrival else s2

/-- A COMMAND with a bad code (R68). -/
def State.badCommand (s : State) (index : Nat) (e : LiveElement) (code : Nat) (arrival : Instant) : State :=
  let s1 := s.onElement index fun x => { x with seen := true, lastBadCommand := some code }
  s1.writeIf (journalsChange e.entry.cls && decide (e.state.lastBadCommand ≠ some code))
    (.commandChange e.entry.address index e.entry.kind e.state.lastCommand (some code)) arrival.date { badCode := true }

/-- A GOOD COMMAND handed to the LYS with its capture (R8, R49, R63). -/
def State.takeCommand (s : State) (address code : Nat) (c : Capture) : State :=
  match s.indexOf address with
  | some index =>
      match s.lys.elements[index]? with
      | some e =>
          if commandCodeOk e.entry.kind code then s.validCommand index e code c.instant
          else s.badCommand index e code c.instant
      | none => s
  | none => s.unknownAddress address true code c.date {}

/-! ### An INDICATION taken (R65 to R68) -/

/-- The fields of an element state that a valid indication sets (R53, R65, R66). The since RT takes the event RT where the section state differs
(R66), and at the first indication since the record was made or reset (R118; entry 41). -/
def ElementState.indicated (x : ElementState) (kind : ElementKind) (code : Nat) (event : EventInstant) : ElementState :=
  let dated := kind = .sect ∧ (sectionStateOf code ≠ x.sectionState ∨ x.lastIndicated = none)
  { x with
    seen := true, lastBadIndication := none, lastIndicated := some code, lastIndicationAt := some event
    sectionState := if kind = .sect then sectionStateOf code else x.sectionState
    sectionSince := if dated then event.rt else x.sectionSince }

/-- The section edge a valid indication makes, if it makes one (R66). -/
def sectionEdgeOf (index : Nat) (e : LiveElement) (code : Nat) (event : EventInstant) : Option SectionEdge :=
  if e.entry.kind = .sect then
    (edgeBetween e.state.sectionState (sectionStateOf code)).map fun edge =>
      { sect := index, address := e.entry.address, edge := edge, event := event, since := e.state.sectionSince }
  else none

/-- The record of a valid indication, by class (R67). -/
def State.indicationRecord (s : State) (index : Nat) (e : LiveElement) (code : Nat) (event : EventInstant) : State :=
  if e.state.lastIndicated = some code then
    s.writeIf (decide (e.entry.cls = .all))
      (.indicationRepeat e.entry.address index e.entry.kind e.state.lastIndicated (some code)) event.date event.flags
  else
    s.writeIf (journalsChange e.entry.cls)
      (.indicationChange e.entry.address index e.entry.kind e.state.lastIndicated (some code)) event.date event.flags

/-- An INDICATION with a valid code (R65): stored, journaled, and handed to the MVS or, as an edge, to the PSD. -/
def State.validIndication (s : State) (index : Nat) (e : LiveElement) (code : Nat) (event : EventInstant) : State :=
  let s1 := (s.onElement index fun x => x.indicated e.entry.kind code event).indicationRecord index e code event
  let s2 := if e.entry.kind.moves then s1.indicationToMvs index code event else s1
  match sectionEdgeOf index e code event with
  | some edge => s2.takeEdge edge
  | none => s2

/-- An INDICATION with a bad code (R54, R68). DESIGN CHOICE (entry 42): an INDICATION REPEAT with BAD CODE carries the last valid code as the old
code, as the CHANGE record does. -/
def State.badIndication (s : State) (index : Nat) (e : LiveElement) (code : Nat) (event : EventInstant) : State :=
  let flags : Flags := { event.flags with badCode := true }
  let s1 := s.onElement index fun x => { x with seen := true, lastBadIndication := some code }
  if e.state.lastBadIndication = some code then
    s1.writeIf (decide (e.entry.cls = .all))
      (.indicationRepeat e.entry.address index e.entry.kind e.state.lastIndicated (some code)) event.date flags
  else
    s1.writeIf (journalsChange e.entry.cls)
      (.indicationChange e.entry.address index e.entry.kind e.state.lastIndicated (some code)) event.date flags

/-- A GOOD INDICATION handed to the LYS with its capture (R8, R50, R63): judged for order against the element's last indication instant. -/
def State.takeIndication (s : State) (address code : Nat) (age : Option Nat) (c : Capture) : State :=
  let event := eventInstant c age
  match s.indexOf address with
  | some index =>
      match s.lys.elements[index]? with
      | some e =>
          let judged := event.judged e.state.lastIndicationAt
          if indicationCodeOk e.entry.kind code then s.validIndication index e code judged
          else s.badIndication index e code judged
      | none => s
  | none => s.unknownAddress address false code event.date event.flags

/-! ### Line reset, loss and return, RESTART (R70, R71, R79) -/

/-- An element state reset by a line reset or the loss of the line (R71). -/
def ElementState.lineReset (x : ElementState) (rt : Nat) : ElementState :=
  { x with lastCommand := none, lastCommandAt := none, lastBadCommand := none, lastIndicated := none, lastIndicationAt := none
           lastBadIndication := none, sectionState := .unknown, sectionSince := rt }

/-- Every element state updated. -/
def State.onElements (s : State) (f : ElementState → ElementState) : State :=
  s.onLys fun l => { l with elements := l.elements.map fun e => { e with state := f e.state } }

/-- The LYS, the MVS and the PSD told of a line reset or the loss of the line (R71, R99, R118). -/
def State.lineKnowledgeLost (s : State) (ending : Instant) : State :=
  (s.onElements fun x => x.lineReset ending.rt).closeAll .line ending

/-- A fresh element state record (R62), its section state since at an RT. -/
def freshElementState (rt : Nat) : ElementState := { sectionSince := rt }

/-! ### Validation of an APPLY (R72) -/

/-- The scope validated and armed: the order's, merged with the scope already armed (R73). -/
def mergeScope : Option Scope → Scope → Scope
  | none, x => x
  | some .layout, .layout => .layout
  | some .timetable, .timetable => .timetable
  | some .layout, .timetable => .both
  | some .layout, .both => .both
  | some .timetable, .layout => .both
  | some .timetable, .both => .both
  | some .both, _ => .both

/-- Whether a scope holds LAYOUT. -/
def Scope.hasLayout : Scope → Bool
  | .layout => true
  | .both => true
  | .timetable => false

/-- Whether a scope holds TIMETABLE. -/
def Scope.hasTimetable : Scope → Bool
  | .layout => false
  | .both => true
  | .timetable => true

/-- The element checks (R72), from the position `k` on, `before` being the address of the entry before it. -/
def checkElements : Nat → Nat → Bank Element → Option ApplyFailure
  | _, _, [] => none
  | k, before, (i, e) :: rest =>
      if i ≠ k then some ⟨.element, i, .prefixRule⟩
      else if e.address ≤ before then some ⟨.element, i, .addressOrder⟩
      else checkElements (k + 1) e.address rest

/-- Whether a timing point's links stand against an element bank (R60, R72). -/
def linksOk (elements : Bank Element) (p : TimingPoint) : Bool :=
  (match elements.get? p.sect with | some e => decide (e.kind = .sect) | none => false) &&
    (match p.signal with
      | some x => (match elements.get? x with | some e => decide (e.kind = .signal) | none => false)
      | none => true)

/-- The timing point checks (R72). -/
def checkPoints (elements : Bank Element) : Nat → Bank TimingPoint → Option ApplyFailure
  | _, [] => none
  | k, (i, p) :: rest =>
      if i ≠ k then some ⟨.point, i, .prefixRule⟩
      else if linksOk elements p = false then some ⟨.point, i, .link⟩
      else checkPoints elements (k + 1) rest

/-- The timetable checks (R72), `before` being the booked time of the entry before. -/
def checkTimetable (points : Nat) : Nat → Nat → Bank TimetableEntry → Option ApplyFailure
  | _, _, [] => none
  | k, before, (i, e) :: rest =>
      if i ≠ k then some ⟨.timetable, i, .prefixRule⟩
      else if e.booked < before then some ⟨.timetable, i, .bookedOrder⟩
      else if points ≤ e.point then some ⟨.timetable, i, .timingPoint⟩
      else checkTimetable points (k + 1) e.booked rest

/-- An active bank's entries with their indexes. -/
def indexed {α : Type} : Nat → List α → Bank α
  | _, [] => []
  | k, x :: rest => (k, x) :: indexed (k + 1) rest

/-- The overlay check (R72). -/
def checkOverlay (points : Nat) : Nat → List (Option OverlaySlot) → Option ApplyFailure
  | _, [] => none
  | k, some { target := _, action := .replace _ point _ _ } :: rest =>
      if points ≤ point then some ⟨.overlay, k, .timingPoint⟩ else checkOverlay points (k + 1) rest
  | k, some { target := _, action := .cancel } :: rest => checkOverlay points (k + 1) rest
  | k, none :: rest => checkOverlay points (k + 1) rest

/-- The first failing check of an APPLY with a scope (R72). -/
def State.validate (s : State) : Scope → Option ApplyFailure
  | .layout =>
      (checkElements 0 0 s.lys.stagingElements).or <|
        (checkPoints s.lys.stagingElements 0 s.lys.stagingPoints).or <|
          (checkTimetable s.lys.stagingPoints.length 0 0 (indexed 0 s.ttc.entries)).or <|
            checkOverlay s.lys.stagingPoints.length 0 s.ttc.overlay
  | .timetable => checkTimetable s.psd.points.length 0 0 s.ttc.staging
  | .both =>
      (checkElements 0 0 s.lys.stagingElements).or <|
        (checkPoints s.lys.stagingElements 0 s.lys.stagingPoints).or <|
          checkTimetable s.lys.stagingPoints.length 0 0 s.ttc.staging

/-! ### Carry-over of a LAYOUT apply (R76, R77, R100, R105, R119) -/

/-- The old index of the element a new entry is matched with: the same address and kind (R76). -/
def matchElement (old : List LiveElement) (e : Element) : Option Nat :=
  old.findIdx? fun x => x.entry.address == e.address && x.entry.kind == e.kind

/-- The new active element bank with its state records: a matched record moves whole, its seen flag cleared; the others are fresh (R76, R77). -/
def carryElements (old : List LiveElement) (new : List Element) (rt : Nat) : List LiveElement :=
  new.map fun e =>
    match (matchElement old e).bind fun i => old[i]? with
    | some x => { entry := e, state := { x.state with seen := false } }
    | none => { entry := e, state := freshElementState rt }

/-- The new index of an old element, where it is matched (R76). -/
def newIndexOf (old : List LiveElement) (new : List Element) (i : Nat) : Option Nat :=
  match old[i]? with
  | some x => new.findIdx? fun e => e.address == x.entry.address && e.kind == x.entry.kind
  | none => none

/-- The address of the section a point names in an element bank. -/
def sectionAddressIn (elements : List Element) (p : TimingPoint) : Option Nat := (elements[p.sect]?).map (·.address)

/-- The lowest old point with the same edge and section address, not matched yet (R77). -/
def matchPoint (oldElements newElements : List Element) (old : List LivePoint) (taken : List Nat) (p : TimingPoint) :
    Option Nat :=
  (List.range old.length).find? fun j =>
    !taken.contains j &&
      (match old[j]? with
        | some q =>
            q.entry.edge == p.edge && sectionAddressIn oldElements q.entry == sectionAddressIn newElements p
        | none => false)

/-- The old point that each new point is matched with, in rising index order (R77). -/
def matchPoints (oldElements newElements : List Element) (old : List LivePoint) :
    List Nat → List TimingPoint → List (Option Nat)
  | _, [] => []
  | taken, p :: rest =>
      match matchPoint oldElements newElements old taken p with
      | some j => some j :: matchPoints oldElements newElements old (j :: taken) rest
      | none => none :: matchPoints oldElements newElements old taken rest

/-- The new active points with their records: a matched old record is taken over whole, the others are fresh (R105). -/
def carryPoints (old : List LivePoint) (new : List TimingPoint) (matches_ : List (Option Nat)) : List LivePoint :=
  (new.zip matches_).map fun x =>
    { entry := x.1, record := ((x.2.bind fun j => old[j]?).map (·.record)).getD {} }

/-- One open movement at a LAYOUT apply (R100): re-linked where its element is matched, else closed ABANDONED with reason APPLY. -/
def State.carryMovement (s : State) (new : List Element) (ending : Instant) (position : Nat) : State :=
  match s.mvs.at? position with
  | some r =>
      match newIndexOf s.lys.elements new r.element with
      | some i => s.onMvs fun v => v.put position (some { r with element := i })
      | none => s.closeMovement position r .abandoned (some .apply) ending {}
  | none => s

/-- The numbers in the queue of an old point left unmatched are dropped, oldest first (R119). -/
def State.dropQueue (s : State) (oldElements : List Element) (point : Nat) (p : LivePoint) (date : Date) : State :=
  p.record.queue.foldl
    (fun s train =>
      s.dropExpectation point ((sectionAddressIn oldElements p.entry).getD 0) p.entry.edge train true date) s

/-- The queues of the old points left unmatched, in rising index order (R119). -/
def State.dropQueues (s : State) (oldElements : List Element) (old : List LivePoint) (taken : List (Option Nat)) (date : Date) :
    State :=
  (List.range old.length).foldl
    (fun s j =>
      match old[j]? with
      | some p => if taken.contains (some j) then s else s.dropQueue oldElements j p date
      | none => s) s

/-- A LAYOUT apply carried out (R75, R76, R77): the movements, the banks with what is carried, the queues dropped, the generation. -/
def State.applyLayout (s : State) (ending : Instant) : State :=
  let newElements := s.lys.stagingElements.values
  let newPoints := s.lys.stagingPoints.values
  let oldElements := s.lys.elements.map (·.entry)
  let oldPoints := s.psd.points
  let matched := matchPoints oldElements newElements oldPoints [] newPoints
  let s1 := (List.range 64).foldl (fun s position => s.carryMovement newElements ending position) s
  let s2 := s1.onLys fun l =>
    { l with elements := carryElements l.elements newElements ending.rt, unknown := []
             generation := (l.generation + 1) % 65536 }
  let s3 := s2.onPsd fun d => { d with points := carryPoints d.points newPoints matched }
  s3.dropQueues oldElements oldPoints matched ending.date

/-! ### Taking effect (R74, R75) -/

/-- The number of elements that a LAYOUT apply carries over (R75). -/
def State.elementsCarried (s : State) : Nat :=
  (s.lys.stagingElements.values.filter fun e => (matchElement s.lys.elements e).isSome).length

/-- The number of timing points that a LAYOUT apply carries over (R75). -/
def State.pointsCarried (s : State) : Nat :=
  ((matchPoints (s.lys.elements.map (·.entry)) s.lys.stagingElements.values s.psd.points []
    s.lys.stagingPoints.values).filter (·.isSome)).length

/-- The APPLY record (R75): the generations and counts after, and the counts carried (none without LAYOUT, entry 19). -/
def State.applyRecord (s : State) (scope : Scope) (trigger : ApplyTrigger) : RecordBody :=
  .apply scope trigger
    (if scope.hasLayout then (s.lys.generation + 1) % 65536 else s.lys.generation)
    (if scope.hasTimetable then (s.ttc.generation + 1) % 65536 else s.ttc.generation)
    (if scope.hasLayout then s.lys.stagingElements.length else s.lys.elements.length)
    (if scope.hasLayout then s.lys.stagingPoints.length else s.psd.points.length)
    (if scope.hasLayout then s.elementsCarried else 0)
    (if scope.hasLayout then s.pointsCarried else 0)

/-- An APPLY takes effect (R75): the record and APPLY DONE, the layout, then the timetable, then DISARMED. -/
def State.takeApply (s : State) (scope : Scope) (trigger : ApplyTrigger) (ending : Instant) : State :=
  let s1 := s.writeReport (s.applyRecord scope trigger) ending.date .applyDone
  let s2 := if scope.hasLayout then s1.applyLayout ending else s1
  let s3 := if scope.hasTimetable then s2.applyTimetable else s2
  s3.onLys fun l => { l with armed := none }

/-- The armed APPLY, if one is armed, takes effect (R74). -/
def State.takeArmed (s : State) (trigger : ApplyTrigger) (ending : Instant) : State :=
  match s.lys.armed with
  | some scope => s.takeApply scope trigger ending
  | none => s

/-- APPLY taken from an order (R72, R73): validated for the merged scope, then armed, or in LOST in effect at once (R74). -/
def State.orderApply (s : State) (m : Manner) (c : Capture) (code : Nat) : State :=
  match scopeOf code with
  | some asked =>
      let scope := mergeScope s.lys.armed asked
      match s.validate scope with
      | some failure => s.refuse m 0x33 c.date (.order failure)
      | none =>
          if s.liu.lineState = .lost then s.takeApply scope .orderInLost c.instant
          else s.onLys fun l => { l with armed := some scope }
  | none => s.refuse m 0x33 c.date (.order ⟨.noTable, 0, .scope⟩)

/-! ### The meanings -/

/-- COMMAND (R64). -/
def execCommand (address code : Nat) (s : State) : Host.Outcome State Fault Refusal :=
  .next ((s.release .i).takeCommand address code (s.captureAt .i))

/-- INDICATION (R65). -/
def execIndication (address code : Nat) (age : Option Nat) (s : State) : Host.Outcome State Fault Refusal :=
  .next ((s.release .f).takeIndication address code age (s.captureAt .f))

/-- ELEMENT_WRITE (R59). -/
def execElementWrite (m : Manner) (index address kind limit cls used : Nat) (s : State) : Host.Outcome State Fault Refusal :=
  .next ((s.release .i).orderElementWrite m (s.captureAt .i) index address kind limit cls used)

/-- POINT_WRITE (R61). -/
def execPointWrite (m : Manner) (index sect edge signal threshold mode used : Nat) (s : State) :
    Host.Outcome State Fault Refusal :=
  .next ((s.release .i).orderPointWrite m (s.captureAt .i) index sect edge signal threshold mode used)

/-- APPLY (R72 to R75). -/
def execApply (m : Manner) (scope : Nat) (s : State) : Host.Outcome State Fault Refusal :=
  .next ((s.release .i).orderApply m (s.captureAt .i) scope)

end Sys2Proof.Machine
end

