-- ==== Sys2Proof/Machine/Line.lean ====
section
/-! DEFINITION. The Line Interface Unit (01): relay and the forwarding hold buffer (R5, R7), silence (R2), the rounds (R9, R10, R11) and the line
state (R12, R13, R14), and the meanings of their rows. The receiver's bytes stand in Telegram.lean, the part's own telegrams in Turn.lean. -/

namespace Sys2Proof.Machine

/-! ### Relay (R5, R7) -/

/-- How many bytes the forwarding hold buffer holds (R7). -/
def holdSize : Nat := 128

/-- Whether a receiver stands within a telegram (R2). -/
def ReceiverState.inTelegram : ReceiverState → Bool
  | .idle => false
  | .noise => false
  | .header => true
  | .body => true
  | .skip => true

/-- The telegram in progress at the F-port loses a byte to overflow: counted once for the telegram (R7); noise belongs to no telegram (entry 11). -/
def Liu.cutTelegram (l : Liu) : Liu :=
  if l.rxF.state.inTelegram && !l.rxF.cut then
    { l with errorsF := countUp l.errorsF, rxF := { l.rxF with cut := true } }
  else l

/-- An upstream byte reaches the forwarding hold buffer (R7). -/
def Liu.hold (l : Liu) (b : Byte) : Liu :=
  if l.holdBuffer.length < holdSize then { l with holdBuffer := l.holdBuffer ++ [b] } else l.cutTelegram

/-- An upstream byte released to the I-port (R7): to the hold buffer while a part telegram is sent or the buffer holds bytes, else straight to the
transmitter. -/
def Liu.relayUp (l : Liu) (b : Byte) : Liu :=
  match l.tx, l.holdBuffer with
  | .part _ _, _ => l.hold b
  | .idle, [] => { l with tx := .relaying [b] }
  | .idle, _ :: _ => l.hold b
  | .relaying direct, [] => { l with tx := .relaying (direct ++ [b]) }
  | .relaying _, _ :: _ => l.hold b

/-- A byte received at a port relayed out of the other (R5). -/
def Liu.relay (l : Liu) (p : Port) (b : Byte) : Liu :=
  match p with
  | .i => { l with fOut := l.fOut ++ [b] }
  | .f => l.relayUp b

/-- Bytes relayed in order (R5). -/
def Liu.relayAll (l : Liu) (p : Port) (bs : List Byte) : Liu := bs.foldl (fun l b => l.relay p b) l

/-- The upstream byte that has gone out of the I-port leaves the hold buffer, or the transmitter where the buffer is empty, and the transmitter is
idle when its last byte has gone out (R7). -/
def Liu.byteSent (l : Liu) : Liu :=
  match l.tx, l.holdBuffer with
  | .relaying direct, b :: rest =>
      { l with holdBuffer := rest, iOut := l.iOut ++ [b]
               tx := if rest = [] ∧ direct = [] then .idle else .relaying direct }
  | .relaying (b :: rest), [] =>
      { l with iOut := l.iOut ++ [b], tx := if rest = [] then .idle else .relaying rest }
  | .relaying [], [] => { l with tx := .idle }
  | .idle, _ => l
  | .part _ _, _ => l

/-- RELAYED_BYTE_SENT (R7). -/
def execRelayedByteSent (s : State) : Host.Outcome State Fault Refusal := .next (s.onLiu Liu.byteSent)

/-! ### Silence (R2) -/

/-- The telegram in progress at a port is TRUNCATED (R2): the bytes in the lag stage are relayed, the error counted, the capture discarded. -/
def State.truncate (s : State) (p : Port) : State :=
  ((s.onLiu fun l => l.relayAll p (s.rx p).lag).lineError p).release p

/-- The line falls silent at a port (R2). -/
def State.takeSilence (s : State) (p : Port) : State :=
  match (s.rx p).state with
  | .idle => s
  | .noise => s.onRx p fun _ => {}
  | .header => s.truncate p
  | .body => s.truncate p
  | .skip => s.onRx p fun _ => {}

/-- LINE_SILENT (R2). -/
def execLineSilent (p : Port) (s : State) : Host.Outcome State Fault Refusal := .next (s.takeSilence p)

/-! ### ROUND OPEN (R9, R12, R14) -/

/-- The round phase OPEN, the loss expiry and the arrival RT it is measured from (R9, R12). -/
def Liu.openRound (l : Liu) (arrival timeoutMs : Nat) : Liu :=
  { l with phase := .opened, lossExpiry := some (arrival + timeoutMs * usPerMs), lastOpenRt := some arrival }

/-- Whether a round number received is a gap after the stored one (R9). -/
def isGap (stored : Option Nat) (received : Nat) : Option Nat :=
  match stored with
  | some n => if received = (n + 1) % 256 then none else some ((n + 1) % 256)
  | none => none

/-- A ROUND OPEN in RUNNING: a gap is written (R9). -/
def State.compareRound (s : State) (number : Nat) (date : Date) : State :=
  match isGap s.liu.round number with
  | some expected => s.write (.roundGap expected number) date
  | none => s

/-- A ROUND OPEN in LOST returns the line (R14): the record and report, then the seen flags cleared (R70). -/
def State.returnLine (s : State) (number : Nat) (c : Capture) : State :=
  (s.writeReport (.lineReturn (durationMs c.rt (s.liu.lostRt.getD c.rt)) number) c.date .lineReturn).onElements
    fun x => { x with seen := false }

/-- The line state and the round number after a ROUND OPEN (R9, R12, R14). -/
def Liu.runRound (l : Liu) (number : Nat) : Liu := { l with lineState := .running, round := some number, lostRt := none }

/-- The round number compared as the line state governs (R9). -/
def State.judgeRound (s : State) (number : Nat) (c : Capture) : State :=
  match s.liu.lineState with
  | .starting => s
  | .running => s.compareRound number c.date
  | .lost => s.returnLine number c

/-- A GOOD ROUND OPEN taken (R9): the round opens, the armed APPLY takes effect (R74), the turn ends, and the number is compared and stored. -/
def State.takeRoundOpen (s : State) (number : Nat) (c : Capture) : State :=
  let s1 := s.onLiu fun l => l.openRound c.rt s.orh.params.lossTimeout
  let s2 := (s1.takeArmed .roundOpen c.instant).endTurn
  (s2.judgeRound number c).onLiu fun l => l.runRound number

/-- ROUND_OPEN (R9). -/
def execRoundOpen (number : Nat) (s : State) : Host.Outcome State Fault Refusal :=
  .next ((s.release .i).takeRoundOpen number (s.captureAt .i))

/-! ### ROUND CLOSE (R10, R15) -/

/-- A GOOD ROUND CLOSE taken (R10): in round phase OPEN the phase becomes CLOSED and the turn opens with the allotment in force (R15). -/
def State.takeRoundClose (s : State) : State :=
  match s.liu.phase with
  | .none => s
  | .opened => s.onLiu fun l => { l with phase := .closed, turn := .opened s.orh.params.allotment 0 }
  | .closed => s

/-- ROUND_CLOSE (R10). -/
def execRoundClose (s : State) : Host.Outcome State Fault Refusal := .next (s.release .i).takeRoundClose

/-! ### LINE RESET (R11) -/

/-- A GOOD LINE RESET taken (R11). -/
def State.takeLineReset (s : State) (c : Capture) : State :=
  let s1 := (s.onLiu fun l => { l with phase := .none, round := none }).endTurn
  (s1.write .lineReset c.date).lineKnowledgeLost c.instant

/-- LINE_RESET (R11). -/
def execLineReset (s : State) : Host.Outcome State Fault Refusal :=
  .next ((s.release .i).takeLineReset (s.captureAt .i))

/-! ### The loss of the line (R12, R13) -/

/-- LOSS_EXPIRY is due (R13): RUNNING, and RT has reached the loss expiry. -/
def State.lossDue (s : State) : Bool :=
  decide (s.liu.lineState = .running) && (match s.liu.lossExpiry with | some x => decide (x ≤ s.tbu.rt) | none => false)

/-- The LIU at the loss of the line (R13). -/
def Liu.lose (l : Liu) (rt : Nat) : Liu := { l with lineState := .lost, lossExpiry := none, phase := .none, lostRt := some rt }

/-- The line is lost (R13): its record and report, the LYS and the MVS told (R71, R99), and then an armed APPLY takes effect (R74). -/
def State.loseLine (s : State) : State :=
  let s1 := (s.onLiu fun l => l.lose s.tbu.rt).endTurn
  let s2 := s1.writeReport (.lineLost s1.liu.round s.orh.params.lossTimeout) s1.now .lineLost
  (s2.lineKnowledgeLost s.nowInstant).takeArmed .lineLost s.nowInstant

/-- The loss expiry, where it is reached (R13). -/
def State.takeLoss (s : State) : State := if s.lossDue then s.loseLine else s

/-- LOSS_EXPIRY (R13). -/
def execLossExpiry (s : State) : Host.Outcome State Fault Refusal := .next s.takeLoss

end Sys2Proof.Machine
end

