-- ==== Sys2Proof/Machine/Turn.lean ====
section
/-! DEFINITION. The part's own telegrams in the upstream turn (R15 to R17, R188, R196, R201), and the meanings of their two rows. -/

namespace Sys2Proof.Machine

/-- R17's three conditions for a part telegram to start: the transmitter idle, the hold buffer empty, and the F-port receiver in IDLE or NOISE. -/
def Liu.mayStart (l : Liu) : Bool := decide (l.tx = .idle) && l.holdBuffer.isEmpty && !l.rxF.state.inTelegram

/-- PART_TELEGRAM_START is due (R16, R17): the turn is open, and a part telegram may start. -/
def State.partStartDue (s : State) : Bool := decide (s.liu.turn ≠ .closed) && s.liu.mayStart

/-- The LIU sending a part telegram (R17). -/
def Liu.startPart (l : Liu) (bytes : List Byte) (ofSlot : Bool) : Liu := { l with tx := .part bytes ofSlot }

/-- The REPLY telegram that starts next, whole (R201, R206). -/
def State.replyTelegram (s : State) (r : Reply) : List Byte := telegram 9 s.liu.node (r.payload s.liu.rate)

/-- A report's REPORT telegram, whole (R201, R207). -/
def State.reportTelegram (s : State) (r : Report) : List Byte := telegram 10 s.liu.node (r.payload s.liu.rate)

/-- The first report is taken out of the queue, its telegram starts, and the count of reports sent rises by 1 (R16, R196). -/
def State.startReport (s : State) (allotment sent : Nat) (r : Report) (rest : List Report) : State :=
  (s.onOrh fun o => { o with reports := rest }).onLiu
    fun l => { l.startPart (s.reportTelegram r) false with turn := .opened allotment (sent + 1) }

/-- The first of R16's three that applies: the next unsent REPLY telegram, a report within the allotment, or the end of the turn. -/
def State.startPartTelegram (s : State) (allotment sent : Nat) : State :=
  match s.orh.slot with
  | some r => s.onLiu fun l => l.startPart (s.replyTelegram r) true
  | none =>
      if sent < allotment then
        match s.orh.reports with
        | r :: rest => s.startReport allotment sent r rest
        | [] => s.endTurn
      else s.endTurn

/-- PART_TELEGRAM_START (R16). -/
def execPartTelegramStart (s : State) : Host.Outcome State Fault Refusal :=
  match s.liu.turn with
  | .opened allotment sent => if s.partStartDue then .next (s.startPartTelegram allotment sent) else .next s
  | .closed => .next s

/-- A REPLY telegram has been sent: telegrams sent rises by 1, and after the last the slot is EMPTY (R188). -/
def Orh.telegramSent (o : Orh) : Orh :=
  match o.slot with
  | some r =>
      if r.content.telegrams ≤ r.sent + 1 then { o with slot := none }
      else { o with slot := some { r with sent := r.sent + 1 } }
  | none => o

/-- The transmitter after a part telegram (R7): the hold buffer's bytes follow at once. -/
def Liu.endPart (l : Liu) (bytes : List Byte) : Liu :=
  { l with iOut := l.iOut ++ bytes, tx := if l.holdBuffer.isEmpty then .idle else .relaying [] }

/-- The turn closes once the allotment is spent and no reply telegram is left (R16). -/
def State.closeSpentTurn (s : State) : State :=
  match s.liu.turn with
  | .opened allotment sent => if allotment ≤ sent ∧ s.orh.slot = none then s.endTurn else s
  | .closed => s

/-- A part telegram has gone out (R7, R16, R188). -/
def State.endPartTelegram (s : State) : State :=
  match s.liu.tx with
  | .part bytes ofSlot =>
      let s1 := if ofSlot then s.onOrh Orh.telegramSent else s
      (s1.onLiu fun l => l.endPart bytes).closeSpentTurn
  | .idle => s
  | .relaying _ => s

/-- PART_TELEGRAM_END (R7). -/
def execPartTelegramEnd (s : State) : Host.Outcome State Fault Refusal := .next s.endPartTelegram

end Sys2Proof.Machine
end

