-- ==== Sys2Proof/Machine/Orders.lean ====
section
/-! DEFINITION. The Order Handler's own orders (10): CONFIG WRITE, the three reading orders with the journal's part of JOURNAL READ (R150, R156 to
R160), RESTART, and the meanings of their rows. -/

namespace Sys2Proof.Machine

/-! ### CONFIG WRITE (R190, R191) -/

/-- The pending loss expiry moved to a new loss timeout (R12). -/
def Liu.moveLossExpiry (l : Liu) (timeoutMs : Nat) : Liu :=
  match l.lossExpiry, l.lastOpenRt with
  | some _, some arrival => { l with lossExpiry := some (arrival + timeoutMs * usPerMs) }
  | _, _ => l

/-- What a parameter's new value brings at once (R191): the loss timeout moves the pending loss expiry, which may be reached by it (R12); the
holdover limit may be reached by it (R37). -/
def State.takeUp (s : State) (parameter : Nat) : State :=
  if parameter = 3 then s.takeHoldoverLimit
  else if parameter = 4 then (s.onLiu fun l => l.moveLossExpiry s.orh.params.lossTimeout).takeLoss
  else s

/-- A parameter set: the value taken is stored, the CONFIG record written, and the value taken up (R190). DESIGN CHOICE (entry 38): the CONFIG
record goes before the records of what the new value brings at once. -/
def State.setParameter (s : State) (parameter : Nat) (value : Int) (date : Date) : State :=
  let taken := s.orh.params.clamp parameter value
  let s1 := s.onOrh fun o => { o with params := o.params.store parameter taken }
  (s1.write (.config parameter value (s.orh.params.value parameter) taken) date).takeUp parameter

/-- CONFIG WRITE taken (R190). -/
def State.orderConfigWrite (s : State) (m : Manner) (c : Capture) (parameter : Nat) (value : Int) : State :=
  if 1 ≤ parameter ∧ parameter ≤ 25 then s.setParameter parameter value c.date else s.refuse m 0x20 c.date .range

/-- CONFIG_WRITE (R190). -/
def execConfigWrite (m : Manner) (parameter : Nat) (value : Int) (s : State) : Host.Outcome State Fault Refusal :=
  .next ((s.release .i).orderConfigWrite m (s.captureAt .i) parameter value)

/-! ### Reading orders -/

/-- The reply in the slot takes OVERRUN (R189). -/
def Orh.overrun (o : Orh) : Orh := { o with slot := o.slot.map fun r => { r with overrun := true } }

/-- A reading order reaches what it reads only when it is unicast and the slot is EMPTY: a broadcast one is ignored (R187), and one that finds the
slot FULL is dropped with OVERRUN (R189). -/
def State.reading (s : State) (m : Manner) (carriedOut : State → State) : State :=
  match m with
  | .broadcast => s
  | .unicast => if s.orh.slot.isSome then s.onOrh Orh.overrun else carriedOut s

/-! ### JOURNAL READ (R150, R156 to R160) -/

/-- How a sequence number stands to the ring (R150). -/
inductive Judgement where
  | stored | older | beyond
  deriving DecidableEq, Repr

/-- A sequence number judged against the ring (R150). -/
def Evj.judge (e : Evj) (x : Nat) : Judgement :=
  if seqDistance x e.newest < e.stored then .stored
  else if seqDistance x e.newest < 2147483648 then .older
  else .beyond

/-- The candidate for the read mark (R157). -/
def Evj.candidate (e : Evj) (start : Nat) : Nat :=
  if start = 0 then 0
  else
    match e.judge start with
    | .stored => if start = e.oldest then 0 else predSeq start
    | .older => 0
    | .beyond => e.newest

/-- The later of the read mark and a candidate, 0 standing before every stored number (R157). -/
def Evj.laterMark (e : Evj) (candidate : Nat) : Nat :=
  if candidate = 0 then e.readMark
  else if e.readMark = 0 then candidate
  else if seqDistance candidate e.newest < seqDistance e.readMark e.newest then candidate
  else e.readMark

/-- The journal with its read mark moved (R157). -/
def Evj.moveMark (e : Evj) (start : Nat) : Evj := { e with readMark := e.laterMark (e.candidate start) }

/-- The count taken (R158). -/
def takenCount (n : Nat) : Nat := max 1 (min 3 n)

/-- The first record to deliver, where there is one (R158). -/
def Evj.firstAsked (e : Evj) (start : Nat) : Option Nat :=
  if start = 0 then some e.oldest
  else
    match e.judge start with
    | .stored => some start
    | .older => some e.oldest
    | .beyond => none

/-- The stored records from a stored number on, at most `n` of them, oldest first (R158). -/
def Evj.recordsFrom (e : Evj) (first n : Nat) : List Record :=
  (e.ring.take (seqDistance first e.newest + 1)).reverse.take n

/-- The records delivered (R158). -/
def Evj.delivered (e : Evj) (start n : Nat) : List Record :=
  match e.firstAsked start with
  | some first => e.recordsFrom first (takenCount n)
  | none => []

/-- GAP (R159). -/
def Evj.gap (e : Evj) (start : Nat) : Bool := decide (start ≠ 0) && decide (e.judge start = .older)

/-- The journal reply of JOURNAL READ, once the read mark has moved (R158, R159, R160). -/
def Evj.reply (e : Evj) (start n : Nat) : ReplyContent :=
  .journal
    { asked := start, taken := takenCount n, first := ((e.delivered start n).head?).map (·.seq)
      delivered := (e.delivered start n).length, gap := e.gap start, oldest := e.oldest, newest := e.newest
      unread := e.unread, minorRefusals := e.minorRefusals }
    (e.delivered start n)

/-- JOURNAL READ taken (R157 to R160). -/
def State.orderJournalRead (s : State) (m : Manner) (c : Capture) (start n : Nat) : State :=
  s.reading m fun s =>
    let s1 := s.onEvj fun e => e.moveMark start
    s1.answer m (some 0x50) c.date (s1.evj.reply start n)

/-- JOURNAL_READ (R158). -/
def execJournalRead (m : Manner) (start count : Nat) (s : State) : Host.Outcome State Fault Refusal :=
  .next ((s.release .i).orderJournalRead m (s.captureAt .i) start count)

/-! ### TABLE READ (R192, R205) -/

/-- A status plane entry (R192). -/
def State.planeEntry (s : State) (w : PlaneName) (index : Nat) : Option TableEntry :=
  match s.ttc.plane w with
  | some p =>
      if index < s.ttc.entries.length then some (.plane p.day p.cursor (p.statusOf index) (s.ttc.slotOf index)) else none
  | none => none

/-- The entry of a table other than the status planes, where the index lies in its range (R192). -/
def State.tableEntry (s : State) (table index : Nat) : Option TableEntry :=
  match table with
  | 1 => if index ≤ 1023 then some (.element (s.lys.stagingElements.get? index)) else none
  | 2 => if index ≤ 1023 then some (.element ((s.lys.elements[index]?).map (·.entry))) else none
  | 3 => if index ≤ 255 then some (.stagingPoint (s.lys.stagingPoints.get? index)) else none
  | 4 => if index ≤ 255 then some (.activePoint s.psd.points[index]?) else none
  | 5 => if index ≤ 8191 then some (.timetable (s.ttc.staging.get? index)) else none
  | 6 => if index ≤ 8191 then some (.timetable s.ttc.entries[index]?) else none
  | 7 => (s.lys.elements[index]?).map fun e => .elementState e.entry.address e.entry.kind e.state
  | 9 => if index ≤ 63 then some (.overlay (s.ttc.slot index)) else none
  | 10 => if index ≤ 31 then some (.unknownAddress s.lys.unknown[index]? s.lys.unknown.length) else none
  | 11 => if index ≤ 63 then some (.movement (s.mvs.at? index)) else none
  | 12 =>
      match index with
      | 0 => some (.clockLine s.cld.a)
      | 1 => some (.clockLine s.cld.b)
      | _ => none
  | _ => none

/-- The entry that a TABLE READ names, or none where it is refused RANGE (R192, R205). -/
def State.readEntry (s : State) (table selector index : Nat) : Option TableEntry :=
  if table = 8 then
    match selector with
    | 0 => s.planeEntry .current index
    | 1 => s.planeEntry .previous index
    | _ => none
  else if selector = 0 then s.tableEntry table index
  else none

/-- TABLE READ taken (R192). -/
def State.orderTableRead (s : State) (m : Manner) (c : Capture) (table selector index : Nat) : State :=
  s.reading m fun s =>
    match s.readEntry table selector index with
    | some entry => s.answer m (some 0x51) c.date (.table table selector index entry)
    | none => s.refuse m 0x51 c.date .range

/-- TABLE_READ (R192). -/
def execTableRead (m : Manner) (table selector index : Nat) (s : State) : Host.Outcome State Fault Refusal :=
  .next ((s.release .i).orderTableRead m (s.captureAt .i) table selector index)

/-! ### STATUS READ (R193) -/

/-- The content of a STATUS reply (R193). -/
def State.status (s : State) : Status :=
  { node := s.liu.node, rate := s.liu.rate, timeState := s.tbu.timeState, st := s.tbu.st, season := s.tbu.season
    trim := s.tbu.trim, slew := s.tbu.slew, quality := s.quality, seasonScheduled := s.tbu.scheduled.isSome
    lineState := s.liu.lineState, round := s.liu.round, phase := s.liu.phase, errorsI := s.liu.errorsI
    errorsF := s.liu.errorsF, layoutGeneration := s.lys.generation, elements := s.lys.elements.length
    points := s.psd.points.length, armed := s.lys.armed, unknownCount := s.lys.unknown.length
    unseen := (s.lys.elements.filter fun e => !e.state.seen).length
    timetableGeneration := s.ttc.generation, timetableActive := s.ttc.active, h0 := s.ttc.h0
    planeDay := s.ttc.planes.map (·.current.day), timetableCount := s.ttc.entries.length, movements := s.mvs.openCount
    stored := s.evj.stored, unread := s.evj.unread, newest := s.evj.newest, minorRefusals := s.evj.minorRefusals
    reports := s.orh.reports.length, discarded := s.orh.discarded, lineA := s.cld.a.state, lineB := s.cld.b.state }

/-- STATUS READ taken (R193). -/
def State.orderStatusRead (s : State) (m : Manner) (c : Capture) : State :=
  s.reading m fun s => s.answer m (some 0x52) c.date (.status s.status)

/-- STATUS_READ (R193). -/
def execStatusRead (m : Manner) (s : State) : Host.Outcome State Fault Refusal :=
  .next ((s.release .i).orderStatusRead m (s.captureAt .i))

/-! ### RESTART (R194) -/

/-- The train numbers held in the expectation queues (R163). -/
def Psd.trains (d : Psd) : Nat := (d.points.map fun p => p.record.queue.length).sum

/-- The RESTART (ORDER) record, with its counts as the state stands (R163). -/
def State.restartRecord (s : State) : RecordBody :=
  .restartOrder s.lys.armed s.mvs.openCount s.psd.trains s.orh.reports.length s.orh.slot.isSome

/-- The transmitter's part telegram no longer belongs to the reply slot (R194, entry 13). -/
def Transmitter.detach : Transmitter → Transmitter
  | .idle => .idle
  | .relaying direct => .relaying direct
  | .part bytes _ => .part bytes false

/-- The field knowledge given up at a RESTART (R79, R102, R120). -/
def State.restartField (s : State) (ending : Instant) : State :=
  let s1 := s.onElements fun _ => freshElementState s.tbu.rt
  let s2 := (s1.onLys fun l => { l with unknown := [] }).closeAll .restart ending
  (s2.onPsd fun d => { d with points := d.points.map fun p => { p with record := {} } }).onLys fun l => { l with armed := none }

/-- The report queue and the reply slot emptied, and the turn ended (R18, R194). -/
def State.restartOrders (s : State) : State :=
  ((s.onOrh fun o => { o with reports := [], slot := none }).onLiu fun l => { l with tx := l.tx.detach }).endTurn

/-- A RESTART carried out (R194). -/
def State.warmRestart (s : State) (c : Capture) : State :=
  ((s.write s.restartRecord c.date).restartField c.instant).restartOrders

/-- RESTART taken: a broadcast one is ignored (R187, R194). -/
def State.orderRestart (s : State) (m : Manner) (c : Capture) : State :=
  match m with
  | .broadcast => s
  | .unicast => s.warmRestart c

/-- RESTART (R194). -/
def execRestart (m : Manner) (s : State) : Host.Outcome State Fault Refusal :=
  .next ((s.release .i).orderRestart m (s.captureAt .i))

end Sys2Proof.Machine
end

