-- ==== Sys2Proof/Machine/Telegram.lean ====
section
/-! DEFINITION. Reception (01): an ORDER's payload judged (R185), a complete telegram classified and handed to its owner (R3, R8), the receiver's
bytes (R2, R5, R6), power-on (R1, R43, R198), and the meanings of their rows. -/

namespace Sys2Proof.Machine

/-! ### An ORDER's payload (R185, R204, R205) -/

/-- The number in the field of a width at an offset of the parameters. -/
def field (bs : List Byte) (offset width : Nat) : Nat := ofBytes ((bs.drop offset).take width)

/-- A train number field. -/
def trainField (bs : List Byte) (offset : Nat) : TrainNumber := BitVec.ofNat 32 (field bs offset 4)

/-- The entry of a TIMETABLE WRITE at an offset (11 "Order payloads"). -/
def rawEntryAt (bs : List Byte) (offset : Nat) : RawEntry :=
  { train := trainField bs offset, point := field bs (offset + 4) 1, kind := field bs (offset + 5) 1
    booked := field bs (offset + 6) 2, mask := field bs (offset + 8) 1, used := field bs (offset + 9) 1 }

/-- The entries of a TIMETABLE WRITE. -/
def rawEntries (bs : List Byte) (count : Nat) : List RawEntry := (List.range count).map fun k => rawEntryAt bs (3 + 10 * k)

/-- An order whose payload must hold a number of bytes, else refused LENGTH (R185). -/
def State.sized (s : State) (m : Manner) (c : Capture) (code : Nat) (parameters : List Byte) (length : Nat) (taken : State) : State :=
  if parameters.length + 1 = length then taken else s.refuse m code c.date .length

/-- A TIMETABLE WRITE's payload: its length judged only where at least 4 bytes hold a count of 1 to 4 (R205). -/
def State.takeTimetableWrite (s : State) (m : Manner) (c : Capture) (ps : List Byte) : State :=
  if ps.length < 3 then s.refuse m 0x32 c.date .length
  else
    let count := field ps 2 1
    if 1 ≤ count ∧ count ≤ 4 then
      s.sized m c 0x32 ps (4 + 10 * count) (s.orderTimetableWrite m c (field ps 0 2) count (rawEntries ps count))
    else s.orderTimetableWrite m c (field ps 0 2) count []

/-- A CLOCK LINE SET's parameters: run, stop, or neither (R178, R179, R205). -/
def State.takeClockLineSet (s : State) (m : Manner) (c : Capture) (ps : List Byte) : State :=
  match field ps 1 1 with
  | 0 => s.orderSetStop m c (field ps 0 1)
  | 1 => s.orderSetRun m c (field ps 0 1) (field ps 2 1) (field ps 3 2) (field ps 5 1)
  | _ => s.refuse m 0x60 c.date .range

/-- An order by its code: its length judged, then its owner (R185; 11 "Order payloads"). -/
def State.takeOrder (s : State) (m : Manner) (c : Capture) (code : Nat) (ps : List Byte) : State :=
  match code with
  | 0x10 => s.sized m c code ps 6 (s.orderTimeMark m c (field ps 0 5))
  | 0x11 => s.sized m c code ps 8 (s.orderTimeSet m c (field ps 0 6) (field ps 6 1))
  | 0x12 => s.sized m c code ps 6 (s.orderSeasonChange m c (field ps 0 1) (field ps 1 4))
  | 0x20 => s.sized m c code ps 6 (s.orderConfigWrite m c (field ps 0 1) (signedOf 4 (field ps 1 4)))
  | 0x30 =>
      s.sized m c code ps 10
        (s.orderElementWrite m c (field ps 0 2) (field ps 2 2) (field ps 4 1) (field ps 5 2) (field ps 7 1) (field ps 8 1))
  | 0x31 =>
      s.sized m c code ps 10
        (s.orderPointWrite m c (field ps 0 1) (field ps 1 2) (field ps 3 1) (field ps 4 2) (field ps 6 1) (field ps 7 1)
          (field ps 8 1))
  | 0x32 => s.takeTimetableWrite m c ps
  | 0x33 => s.sized m c code ps 2 (s.orderApply m c (field ps 0 1))
  | 0x40 =>
      s.sized m c code ps 13
        (s.orderOverlayWrite m c (field ps 0 1) (field ps 1 2) (field ps 3 1) (trainField ps 4) (field ps 8 1) (field ps 9 2)
          (field ps 11 1))
  | 0x41 => s.sized m c code ps 2 (s.orderOverlayClear m c (field ps 0 1))
  | 0x48 => s.sized m c code ps 6 (s.orderTrainIdent m c (field ps 0 1) (trainField ps 1))
  | 0x49 => s.sized m c code ps 7 (s.orderTrainCancel m c (trainField ps 0) (field ps 4 2))
  | 0x50 => s.sized m c code ps 6 (s.orderJournalRead m c (field ps 0 4) (field ps 4 1))
  | 0x51 => s.sized m c code ps 5 (s.orderTableRead m c (field ps 0 1) (field ps 1 1) (field ps 2 2))
  | 0x52 => s.sized m c code ps 1 (s.orderStatusRead m c)
  | 0x60 => s.sized m c code ps 7 (s.takeClockLineSet m c ps)
  | 0x7F => s.sized m c code ps 1 (s.orderRestart m c)
  | _ => s.refuse m code c.date .unknown

/-- An ORDER's payload judged whole (R185): an empty one refused LENGTH with no code, an unknown code UNKNOWN, a wrong length LENGTH, and any other
handed to its owner. -/
def State.takeOrderPayload (s : State) (m : Manner) (c : Capture) : List Byte → State
  | [] => s.answer m none c.date (.refusal .length)
  | code :: ps => s.takeOrder m c code.toNat ps

/-- ORDER_REFUSED_FORM (R185). -/
def execOrderRefusedForm (m : Manner) (payload : List Byte) (s : State) : Host.Outcome State Fault Refusal :=
  .next ((s.release .i).takeOrderPayload m (s.captureAt .i) payload)

/-! ### A complete telegram (R3, R6, R8) -/

/-- What a telegram with a right check is to this part (R3, R6, R8). -/
inductive Reading where
  /-- Of a kind not interpreted at its port, or an ORDER for another node. -/
  | notInterpreted
  /-- FORM: of a kind interpreted, with another address or payload length. -/
  | form
  | roundOpen (number : Nat)
  | roundClose
  | command (code : Nat)
  | indication (code : Nat) (age : Option Nat)
  | lineReset
  | order (manner : Manner)
  deriving DecidableEq, Repr

/-- A telegram read by its port, kind, address and payload (R3, R6, R8). -/
def readTelegram (node : Nat) (p : Port) (kind address : Nat) (payload : List Byte) : Reading :=
  match p, kind with
  | .i, 1 => if address = 0 ∧ payload.length = 1 then .roundOpen (field payload 0 1) else .form
  | .i, 2 => if address = 0 ∧ payload.length = 0 then .roundClose else .form
  | .i, 3 => if address ≠ 0 ∧ payload.length = 1 then .command (field payload 0 1) else .form
  | .i, 5 => if address = 0 ∧ payload.length = 0 then .lineReset else .form
  | .i, 8 =>
      if address = node then .order .unicast else if address = 4095 then .order .broadcast else .notInterpreted
  | .f, 4 =>
      if address ≠ 0 ∧ payload.length = 1 then .indication (field payload 0 1) none
      else if address ≠ 0 ∧ payload.length = 3 then .indication (field payload 0 1) (some (field payload 1 2))
      else .form
  | .i, _ => .notInterpreted
  | .f, _ => .notInterpreted

/-- A GOOD telegram handed to its owner with its capture (R8). -/
def State.handOn (s : State) (p : Port) (address : Nat) (payload : List Byte) (c : Capture) : Reading → State
  | .notInterpreted => s
  | .form => s.lineError p
  | .roundOpen number => s.takeRoundOpen number c
  | .roundClose => s.takeRoundClose
  | .command code => s.takeCommand address code c
  | .indication code age => s.takeIndication address code age c
  | .lineReset => s.takeLineReset c
  | .order m => s.takeOrderPayload m c payload

/-- A telegram complete at a port, the port already released: BAD CHECK counted, else read and handed on (R3, R8). -/
def State.takeTelegram (s : State) (p : Port) (kind address : Nat) (payload : List Byte) (check : Nat) (c : Capture) : State :=
  if check = telegramCheck kind address payload then
    s.handOn p address payload c (readTelegram s.liu.node p kind address payload)
  else s.lineError p

/-- TELEGRAM_NOT_INTERPRETED (R3). -/
def execTelegramNotInterpreted (p : Port) (kind address : Nat) (payload : List Byte) (check : Nat) (s : State) :
    Host.Outcome State Fault Refusal :=
  .next ((s.release p).takeTelegram p kind address payload check (s.captureAt p))

/-! ### The receiver (R2, R5, R6) -/

/-- A start byte in IDLE or NOISE (R2, R44): HEADER, the byte in the lag stage, and the arrival capture taken. -/
def State.beginTelegram (s : State) (p : Port) (b : Byte) : State :=
  (s.onRx p fun _ => { state := .header, lag := [b] }).setCapture p (some s.captureNow)

/-- Whether R6 consumes a telegram whose kind and address bytes are these. -/
def consumes (node : Nat) (p : Port) (kindByte addressByte : Byte) : Bool :=
  decide (p = .i) && decide (kindByte.toNat / 16 = 8) && decide (kindByte.toNat % 16 * 256 + addressByte.toNat = node)

/-- A byte relayed, unless the telegram is consumed (R5, R6). -/
def State.relayOn (s : State) (p : Port) (b : Byte) : State :=
  if (s.rx p).consumed then s else s.onLiu fun l => l.relay p b

/-- The second kind and address byte (R5, R6): the relay decision made and the lag stage released. -/
def State.releaseLag (s : State) (p : Port) (kindByte b : Byte) : State :=
  let consumed := consumes s.liu.node p kindByte b
  let s1 := if consumed then s else s.onLiu fun l => l.relayAll p ((s.rx p).lag ++ [b])
  s1.onRx p fun x => { x with lag := [], frame := x.frame ++ [b], consumed := consumed }

/-- The length byte (R2): 0..58 to BODY, 59..255 to SKIP, the telegram LENGTH. -/
def State.takeLength (s : State) (p : Port) (b : Byte) : State :=
  let s1 := s.relayOn p b
  if b.toNat ≤ maxPayload then
    s1.onRx p fun x => { x with state := .body, frame := x.frame ++ [b], remaining := b.toNat + 2 }
  else ((s1.onRx p fun x => { x with state := .skip, frame := [] }).lineError p).setCapture p none

/-- A byte in HEADER (R2, R5). -/
def State.takeHeader (s : State) (p : Port) (b : Byte) : State :=
  match (s.rx p).frame with
  | [] => s.onRx p fun x => { x with lag := x.lag ++ [b], frame := [b] }
  | [kindByte] => s.releaseLag p kindByte b
  | _ => s.takeLength p b

/-- The telegram that the bytes after a start byte spell, complete (11 "The frame"). -/
def State.takeFrame (s : State) (p : Port) (frame : List Byte) (c : Capture) : State :=
  let kindAndAddress := field frame 0 2
  let length := field frame 2 1
  s.takeTelegram p (kindAndAddress / 4096) (kindAndAddress % 4096) ((frame.drop 3).take length) (field frame (3 + length) 2) c

/-- A byte in BODY (R2): relayed and counted; with the last check byte the telegram is complete. -/
def State.takeBody (s : State) (p : Port) (b : Byte) : State :=
  let s1 := s.relayOn p b
  if (s.rx p).remaining ≤ 1 then (s1.release p).takeFrame p ((s.rx p).frame ++ [b]) (s.captureAt p)
  else s1.onRx p fun x => { x with frame := x.frame ++ [b], remaining := x.remaining - 1 }

/-- A byte arrives at a port (R2). -/
def State.takeByte (s : State) (p : Port) (b : Byte) : State :=
  match (s.rx p).state with
  | .idle =>
      if b = startByte then s.beginTelegram p b
      else ((s.onLiu fun l => l.relay p b).lineError p).onRx p fun x => { x with state := .noise }
  | .noise => if b = startByte then s.beginTelegram p b else s.onLiu fun l => l.relay p b
  | .header => s.takeHeader p b
  | .body => s.takeBody p b
  | .skip => s.relayOn p b

/-- BYTE_ARRIVAL (R2). -/
def execByteArrival (p : Port) (b : Byte) (s : State) : Host.Outcome State Fault Refusal := .next (s.takeByte p b)

/-! ### Power-on -/

/-- Power-on with the straps as read (R1, R43, R162, R198): every block at its power-on state. What the two lines have carried, the sense inputs and the
waiting commands lie outside the part and stand, as does the count of free choices made (entry 30). -/
def State.powerOn (s : State) (straps : Nat) (rate : LineRate) : State :=
  let s1 := State.atPowerOn straps rate s.pins
  { s1 with pending := s.pending, liu := { s1.liu with iOut := s.liu.iOut, fOut := s.liu.fOut }
            clk := { s1.clk with choices := s.clk.choices } }

/-- POWER_ON (R43). -/
def execPowerOn (straps : Nat) (rate : LineRate) (s : State) : Host.Outcome State Fault Refusal := .next (s.powerOn straps rate)

end Sys2Proof.Machine
end

