-- ==== Sys2Proof/Machine/Clock.lean ====
section
/-! DEFINITION. What comes due inside the part while no command waits (entries 1 and 2): the adjustments of ST's advance, and the timed events. -/

namespace Sys2Proof.Machine

/-- A command, where a condition holds. -/
def dueIf (condition : Bool) (i : Instr) : List Instr := if condition then [i] else []

/-- The adjustment of ST's advance that is due in this microsecond (R22, R23): the trim carry before the slew tick. -/
def State.dueAdjustment (s : State) : Option Instr :=
  if s.trimCarryDue then some .trimCarry else if s.slewTickDue then some .slewTick else none

/-- The level of a line's sense input (R172). -/
def Pins.sense (p : Pins) : ClockLineName → Sense
  | .a => p.senseA
  | .b => p.senseB

/-- The expiries of the movement table that are due (R93, R95). -/
def State.dueMovements (s : State) : List Instr :=
  (List.range 64).flatMap fun position =>
    dueIf (s.limitDue position) (.limitExpiry position) ++ dueIf (s.abandonDue position) (.abandonExpiry position)

/-- The events of a clock line that are due (R170, R171, R172, R176). -/
def State.dueAtLine (s : State) (l : ClockLineName) : List Instr :=
  dueIf (s.boundaryDue l) (.intervalBoundary l) ++ dueIf ((s.line l).mayStart s.tbu.rt) (.spacingExpiry l) ++
    dueIf (s.completionDue l) (.impulseCompletion l (s.pins.sense l)) ++ dueIf (s.probeDue l) (.probeExpiry l)

/-- Every timed event that is due, and the start of a part telegram (R13, R16, R25, R36, R37, R135). -/
def State.dueEvents (s : State) : List Instr :=
  dueIf (instantReached s.tbu.scheduled s.tbu.st) .season ++ dueIf s.holdoverExpiryDue .holdoverExpiry ++
    dueIf s.holdoverLimitDue .holdoverLimit ++ dueIf s.lossDue .lossExpiry ++ dueIf s.sweepDue .sweep ++ s.dueMovements ++
    s.dueAtLine .a ++ s.dueAtLine .b ++ dueIf s.partStartDue .partTelegramStart

/-- The event taken among several due, which is free where there is more than one (entry 2). -/
def State.raced (s : State) : List Instr → Option Instr
  | [] => none
  | [i] => some i
  | i :: j :: rest =>
      (i :: j :: rest)[Config.raceChoice s.clk.choices % (rest.length + 2)]?

/-- What the part does on its own: an adjustment, else an event due, else none. -/
def State.dueCommand (s : State) : Option Instr :=
  match s.dueAdjustment with
  | some i => some i
  | none => s.raced s.dueEvents

/-- A choice between events that come together is counted (entry 2). -/
def State.countChoice (s : State) : State :=
  if s.dueAdjustment.isNone ∧ 2 ≤ s.dueEvents.length then s.onClk fun c => { c with choices := c.choices + 1 } else s

end Sys2Proof.Machine
end

