-- ==== Sys2Proof/Machine/Dispatch.lean ====
section
/-! DEFINITION. The meaning of each command: one direct call of its own definition. -/

namespace Sys2Proof.Machine

def exec (i : Instr) (s : State) : Host.Outcome State Fault Refusal :=
  match i with
  | .byteArrival port b => Sys2Proof.Machine.execByteArrival port b s
  | .lineSilent port => Sys2Proof.Machine.execLineSilent port s
  | .telegramNotInterpreted port kind address payload check => Sys2Proof.Machine.execTelegramNotInterpreted port kind address payload check s
  | .roundOpen number => Sys2Proof.Machine.execRoundOpen number s
  | .roundClose => Sys2Proof.Machine.execRoundClose s
  | .lineReset => Sys2Proof.Machine.execLineReset s
  | .lossExpiry => Sys2Proof.Machine.execLossExpiry s
  | .partTelegramStart => Sys2Proof.Machine.execPartTelegramStart s
  | .partTelegramEnd => Sys2Proof.Machine.execPartTelegramEnd s
  | .command address code => Sys2Proof.Machine.execCommand address code s
  | .indication address code age => Sys2Proof.Machine.execIndication address code age s
  | .mark => Sys2Proof.Machine.execMark s
  | .trimCarry => Sys2Proof.Machine.execTrimCarry s
  | .slewTick => Sys2Proof.Machine.execSlewTick s
  | .season => Sys2Proof.Machine.execSeason s
  | .holdoverExpiry => Sys2Proof.Machine.execHoldoverExpiry s
  | .holdoverLimit => Sys2Proof.Machine.execHoldoverLimit s
  | .sweep => Sys2Proof.Machine.execSweep s
  | .limitExpiry position => Sys2Proof.Machine.execLimitExpiry position s
  | .abandonExpiry position => Sys2Proof.Machine.execAbandonExpiry position s
  | .intervalBoundary line => Sys2Proof.Machine.execIntervalBoundary line s
  | .spacingExpiry line => Sys2Proof.Machine.execSpacingExpiry line s
  | .impulseCompletion line sense => Sys2Proof.Machine.execImpulseCompletion line sense s
  | .probeExpiry line => Sys2Proof.Machine.execProbeExpiry line s
  | .timeMark manner second => Sys2Proof.Machine.execTimeMark manner second s
  | .timeSet manner ms offset => Sys2Proof.Machine.execTimeSet manner ms offset s
  | .seasonChange manner offset minute => Sys2Proof.Machine.execSeasonChange manner offset minute s
  | .configWrite manner parameter value => Sys2Proof.Machine.execConfigWrite manner parameter value s
  | .elementWrite manner index address kind limit cls used => Sys2Proof.Machine.execElementWrite manner index address kind limit cls used s
  | .pointWrite manner index sect edge signal threshold mode used => Sys2Proof.Machine.execPointWrite manner index sect edge signal threshold mode used s
  | .timetableWrite manner first count entries => Sys2Proof.Machine.execTimetableWrite manner first count entries s
  | .apply manner scope => Sys2Proof.Machine.execApply manner scope s
  | .overlayWrite manner slot target action train point booked mask => Sys2Proof.Machine.execOverlayWrite manner slot target action train point booked mask s
  | .overlayClear manner slot => Sys2Proof.Machine.execOverlayClear manner slot s
  | .trainIdent manner point train => Sys2Proof.Machine.execTrainIdent manner point train s
  | .trainCancel manner train point => Sys2Proof.Machine.execTrainCancel manner train point s
  | .journalRead manner start count => Sys2Proof.Machine.execJournalRead manner start count s
  | .tableRead manner table selector index => Sys2Proof.Machine.execTableRead manner table selector index s
  | .statusRead manner => Sys2Proof.Machine.execStatusRead manner s
  | .clockLineSetRun manner line interval shown polarity => Sys2Proof.Machine.execClockLineSetRun manner line interval shown polarity s
  | .clockLineSetStop manner line => Sys2Proof.Machine.execClockLineSetStop manner line s
  | .restart manner => Sys2Proof.Machine.execRestart manner s
  | .orderRefusedForm manner payload => Sys2Proof.Machine.execOrderRefusedForm manner payload s
  | .powerOn straps rate => Sys2Proof.Machine.execPowerOn straps rate s
  | .relayedByteSent => Sys2Proof.Machine.execRelayedByteSent s

end Sys2Proof.Machine
end

