-- ==== Sys2Proof/Machine/Step.lean ====
section
/-! DEFINITION. One step: the command at the front of the queue is taken whole; with none waiting, the part does what has come due, or one
microsecond passes (entry 1). -/

namespace Sys2Proof.Machine

/-- The step with no command waiting (entry 1). -/
def State.idle (s : State) : Host.Outcome State Fault Refusal :=
  match s.dueCommand with
  | some i => exec i s.countChoice
  | none => .next s.tick

/-- One step. -/
def step (s : State) : Host.Outcome State Fault Refusal :=
  match s.pending with
  | i :: rest => exec i { s with pending := rest }
  | [] => s.idle

/-- The state with the command that a word spells put at the front of its queue; unchanged where the word spells none. -/
def State.withFetchWord (s : State) (nbits w : Nat) : State :=
  match decodeTableWord nbits w with
  | some i => { s with pending := i :: s.pending }
  | none => s

end Sys2Proof.Machine
end

