-- ==== Sys2Proof/Safety.lean ====
section
/-! DEFINITION. What a sound state is, block by block: the bounds and consistencies that the manual says the part always keeps. The statements
of Certificates/Slice0/Obligations.lean say that power-on makes them hold and that every step keeps them. -/

namespace Sys2Proof.Machine

/-! ### The journal (R148, R149, R152, R156) -/

/-- Records, newest first, whose numbers run down from `n` by one successor step each (R148). -/
def numberedFrom : Nat → List Record → Prop
  | _, [] => True
  | n, r :: rest => r.seq = n ∧ numberedFrom (predSeq n) rest

/-- The journal: 1 to 16,384 records with consecutive numbers up to the newest, a next number in range, and a read mark that is 0 or the number
of a stored record. -/
structure Evj.Sound (e : Evj) : Prop where
  storedPos : 1 ≤ e.stored
  storedMax : e.stored ≤ 16384
  nextPos : 1 ≤ e.next
  nextMax : e.next ≤ 4294967295
  consecutive : numberedFrom e.newest e.ring
  readMark : e.readMark = 0 ∨ ∃ r ∈ e.ring, r.seq = e.readMark
  minorRefusals : e.minorRefusals ≤ 4294967295

/-- The numbers that `k` records take from `n` on (R149): each is one more than the one before, and 1 after the last. -/
def numbersFrom : Nat → Nat → List Nat
  | _, 0 => []
  | n, k + 1 => n :: numbersFrom (if n = 4294967295 then 1 else n + 1) k

/-- The journal has stored these records, newest first, and no others (R148, R149, R153): they take the numbers from the next one on, the next number
is the one after theirs, and the ring holds the newest 16,384 of them and the records before them. -/
structure Evj.Grown (old new : Evj) (more : List Record) : Prop where
  ring : new.ring = (more ++ old.ring).take 16384
  numbers : more.reverse.map (·.seq) ++ [new.next] = numbersFrom old.next (more.length + 1)

/-- More records than one command ever writes, by the sizes of the tables; far fewer than there are numbers, in the tables of R122 and R60. -/
def State.mostRecords (s : State) : Nat :=
  512 + 4 * s.ttc.entries.length + s.psd.points.length + (s.psd.points.map fun p => p.record.queue.length).sum

/-! ### The configuration and the order handler (R188, R191, R196, R197) -/

/-- Every parameter within its range (R191). -/
def Params.Sound (c : Params) : Prop :=
  c.length = 25 ∧ ∀ n, 1 ≤ n → n ≤ 25 → ((paramTable[n - 1]?).map (·.lo)).getD 0 ≤ c.value n ∧ c.value n ≤ Params.upperBound n

/-- The order handler: at most 64 reports in queue order, a reply of 1 to 4 telegrams not all sent, and the configuration in range. -/
structure Orh.Sound (o : Orh) : Prop where
  reports : o.reports.length ≤ 64
  order : o.reports.Pairwise fun x y => x.priority ≤ y.priority
  priority : ∀ r ∈ o.reports, r.priority ≤ 3
  discarded : o.discarded ≤ 65535
  reply : ∀ r, o.slot = some r → r.sent < r.content.telegrams ∧ r.content.telegrams ≤ 4
  params : o.params.Sound

/-! ### The time base (R20, R22, R23, R24, R34, R36, R37, R41) -/

/-- The time base: every quantity within its bound, and the holdover instants present in the states they belong to. -/
structure Tbu.Sound (t : Tbu) : Prop where
  st : t.st ≤ 5662310399999999
  trim : t.trim.natAbs ≤ 5000
  slew : t.slew.natAbs ≤ 2000000
  prevSlew : t.prevSlew.natAbs ≤ 2000000
  season : t.season ≤ 120
  scheduled : ∀ x, t.scheduled = some x → x.1 ≤ 120 ∧ x.2 ≤ 94371839
  good : t.good ≤ 8
  goodAcquire : t.timeState = .acquire → t.good ≤ 7
  outliers : t.outliers ≤ 3
  latched : t.stepLimit ≤ 2000000
  label : ∀ x, t.label = some x → x.1 ≤ 5662310399
  expiry : t.holdoverExpiry.isSome ↔ t.timeState = .acquire ∨ t.timeState = .locked
  entry : t.holdoverEntry.isSome ↔ t.timeState = .holdover

/-- A mark that is not ignored, against second `n` (R28, R29): its label's, where the label is at most 2,000,000 µs old; or, with no label or a
lapsed one, the second nearest to ST, in ACQUIRE, LOCKED and HOLDOVER. -/
def State.MarkAgainst (s : State) (n : Nat) (labelled : Bool) : Prop :=
  (labelled = true ∧ ∃ taken, s.tbu.label = some (n, taken) ∧ s.tbu.rt - taken ≤ 2000000) ∨
    (labelled = false ∧ (∀ m taken, s.tbu.label = some (m, taken) → 2000000 < s.tbu.rt - taken) ∧
      (s.tbu.timeState = .acquire ∨ s.tbu.timeState = .locked ∨ s.tbu.timeState = .holdover) ∧ n = (s.tbu.st + 500000) / 1000000)

/-! ### The line unit and its receivers (R2, R4, R5, R7, R9 to R18, R45) -/

/-- A receiver with its capture: the lag stage holds the start byte and the first kind and address byte until the second arrives, and nothing after it;
and a capture is held within a telegram that is not skipped, and at no other time. -/
structure Receiver.Sound (r : Receiver) (c : Option Capture) : Prop where
  lag : r.lag.length = if r.state = .header ∧ r.frame.length ≤ 1 then r.frame.length + 1 else 0
  capture : c.isSome ↔ r.state = .header ∨ r.state = .body
  expecting : r.state = .body → 1 ≤ r.remaining

/-- The line unit: its counts and its buffer within their sizes, the round and the loss expiry as the line state allows, the turn open in round
phase CLOSED alone, and the transmitter busy while it has something to send. -/
structure Liu.Sound (l : Liu) : Prop where
  hold : l.holdBuffer.length ≤ 128
  errorsI : l.errorsI ≤ 65535
  errorsF : l.errorsF ≤ 65535
  loss : l.lossExpiry.isSome ↔ l.lineState = .running
  lostRt : l.lostRt.isSome ↔ l.lineState = .lost
  phase : l.lineState ≠ .running → l.phase = .none
  round : l.phase ≠ .none → l.round.isSome
  lastOpen : l.lossExpiry.isSome → l.lastOpenRt.isSome
  turn : ∀ allotment sent, l.turn = .opened allotment sent → l.phase = .closed ∧ sent ≤ allotment
  idle : l.tx = .idle → l.holdBuffer = []
  relaying : ∀ direct, l.tx = .relaying direct → (direct = [] ↔ l.holdBuffer ≠ [])

/-- The two ports. -/
def State.LineSound (s : State) : Prop :=
  s.liu.Sound ∧ s.liu.rxI.Sound s.dtu.capI ∧ s.liu.rxF.Sound s.dtu.capF

/-! ### The clock lines (R167 to R180) -/

/-- A position that a dial of an interval has (R167). -/
def dialHas (interval shown : Nat) : Prop := (interval = 30 ∨ interval = 60) ∧ shown < dialPositions interval

/-- A clock line: its dial known once it has left STOPPED, an impulse in flight and a probe expiry only in the states that have them. -/
structure ClockLine.Sound (l : ClockLine) : Prop where
  dial : ∀ interval shown, l.interval = some interval → l.shown = some shown → dialHas interval shown
  known : l.state ≠ .stopped → l.interval.isSome ∧ l.shown.isSome ∧ l.polarity.isSome
  wanted : l.wanted = true → (l.state = .run ∨ l.state = .catchUp) ∧ l.flight = none
  normal : ∀ i, l.flight = some i → i.kind = .normal → l.state = .run ∨ l.state = .catchUp
  probing : ∀ i, l.flight = some i → i.kind = .probe → l.state = .fault ∧ l.probe = none
  probe : l.probe.isSome → l.state = .fault
  fault : l.state = .fault → l.flight = none → l.probe.isSome
  noted : l.noted = true → l.flight.isSome
  pending : l.pendingSet.isSome → l.flight.isSome
  pendingDial : ∀ interval shown polarity, l.pendingSet = some (.run interval shown polarity) → dialHas interval shown

/-! ### The expectation queues (R106, R113) -/

/-- A timing point's record: at most 4 valid train numbers, none twice, and the bounce count within its size. -/
structure PointRecord.Sound (r : PointRecord) : Prop where
  size : r.queue.length ≤ 4
  nodup : r.queue.Nodup
  valid : ∀ t ∈ r.queue, trainOk t = true
  bounces : r.bounces ≤ 255

/-- Every timing point's record. -/
def Psd.Sound (d : Psd) : Prop := ∀ p ∈ d.points, p.record.Sound

/-! ### The status planes and the overlay (R126, R142) -/

/-- A plane over `n` entries (R126). -/
structure Plane.Sound (p : Plane) (n : Nat) : Prop where
  status : p.status.length = n
  cursor : p.cursor ≤ n

/-- The planes exist outside UNSET with a timetable active and at no other time, for two days that follow each other (R126); each overlay slot's target
is an entry, and no two slots have the same one (R142). -/
structure State.PlanesSound (s : State) : Prop where
  exist : s.ttc.planes.isSome ↔ s.ttc.active = true ∧ s.tbu.timeState ≠ .unset
  days : ∀ p, s.ttc.planes = some p → p.previous.day = p.current.day - 1
  current : ∀ p, s.ttc.planes = some p → p.current.Sound s.ttc.entries.length
  previous : ∀ p, s.ttc.planes = some p → p.previous.Sound s.ttc.entries.length
  slots : s.ttc.overlay.length = 64
  targets : ∀ k x, s.ttc.slot k = some x → x.target < s.ttc.entries.length
  distinct : ∀ j k x y, s.ttc.slot j = some x → s.ttc.slot k = some y → x.target = y.target → j = k

/-! ### The layout and the timetable (R58, R60, R69, R72, R73, R122, R147) -/

/-- A timing point's links stand in an active element bank (R60). -/
def linksIn (elements : List LiveElement) (p : TimingPoint) : Prop :=
  (∃ e, elements[p.sect]? = some e ∧ e.entry.kind = .sect) ∧
    ∀ x, p.signal = some x → ∃ e, elements[x]? = some e ∧ e.entry.kind = .signal

/-- The active banks keep what R72 checks, with the unknown-address list within its size; and what is armed still passes R72's checks. -/
structure State.LayoutSound (s : State) : Prop where
  rising : (s.lys.elements.map (·.entry.address)).Pairwise (· < ·)
  addresses : ∀ e ∈ s.lys.elements, 1 ≤ e.entry.address ∧ e.entry.address ≤ 3999
  links : ∀ p ∈ s.psd.points, linksIn s.lys.elements p.entry
  booked : (s.ttc.entries.map (·.booked)).Pairwise (· ≤ ·)
  entries : ∀ e ∈ s.ttc.entries, e.point < s.psd.points.length
  slots : ∀ k target train point booked mask,
    s.ttc.slot k = some { target := target, action := .replace train point booked mask } → point < s.psd.points.length
  staging : ∀ i e, (i, e) ∈ s.lys.stagingElements → 1 ≤ e.address ∧ e.address ≤ 3999
  unknown : s.lys.unknown.length ≤ 32 ∧ s.lys.unknown.Nodup
  armed : ∀ scope, s.lys.armed = some scope → s.validate scope = none

/-! ### Movements (R80, R81) -/

/-- Every open record names an active POINT or SIGNAL element of its own address and kind, and that element's link names the record's position; every
link names an open record of its element. -/
structure State.MovementsSound (s : State) : Prop where
  positions : s.mvs.table.length = 64
  records : ∀ k r, s.mvs.at? k = some r →
    ∃ e, s.lys.elements[r.element]? = some e ∧ e.entry.address = r.address ∧ e.entry.kind = r.kind ∧ r.kind.moves = true ∧
      e.state.movement = some k
  links : ∀ i e k, s.lys.elements[i]? = some e → e.state.movement = some k → ∃ r, s.mvs.at? k = some r ∧ r.element = i

/-! ### Elements whose knowledge is lost (R71) -/

/-- An element after a line reset or the loss of the line at an RT (R71, R99): its codes and instants forgotten, its section UNKNOWN since that RT, no open
movement; the proceed-proven instant and the seen flag kept. -/
def LiveElement.forgotten (rt : Nat) (e : LiveElement) : LiveElement :=
  { e with state := { e.state with
      lastCommand := none, lastCommandAt := none, lastBadCommand := none, lastIndicated := none, lastIndicationAt := none
      lastBadIndication := none, sectionState := .unknown, sectionSince := rt, movement := none } }

/-! ### A sweep of a plane (R135, R137) -/

/-- A plane swept with no overlay slot ACTIVE, at the present civil time: the cursor stops at the first entry whose window has not closed, or at the
end; an entry it passes that was PENDING is MISSED, and every other status stands. -/
def State.Swept (s : State) (old new : Plane) : Prop :=
  new.day = old.day ∧ old.cursor ≤ new.cursor ∧
    (∀ e, s.ttc.entries[new.cursor]? = some e → (s.ctMs : Int) ≤ s.windowEnd old.day e) ∧
    (∀ i e, old.cursor ≤ i → i < new.cursor → s.ttc.entries[i]? = some e → s.windowEnd old.day e < s.ctMs) ∧
    ∀ i, new.statusOf i = if old.cursor ≤ i ∧ i < new.cursor ∧ old.statusOf i = .pending then .missed else old.statusOf i

/-- What a sweep that writes these records, newest first, does to the report queue (R137): every record is dated at the sweep and is reported as MISSED
(NOTICE), in the order written, and no other report is raised. -/
def State.MissedReported (s t : State) (more : List Record) : Prop :=
  (∀ x ∈ more, x.date = s.now ∧ x.flags = {}) ∧
    t.orh = (more.reverse.map fun x =>
      { kind := .missed, priority := 2, seq := x.seq, date := x.date, flags := x.flags, summary := .ofRecord x.body }).foldl Orh.raise s.orh

/-! ### A clock line evaluated (R169, R171) -/

/-- The line state that the table of R169 gives for a dial, at this instant. -/
def State.runFor (s : State) (interval shown : Nat) (atBoundary : Bool) : LineRun :=
  let lag := dialLag interval s.ctMs shown
  if lag = 0 then .run
  else if dialPositions interval - s.orh.params.holdLimit ≤ lag then .hold
  else if lag = 1 ∧ atBoundary = true then .run
  else .catchUp

/-- Whether the table of R169 wants an impulse: the lag is not 0 and below the hold threshold. -/
def State.wantsImpulse (s : State) (interval shown : Nat) : Bool :=
  decide (0 < dialLag interval s.ctMs shown ∧ dialLag interval s.ctMs shown < dialPositions interval - s.orh.params.holdLimit)

/-- A line with this dial after an evaluation: the state, and the impulse wanted, which starts at once where the spacing expiry is absent or past and
else waits (R169, R171). -/
def ClockLine.evaluatedAs (x : ClockLine) (s : State) (interval shown : Nat) (polarity : Polarity) (atBoundary : Bool) : ClockLine :=
  let y := { x with state := s.runFor interval shown atBoundary, noted := false, wanted := false }
  if s.wantsImpulse interval shown = true then
    if ∀ expiry, x.spacing = some expiry → expiry ≤ s.tbu.rt then
      { y with
        flight := some { kind := .normal, polarity := polarity, startRt := s.tbu.rt, endRt := s.tbu.rt + s.orh.params.pulseWidth * 1000 }
        spacing := some (s.tbu.rt + max s.orh.params.catchUpSpacing (s.orh.params.pulseWidth + 500) * 1000) }
    else { y with wanted := true }
  else y

/-! ### The staging banks and the checks of an APPLY (R58, R60, R72, R122; entry 23) -/

/-- The three staging banks keep their canonical form. -/
structure State.BanksSound (s : State) : Prop where
  elements : s.lys.stagingElements.wf 1024 = true
  points : s.lys.stagingPoints.wf 256 = true
  timetable : s.ttc.staging.wf 8192 = true

/-- An index of an element bank fails a check of R72, the bank read by index. -/
def elementFails (bank : Nat → Option Element) (i : Nat) : ApplyReason → Prop
  | .prefixRule => (∃ e, bank i = some e) ∧ ∃ j, j < i ∧ bank j = none
  | .addressOrder => 0 < i ∧ ∃ e before, bank i = some e ∧ bank (i - 1) = some before ∧ e.address ≤ before.address
  | .link => False
  | .bookedOrder => False
  | .timingPoint => False
  | .scope => False

/-- An index of a timing point bank fails a check of R72 against an element bank. -/
def pointFails (elements : Nat → Option Element) (bank : Nat → Option TimingPoint) (i : Nat) : ApplyReason → Prop
  | .prefixRule => (∃ p, bank i = some p) ∧ ∃ j, j < i ∧ bank j = none
  | .link => ∃ p, bank i = some p ∧
      ((∀ e, elements p.sect = some e → e.kind ≠ .sect) ∨
        ∃ x, p.signal = some x ∧ ∀ e, elements x = some e → e.kind ≠ .signal)
  | .addressOrder => False
  | .bookedOrder => False
  | .timingPoint => False
  | .scope => False

/-- An index of a timetable bank fails a check of R72 against a timing point count. -/
def timetableFails (points : Nat) (bank : Nat → Option TimetableEntry) (i : Nat) : ApplyReason → Prop
  | .prefixRule => (∃ e, bank i = some e) ∧ ∃ j, j < i ∧ bank j = none
  | .bookedOrder => 0 < i ∧ ∃ e before, bank i = some e ∧ bank (i - 1) = some before ∧ e.booked < before.booked
  | .timingPoint => ∃ e, bank i = some e ∧ points ≤ e.point
  | .addressOrder => False
  | .link => False
  | .scope => False

/-- An overlay slot fails the check of R72 against a timing point count. -/
def overlayFails (points : Nat) (slot : Nat → Option OverlaySlot) (k : Nat) (reason : ApplyReason) : Prop :=
  reason = .timingPoint ∧
    ∃ target train point booked mask, slot k = some { target := target, action := .replace train point booked mask } ∧ points ≤ point

/-- The first failure of one table's checks: at the lowest index, and there the first reason of the list in R72; none where no index fails. -/
def FirstFailure (table : ApplyTable) (fails : Nat → ApplyReason → Prop) : Option ApplyFailure → Prop
  | none => ∀ i reason, ¬ fails i reason
  | some f => f.table = table ∧ fails f.index f.reason ∧ (∀ i reason, i < f.index → ¬ fails i reason) ∧
      ∀ reason, fails f.index reason → f.reason.code ≤ reason.code

/-- The first failure of several tables' checks, run in order (R72). -/
def ChecksGive : List (ApplyTable × (Nat → ApplyReason → Prop)) → Option ApplyFailure → Prop
  | [], found => found = none
  | (table, fails) :: rest, found =>
      (found ≠ none ∧ FirstFailure table fails found) ∨ (FirstFailure table fails none ∧ ChecksGive rest found)

/-! ### An APPLY in effect (R74 to R77, R100, R119, R146) -/

/-- The timetable check after a TIMETABLE apply, but for the planes (R146): the staging bank is the active bank, the generation is up by one, the timetable
is active with H0 latched, and every overlay slot is FREE. -/
def State.renewedTtc (s : State) : Ttc :=
  { s.ttc with
    entries := s.ttc.staging.values, generation := (s.ttc.generation + 1) % 65536, active := true, h0 := s.orh.params.h0
    overlay := List.replicate 64 none }

/-- The state after an APPLY of scope TIMETABLE alone (R75, R146): the APPLY record, with no counts carried (entry 19), and the APPLY DONE report first; the
timetable renewed; nothing armed; and outside UNSET the planes made afresh (R141), cause APPLY. -/
def State.timetableTaken (s : State) (trigger : ApplyTrigger) (date : Date) : State :=
  let body : RecordBody := .apply .timetable trigger s.lys.generation ((s.ttc.generation + 1) % 65536) s.lys.elements.length
    s.psd.points.length 0 0
  let renewed := { s with
    lys := { s.lys with armed := none }
    ttc := s.renewedTtc
    evj := s.evj.store body date {}
    orh := s.orh.raise
      { kind := .applyDone, priority := 3, seq := s.evj.next, date := date, flags := {}, summary := .ofRecord body } }
  if s.tbu.timeState = .unset then renewed else renewed.remakePlanes .apply

/-- The records of dropped expectations among these, newest first, as their reports in the order written (R119). -/
def droppedReports (more : List Record) : List Report :=
  (more.reverse.filter fun x => x.body matches .expectationDropped ..).map fun x =>
    { kind := .expectationDropped, priority := 2, seq := x.seq, date := x.date, flags := x.flags, summary := .ofRecord x.body }

/-- The state after an APPLY whose scope has LAYOUT (R75 to R77, R100, R119, R146), from the state just before it, at an instant.
- `banks`: the staging banks are the active banks and stand themselves; the generation is up by one, the unknown-address list empty, nothing armed.
- `kept`, `fresh`: an element with the address and kind of an old one keeps that one's state record whole but for its seen flag; the others are
  fresh since the instant.
- `moved`, `ended`, `free`: an open movement whose element is kept stays at its position, re-linked to the new index; the others are closed ABANDONED,
  reason APPLY; a FREE position stays FREE.
- `carried`: each new point in rising order keeps the record of the lowest old point of its edge and section address not yet matched, else is fresh; the
  APPLY record comes first, reported as APPLY DONE (ROUTINE); then the MOVEMENT END of each movement closed, in rising order of position, and a record
  and a report of each number queued at an old point left unmatched, in rising order of point, oldest first; last the TIMETABLE RESET record, where the
  planes are made afresh.
- `timetable`: without TIMETABLE the timetable check stands; with it, it is renewed, and outside UNSET its planes are made afresh with their record. -/
structure State.LayoutTaken (s t : State) (scope : Scope) (trigger : ApplyTrigger) (ending : Instant) : Prop where
  banks : t.lys.armed = none ∧ t.lys.generation = (s.lys.generation + 1) % 65536 ∧ t.lys.unknown = [] ∧
    t.lys.stagingElements = s.lys.stagingElements ∧ t.lys.stagingPoints = s.lys.stagingPoints ∧
    t.lys.elements.map (·.entry) = s.lys.stagingElements.values ∧ t.psd.points.map (·.entry) = s.lys.stagingPoints.values
  kept : ∀ e ∈ t.lys.elements, ∀ o ∈ s.lys.elements, o.entry.address = e.entry.address → o.entry.kind = e.entry.kind →
    e.state = { o.state with seen := false }
  fresh : ∀ e ∈ t.lys.elements, (∀ o ∈ s.lys.elements, o.entry.address ≠ e.entry.address ∨ o.entry.kind ≠ e.entry.kind) →
    e.state = { sectionSince := ending.rt }
  moved : ∀ k r i e, s.mvs.at? k = some r → t.lys.elements[i]? = some e → e.entry.address = r.address → e.entry.kind = r.kind →
    t.mvs.at? k = some { r with element := i }
  ended : ∀ k r, s.mvs.at? k = some r → (∀ e ∈ t.lys.elements, e.entry.address ≠ r.address ∨ e.entry.kind ≠ r.kind) →
    t.mvs.at? k = none
  free : ∀ k, s.mvs.at? k = none → t.mvs.at? k = none
  carried : ∃ (matched : List (Option Nat)) (more : List Record) (body : RecordBody),
    matched.length = t.psd.points.length ∧
    (∀ i p, t.psd.points[i]? = some p →
      let mayMatch := fun (j : Nat) => some j ∉ matched.take i ∧ ∃ q, s.psd.points[j]? = some q ∧ q.entry.edge = p.entry.edge ∧
        s.sectionAddress q.entry = t.sectionAddress p.entry
      (∀ j, matched[i]? = some (some j) →
        mayMatch j ∧ (∀ lower, lower < j → ¬ mayMatch lower) ∧ ∀ q, s.psd.points[j]? = some q → p.record = q.record) ∧
      (matched[i]? = some none → (∀ j, ¬ mayMatch j) ∧ p.record = {})) ∧
    s.evj.Grown t.evj (more ++ [{ seq := s.evj.next, body := body, date := ending.date, flags := {} }]) ∧
    body = .apply scope trigger ((s.lys.generation + 1) % 65536)
      (if scope = .both then (s.ttc.generation + 1) % 65536 else s.ttc.generation) s.lys.stagingElements.length
      s.lys.stagingPoints.length s.elementsCarried s.pointsCarried ∧
    t.orh = (droppedReports more).foldl Orh.raise (s.orh.raise
      { kind := .applyDone, priority := 3, seq := s.evj.next, date := ending.date, flags := {}, summary := .ofRecord body }) ∧
    (more.reverse.map fun x => (x.body, x.date)) =
      ((List.range 64).filterMap fun k => (s.mvs.at? k).bind fun r =>
        if t.lys.elements.any fun e => e.entry.address == r.address && e.entry.kind == r.kind then none
        else some (r.endRecord k .abandoned (some .apply) ending.rt, ending.date)) ++
      ((List.range s.psd.points.length).flatMap fun j => (s.psd.points[j]?).toList.flatMap fun q =>
        if some j ∈ matched then []
        else q.record.queue.map fun train =>
          (.expectationDropped j (s.sectionAddress q.entry) q.entry.edge train true, ending.date)) ++
      (if scope = .both ∧ s.tbu.timeState ≠ .unset then
        (State.remakePlanes { s with ttc := s.renewedTtc } .apply).evj.ring.head?.toList.map fun x => (x.body, x.date)
      else [])
  timetable :
    (scope = .layout → t.ttc = s.ttc) ∧
    (scope = .both → s.tbu.timeState = .unset → t.ttc = s.renewedTtc) ∧
    (scope = .both → s.tbu.timeState ≠ .unset → t.ttc = (State.remakePlanes { s with ttc := s.renewedTtc } .apply).ttc)
  others : t.pins = s.pins ∧ t.liu = s.liu ∧ t.dtu = s.dtu ∧ t.tbu = s.tbu ∧ t.cld = s.cld ∧ t.clk = s.clk ∧ t.pending = s.pending

/-! ### Telegrams as rows (R8) -/

/-- The row of the command table that a telegram with a right check is at a port (R3, R6, R8); an ORDER is the row of its payload as it stands. -/
def rowOf (node : Nat) (p : Port) (kind address : Nat) (payload : List Byte) : Instr :=
  match readTelegram node p kind address payload with
  | .notInterpreted => .telegramNotInterpreted p kind address payload (telegramCheck kind address payload)
  | .form => .telegramNotInterpreted p kind address payload (telegramCheck kind address payload)
  | .roundOpen number => .roundOpen number
  | .roundClose => .roundClose
  | .command code => .command address code
  | .indication code age => .indication address code age
  | .lineReset => .lineReset
  | .order m => .orderRefusedForm m payload

end Sys2Proof.Machine
end

