-- ==== Sys2Proof/Certificates/Slice0/Obligations.lean ====
section
/-! DEFINITION. The statements for the provers, in the order of the chapters: the step, the line, the time base, dating, layout, movements, passings,
the timetable, the journal, the clock lines, orders, and the invariants. "released" is the state with the port of the telegram released (R2, R45), and
the arrival capture is the port's, or this instant's for a telegram commanded without bytes (entry 5). -/

open Sys2Proof Sys2Proof.Machine

/-! ### The step -/

/-- The step takes the command at the front of the queue, on the state with the queue's rest. -/
def Obligations.StepTakesFrontCommand : Prop :=
  ∀ (c : Instr) (rest : List Instr) (s : State), s.pending = c :: rest → step s = exec c { s with pending := rest }

/-- With no command waiting and nothing due, one microsecond passes (entry 1; R19, R21, R22, R23): RT rises by 1, ST by 1 up to the end of its
range, |T| goes into the accumulator and the slew phase counts. With no command waiting, the step takes an event that is due, whichever the
free choice names (entries 1 and 2): it is one of those due, and it is taken as its row, on the state with that choice counted. What is due
is taken (R13, R16, R17, R22, R23, R25, R36, R37, R93, R95, R135, R170, R171, R172, R176): the trim carry, then the slew tick; with neither
due, one of the timed events that have come due, among which each stands as soon as its condition holds. -/
def Obligations.EmptyQueueLetsTimeRun : Prop :=
  (∀ s : State, s.pending = [] → s.dueCommand = none →
     step s = .next { s with
       tbu := { s.tbu with
         rt := s.tbu.rt + 1
         st := if s.tbu.st < 5662310399999999 then s.tbu.st + 1 else s.tbu.st
         accumulator := s.tbu.accumulator + s.tbu.trim.natAbs
         slewPhase := if s.tbu.slewPhase + 1 = 1000 ∧ s.tbu.slew = 0 then 0 else s.tbu.slewPhase + 1 }
       clk := { s.clk with
         stMark := s.tbu.st
         stReached := if s.tbu.st < 5662310399999999 then s.tbu.st + 1 else s.tbu.st
         sweepTaken := false, boundaryTakenA := false, boundaryTakenB := false } }) ∧
  (∀ (s : State) (c : Instr), s.pending = [] → s.dueCommand = some c →
     (s.dueAdjustment = some c ∨ (s.dueAdjustment = none ∧ c ∈ s.dueEvents)) ∧
     ∃ n, step s = exec c { s with clk := { s.clk with choices := n } }) ∧
  (∀ s : State,
     (100000000 ≤ s.tbu.accumulator → s.dueCommand = some .trimCarry) ∧
     (s.tbu.accumulator < 100000000 → 1000 ≤ s.tbu.slewPhase → s.tbu.slew ≠ 0 → s.dueCommand = some .slewTick) ∧
     (s.tbu.accumulator < 100000000 → s.tbu.slewPhase < 1000 ∨ s.tbu.slew = 0 → s.dueEvents ≠ [] →
       ∃ c, s.dueCommand = some c ∧ c ∈ s.dueEvents) ∧
     (∀ offset minute, s.tbu.scheduled = some (offset, minute) → minute * 60000000 ≤ s.tbu.st → .season ∈ s.dueEvents) ∧
     (∀ expiry, s.tbu.timeState = .acquire ∨ s.tbu.timeState = .locked → s.tbu.holdoverExpiry = some expiry → expiry ≤ s.tbu.rt →
       .holdoverExpiry ∈ s.dueEvents) ∧
     (∀ entry, s.tbu.timeState = .holdover → s.tbu.holdoverEntry = some entry →
       entry + s.orh.params.holdoverLimit * 60000000 ≤ s.tbu.rt → .holdoverLimit ∈ s.dueEvents) ∧
     (∀ expiry, s.liu.lineState = .running → s.liu.lossExpiry = some expiry → expiry ≤ s.tbu.rt → .lossExpiry ∈ s.dueEvents) ∧
     (s.ttc.planes ≠ none → s.clk.stMark / 1000000 < s.clk.stReached / 1000000 → s.clk.sweepTaken = false → .sweep ∈ s.dueEvents) ∧
     (∀ k r, k < 64 → s.mvs.at? k = some r → r.overdue = false → r.limitExpiry ≤ s.tbu.rt → .limitExpiry k ∈ s.dueEvents) ∧
     (∀ k r, k < 64 → s.mvs.at? k = some r → r.abandonExpiry ≤ s.tbu.rt → .abandonExpiry k ∈ s.dueEvents) ∧
     (∀ l interval, (s.line l).interval = some interval →
       s.clk.stMark / (interval * 1000000) < s.clk.stReached / (interval * 1000000) → s.boundaryTaken l = false →
         .intervalBoundary l ∈ s.dueEvents) ∧
     (∀ l, (s.line l).state = .run ∨ (s.line l).state = .catchUp → (s.line l).wanted = true → (s.line l).flight = none →
       (∀ expiry, (s.line l).spacing = some expiry → expiry ≤ s.tbu.rt) → .spacingExpiry l ∈ s.dueEvents) ∧
     (∀ l i, (s.line l).flight = some i → i.endRt ≤ s.tbu.rt → .impulseCompletion l (s.pins.sense l) ∈ s.dueEvents) ∧
     (∀ l expiry, (s.line l).state = .fault → (s.line l).flight = none → (s.line l).probe = some expiry → expiry ≤ s.tbu.rt →
       .probeExpiry l ∈ s.dueEvents) ∧
     (s.liu.turn ≠ .closed → s.liu.tx = .idle → s.liu.holdBuffer = [] → s.liu.rxF.state = .idle ∨ s.liu.rxF.state = .noise →
       .partTelegramStart ∈ s.dueEvents))

/-- Every command has a next state, and leaves the rest of the queue as it stands. That a command whose numbers do not fit their fields has one
too is the model's choice (entry 28), as is that POWER_ON keeps the queue (entry 30). -/
def Obligations.EveryCommandAnswers : Prop :=
  ∀ (c : Instr) (s : State), ∃ t, exec c s = .next t ∧ t.pending = s.pending

/-- A row of a timed event that is not due has no effect (entry 3). -/
def Obligations.EventsNotDueDoNothing : Prop :=
  ∀ s : State,
    (s.lossDue = false → exec .lossExpiry s = .next s) ∧
    (s.partStartDue = false → exec .partTelegramStart s = .next s) ∧
    (s.tbu.accumulator < 100000000 → exec .trimCarry s = .next s) ∧
    (s.tbu.slewPhase < 1000 ∨ s.tbu.slew = 0 → exec .slewTick s = .next s) ∧
    ((∀ offset minute, s.tbu.scheduled = some (offset, minute) → s.tbu.st < minute * 60000000) → exec .season s = .next s) ∧
    (s.holdoverExpiryDue = false → exec .holdoverExpiry s = .next s) ∧
    (s.holdoverLimitDue = false → exec .holdoverLimit s = .next s) ∧
    (s.sweepDue = false → exec .sweep s = .next s) ∧
    (∀ k, s.limitDue k = false → exec (.limitExpiry k) s = .next s) ∧
    (∀ k, s.abandonDue k = false → exec (.abandonExpiry k) s = .next s) ∧
    (∀ l, s.boundaryDue l = false → exec (.intervalBoundary l) s = .next s) ∧
    (∀ l, (s.line l).mayStart s.tbu.rt = false → exec (.spacingExpiry l) s = .next s) ∧
    (∀ l, s.probeDue l = false → exec (.probeExpiry l) s = .next s)

/-- The straps are read at power-on alone (R1): no other command changes the node address or the line rate. No order, mark, step or restart
touches RT (R19): every command but power-on leaves it. T is changed by trim learning alone (R22): every command but a mark and power-on
leaves it. -/
def Obligations.FixedQuantitiesHaveOneCause : Prop :=
  (∀ (c : Instr) (s t : State), exec c s = .next t → (∀ straps rate, c ≠ .powerOn straps rate) →
     t.liu.node = s.liu.node ∧ t.liu.rate = s.liu.rate) ∧
  (∀ (c : Instr) (s t : State), exec c s = .next t → (∀ straps rate, c ≠ .powerOn straps rate) → t.tbu.rt = s.tbu.rt) ∧
  (∀ (c : Instr) (s t : State), exec c s = .next t → c ≠ .mark → (∀ straps rate, c ≠ .powerOn straps rate) →
     t.tbu.trim = s.tbu.trim)

/-- A stored record is never changed (R148, R149, R153): any command but power-on stores new records after the old ones, numbered on from the
next number, and the ring is the newest 16,384 of them all. Of new records there are at most as many as the tables allow one command, far
fewer than the numbers, so that the next number after it tells how many. -/
def Obligations.StoredRecordsNeverChange : Prop :=
  ∀ (c : Instr) (s t : State), exec c s = .next t → (∀ straps rate, c ≠ .powerOn straps rate) → s.evj.stored ≤ 16384 →
    ∃ new : List Record, s.evj.Grown t.evj new ∧ new.length ≤ s.mostRecords

/-! ### The line (01) -/

/-- In IDLE a byte that is no start byte begins a noise run at the I-port (R2, R4, R5): relayed at once, NOISE, the count of the port up by 1
and held at 65,535. In NOISE a further one is relayed and not counted. A start byte in IDLE or NOISE opens a telegram at either port (R2,
R5, R44): HEADER, the byte in the lag stage, and the arrival capture of RT, ST, S and the quality class as they stand. A length byte above
58 sends the I-port receiver to SKIP (R2, R4, R45): the byte is relayed, the telegram counted as LENGTH, its capture discarded. Silence ends
what is arriving at the I-port (R2, R4, R45): a telegram in HEADER or BODY is TRUNCATED, its lag stage relayed, counted, its capture
discarded; in NOISE and SKIP the receiver goes to IDLE; in IDLE nothing changes. At the F-port the receiver does the same (R2, R4, R5, R7),
and what it relays goes to the I-port transmitter, which with an empty hold buffer is idle or sends relayed bytes: noise counted at the
F-port, a length byte above 58, and silence. -/
def Obligations.ReceiverFollowsItsTable : Prop :=
  (∀ (b : Byte) (s : State), b ≠ 0xD2#8 →
     (s.liu.rxI.state = .idle →
       exec (.byteArrival .i b) s = .next { s with
         liu := { s.liu with
           fOut := s.liu.fOut ++ [b]
           errorsI := min (s.liu.errorsI + 1) 65535
           rxI := { s.liu.rxI with state := .noise } } }) ∧
     (s.liu.rxI.state = .noise →
       exec (.byteArrival .i b) s = .next { s with liu := { s.liu with fOut := s.liu.fOut ++ [b] } })) ∧
  (∀ s : State,
     (s.liu.rxI.state = .idle ∨ s.liu.rxI.state = .noise →
       exec (.byteArrival .i 0xD2#8) s = .next { s with
         liu := { s.liu with rxI := { state := .header, lag := [0xD2#8], frame := [], remaining := 0, consumed := false, cut := false } }
         dtu := { s.dtu with capI := some { rt := s.tbu.rt, st := s.tbu.st, season := s.tbu.season, quality := s.quality } } }) ∧
     (s.liu.rxF.state = .idle ∨ s.liu.rxF.state = .noise →
       exec (.byteArrival .f 0xD2#8) s = .next { s with
         liu := { s.liu with rxF := { state := .header, lag := [0xD2#8], frame := [], remaining := 0, consumed := false, cut := false } }
         dtu := { s.dtu with capF := some { rt := s.tbu.rt, st := s.tbu.st, season := s.tbu.season, quality := s.quality } } })) ∧
  (∀ (kindByte addressByte b : Byte) (s : State),
     s.liu.rxI.state = .header → s.liu.rxI.frame = [kindByte, addressByte] → s.liu.rxI.consumed = false → 59 ≤ b.toNat →
       exec (.byteArrival .i b) s = .next { s with
         liu := { s.liu with
           fOut := s.liu.fOut ++ [b]
           errorsI := min (s.liu.errorsI + 1) 65535
           rxI := { s.liu.rxI with state := .skip, frame := [] } }
         dtu := { s.dtu with capI := none } }) ∧
  (∀ s : State,
     (s.liu.rxI.state = .header ∨ s.liu.rxI.state = .body →
       exec (.lineSilent .i) s = .next { s with
         liu := { s.liu with
           fOut := s.liu.fOut ++ s.liu.rxI.lag
           errorsI := min (s.liu.errorsI + 1) 65535
           rxI := {} }
         dtu := { s.dtu with capI := none } }) ∧
     (s.liu.rxI.state = .noise ∨ s.liu.rxI.state = .skip →
       exec (.lineSilent .i) s = .next { s with liu := { s.liu with rxI := {} } }) ∧
     (s.liu.rxI.state = .idle → exec (.lineSilent .i) s = .next s)) ∧
  (∀ (b : Byte) (direct : List Byte) (s : State),
     s.liu.holdBuffer = [] → s.liu.tx = .idle ∧ direct = [] ∨ s.liu.tx = .relaying direct →
     (b ≠ 0xD2#8 → s.liu.rxF.state = .idle →
       exec (.byteArrival .f b) s = .next { s with
         liu := { s.liu with
           tx := .relaying (direct ++ [b]), errorsF := min (s.liu.errorsF + 1) 65535
           rxF := { s.liu.rxF with state := .noise } } }) ∧
     (b ≠ 0xD2#8 → s.liu.rxF.state = .noise →
       exec (.byteArrival .f b) s = .next { s with liu := { s.liu with tx := .relaying (direct ++ [b]) } }) ∧
     (∀ kindByte addressByte, s.liu.rxF.state = .header → s.liu.rxF.frame = [kindByte, addressByte] → s.liu.rxF.consumed = false →
       59 ≤ b.toNat →
         exec (.byteArrival .f b) s = .next { s with
           liu := { s.liu with
             tx := .relaying (direct ++ [b]), errorsF := min (s.liu.errorsF + 1) 65535
             rxF := { s.liu.rxF with state := .skip, frame := [] } }
           dtu := { s.dtu with capF := none } }) ∧
     (s.liu.rxF.state = .skip → s.liu.rxF.consumed = false →
       exec (.byteArrival .f b) s = .next { s with liu := { s.liu with tx := .relaying (direct ++ [b]) } }) ∧
     (s.liu.rxF.state = .header ∨ s.liu.rxF.state = .body →
       exec (.lineSilent .f) s = .next { s with
         liu := { s.liu with
           tx := if s.liu.rxF.lag = [] then s.liu.tx else .relaying (direct ++ s.liu.rxF.lag)
           errorsF := min (s.liu.errorsF + 1) 65535, rxF := {} }
         dtu := { s.dtu with capF := none } }) ∧
     (s.liu.rxF.state = .noise ∨ s.liu.rxF.state = .skip →
       exec (.lineSilent .f) s = .next { s with liu := { s.liu with rxF := {} } }) ∧
     (s.liu.rxF.state = .idle → exec (.lineSilent .f) s = .next s))

/-- The bytes of a whole telegram with a right check, arriving at the I-port, are the telegram's row (R2, R3, R5, R6, R8, R44): its capture is
that of its start byte, and its bytes go out of the F-port in order unless it is an ORDER to this node. The bytes of a whole telegram with a
right check, arriving at the F-port while the I-port transmitter is idle with nothing held, are the telegram's row (R2, R3, R5, R7, R8,
R44): the transmitter has its bytes to send, in order. That the telegram's own row takes any reading of it is entry 6, and that the
transmitter lists the bytes not yet gone out is entry 12: the model's choices. -/
def Obligations.TelegramBytesAreTheirRow : Prop :=
  (∀ (kind address : Nat) (payload : List Byte) (s : State),
     kind < 16 → address < 4096 → payload.length ≤ 58 → s.liu.rxI.state = .idle ∨ s.liu.rxI.state = .noise →
     s.pending = (telegram kind address payload).map (.byteArrival .i) →
       Sys2Proof.core.run (payload.length + 6) s = exec (rowOf s.liu.node .i kind address payload) { s with
         pending := []
         dtu := { s.dtu with capI := some s.captureNow }
         liu := { s.liu with
           rxI := {}
           fOut := if kind = 8 ∧ address = s.liu.node then s.liu.fOut else s.liu.fOut ++ telegram kind address payload } }) ∧
  (∀ (kind address : Nat) (payload : List Byte) (s : State),
     kind < 16 → address < 4096 → payload.length ≤ 58 → s.liu.rxF.state = .idle ∨ s.liu.rxF.state = .noise →
     s.liu.tx = .idle → s.liu.holdBuffer = [] →
     s.pending = (telegram kind address payload).map (.byteArrival .f) →
       Sys2Proof.core.run (payload.length + 6) s = exec (rowOf s.liu.node .f kind address payload) { s with
         pending := []
         dtu := { s.dtu with capF := some s.captureNow }
         liu := { s.liu with rxF := {}, tx := .relaying (telegram kind address payload) } })

/-- A complete telegram at either port that is not taken (R3, R4, R45): with a wrong check it is counted there; with a right one it is counted
where it is FORM, and ignored where its kind is not interpreted at the port or it is an ORDER for another node. Its capture is discarded.
Any other with a right check is taken as its own row (R8, entry 6). -/
def Obligations.TelegramNotTakenIsCountedOrIgnored : Prop :=
  ∀ (kind address : Nat) (payload : List Byte) (check : Nat) (s : State),
    (check ≠ telegramCheck kind address payload →
      exec (.telegramNotInterpreted .i kind address payload check) s = .next { s with
        liu := { s.liu with rxI := {}, errorsI := min (s.liu.errorsI + 1) 65535 }
        dtu := { s.dtu with capI := none } } ∧
      exec (.telegramNotInterpreted .f kind address payload check) s = .next { s with
        liu := { s.liu with rxF := {}, errorsF := min (s.liu.errorsF + 1) 65535 }
        dtu := { s.dtu with capF := none } }) ∧
    (check = telegramCheck kind address payload →
      (kind = 1 ∧ (address ≠ 0 ∨ payload.length ≠ 1) ∨ kind = 2 ∧ (address ≠ 0 ∨ payload.length ≠ 0) ∨
        kind = 3 ∧ (address = 0 ∨ payload.length ≠ 1) ∨ kind = 5 ∧ (address ≠ 0 ∨ payload.length ≠ 0) →
        exec (.telegramNotInterpreted .i kind address payload check) s = .next { s with
          liu := { s.liu with rxI := {}, errorsI := min (s.liu.errorsI + 1) 65535 }
          dtu := { s.dtu with capI := none } }) ∧
      (kind = 8 ∧ address ≠ s.liu.node ∧ address ≠ 4095 ∨ kind ∉ [1, 2, 3, 5, 8] →
        exec (.telegramNotInterpreted .i kind address payload check) s = .next { s with
          liu := { s.liu with rxI := {} }
          dtu := { s.dtu with capI := none } }) ∧
      (kind = 4 ∧ (address = 0 ∨ payload.length ≠ 1 ∧ payload.length ≠ 3) →
        exec (.telegramNotInterpreted .f kind address payload check) s = .next { s with
          liu := { s.liu with rxF := {}, errorsF := min (s.liu.errorsF + 1) 65535 }
          dtu := { s.dtu with capF := none } }) ∧
      (kind ≠ 4 →
        exec (.telegramNotInterpreted .f kind address payload check) s = .next { s with
          liu := { s.liu with rxF := {} }
          dtu := { s.dtu with capF := none } }) ∧
      ∀ p, exec (.telegramNotInterpreted p kind address payload check) s = exec (rowOf s.liu.node p kind address payload) s)

/-- A relayed upstream byte that has gone out of the I-port leaves the store it stood in, and the transmitter is idle after its last byte (R7).
An upstream byte released while a part telegram is sent, or while the hold buffer has bytes, joins the tail of the buffer where it has room,
and else goes straight to the transmitter (R7): noise, a byte of a skipped telegram, and a byte of a telegram's body before its last. An
upstream byte of a telegram that arrives while a part telegram is sent and the hold buffer holds 128 bytes is lost (R7): the telegram is
counted at the F-port the first time and never again. That the receiver takes the lost byte as any other is entry 11, and that the
transmitter lists the bytes passed straight on is entry 12: the model's choices. -/
def Obligations.UpstreamBytesLeaveInOrder : Prop :=
  (∀ (b : Byte) (rest : List Byte) (s : State),
     (s.liu.tx = .relaying (b :: rest) → s.liu.holdBuffer = [] →
       exec .relayedByteSent s = .next { s with
         liu := { s.liu with iOut := s.liu.iOut ++ [b], tx := if rest = [] then .idle else .relaying rest } }) ∧
     (s.liu.tx = .relaying [] → s.liu.holdBuffer = b :: rest →
       exec .relayedByteSent s = .next { s with
         liu := { s.liu with
           iOut := s.liu.iOut ++ [b], holdBuffer := rest, tx := if rest = [] then .idle else .relaying [] } })) ∧
  (∀ (b : Byte) (direct : List Byte) (s : State),
     (s.liu.holdBuffer.length < 128 → (∃ bytes ofSlot, s.liu.tx = .part bytes ofSlot) ∨ s.liu.holdBuffer ≠ [] →
       let held := { s.liu with holdBuffer := s.liu.holdBuffer ++ [b] }
       (b ≠ 0xD2#8 → s.liu.rxF.state = .idle →
         exec (.byteArrival .f b) s = .next { s with
           liu := { held with errorsF := min (s.liu.errorsF + 1) 65535, rxF := { s.liu.rxF with state := .noise } } }) ∧
       (b ≠ 0xD2#8 → s.liu.rxF.state = .noise → exec (.byteArrival .f b) s = .next { s with liu := held }) ∧
       (s.liu.rxF.state = .skip → s.liu.rxF.consumed = false → exec (.byteArrival .f b) s = .next { s with liu := held }) ∧
       (s.liu.rxF.state = .body → 2 ≤ s.liu.rxF.remaining → s.liu.rxF.consumed = false →
         exec (.byteArrival .f b) s = .next { s with
           liu := { held with
             rxF := { s.liu.rxF with frame := s.liu.rxF.frame ++ [b], remaining := s.liu.rxF.remaining - 1 } } })) ∧
     (s.liu.holdBuffer = [] → s.liu.tx = .idle ∧ direct = [] ∨ s.liu.tx = .relaying direct →
       s.liu.rxF.state = .body → 2 ≤ s.liu.rxF.remaining → s.liu.rxF.consumed = false →
         exec (.byteArrival .f b) s = .next { s with
           liu := { s.liu with
             tx := .relaying (direct ++ [b])
             rxF := { s.liu.rxF with frame := s.liu.rxF.frame ++ [b], remaining := s.liu.rxF.remaining - 1 } } })) ∧
  (∀ (b : Byte) (bytes : List Byte) (ofSlot : Bool) (s : State),
     s.liu.rxF.state = .body → 2 ≤ s.liu.rxF.remaining → s.liu.rxF.consumed = false → s.liu.tx = .part bytes ofSlot →
     128 ≤ s.liu.holdBuffer.length →
       exec (.byteArrival .f b) s = .next { s with
         liu := { s.liu with
           errorsF := if s.liu.rxF.cut then s.liu.errorsF else min (s.liu.errorsF + 1) 65535
           rxF := { s.liu.rxF with
             cut := true, frame := s.liu.rxF.frame ++ [b], remaining := s.liu.rxF.remaining - 1 } } })

/-- A ROUND OPEN with no APPLY armed (R9, R12): the round opens, the loss expiry is measured from its arrival, an open turn ends, and the number
is stored. In STARTING, and in RUNNING with no number stored or with the number expected, nothing is written; in RUNNING with another number
a ROUND GAP is. A ROUND OPEN in LOST, with no APPLY armed, returns the line (R14, R70): the LINE STATE (RETURN) record and the LINE RETURN
report, with the duration of the loss in whole ms, and every seen flag cleared. -/
def Obligations.RoundOpenBeginsRound : Prop :=
  (∀ (number : Nat) (s : State), s.lys.armed = none →
     let arrival := s.captureAt .i
     let opened : Liu := { s.liu with
       rxI := {}, phase := .opened, lossExpiry := some (arrival.rt + s.orh.params.lossTimeout * 1000)
       lastOpenRt := some arrival.rt, turn := .closed, lineState := .running, round := some number, lostRt := none }
     (s.liu.lineState = .starting ∨
         s.liu.lineState = .running ∧ (s.liu.round = none ∨ ∃ n, s.liu.round = some n ∧ number = (n + 1) % 256) →
       exec (.roundOpen number) s = .next { s with liu := opened, dtu := { s.dtu with capI := none } }) ∧
     (∀ n, s.liu.lineState = .running → s.liu.round = some n → number ≠ (n + 1) % 256 →
       exec (.roundOpen number) s = .next { s with
         liu := opened, dtu := { s.dtu with capI := none }
         evj := s.evj.store (.roundGap ((n + 1) % 256) number) arrival.date {} })) ∧
  (∀ (number lostAt : Nat) (s : State), s.lys.armed = none → s.liu.lineState = .lost → s.liu.lostRt = some lostAt →
     let arrival := s.captureAt .i
     let body : RecordBody := .lineReturn ((arrival.rt - lostAt) / 1000) number
     exec (.roundOpen number) s = .next { s with
       liu := { s.liu with
         rxI := {}, phase := .opened, lossExpiry := some (arrival.rt + s.orh.params.lossTimeout * 1000)
         lastOpenRt := some arrival.rt, turn := .closed, lineState := .running, round := some number, lostRt := none }
       dtu := { s.dtu with capI := none }
       lys := { s.lys with elements := s.lys.elements.map fun e => { e with state := { e.state with seen := false } } }
       evj := s.evj.store body arrival.date {}
       orh := s.orh.raise
         { kind := .lineReturn, priority := 1, seq := s.evj.next, date := arrival.date, flags := {}, summary := .ofRecord body } })

/-- A ROUND CLOSE in round phase OPEN closes the round and opens the turn with the allotment in force and no report sent; in NONE and in CLOSED
it has no effect (R10, R15). -/
def Obligations.RoundCloseOpensTurn : Prop :=
  ∀ s : State,
    (s.liu.phase = .opened →
      exec .roundClose s = .next { s with
        liu := { s.liu with rxI := {}, phase := .closed, turn := .opened s.orh.params.allotment 0 }
        dtu := { s.dtu with capI := none } }) ∧
    (s.liu.phase ≠ .opened →
      exec .roundClose s = .next { s with liu := { s.liu with rxI := {} }, dtu := { s.dtu with capI := none } })

/-- A LINE RESET (R11, R71, R99, R118): round phase NONE, no round number, the turn ended, the record written first; every element forgotten,
every movement closed ABANDONED with reason LINE at the arrival, in rising order of position, its link absent; the expectation queues, the
time base, the timetable, the clock lines, the report queue and the line state are kept. The loss of the line (R13, R71, R99, R118), with no
APPLY armed: LOST, no loss expiry, round phase NONE with the number kept, the turn ended; the LINE STATE (LOST) record first, with the LINE
LOST report; the field forgotten as by a line reset. -/
def Obligations.ResetAndLossForgetTheField : Prop :=
  (∀ s : State, s.MovementsSound →
     ∃ t, exec .lineReset s = .next t ∧
       t.liu = { s.liu with rxI := {}, phase := .none, round := none, turn := .closed } ∧
       t.dtu = { s.dtu with capI := none } ∧
       t.lys = { s.lys with elements := s.lys.elements.map (LiveElement.forgotten (s.captureAt .i).rt) } ∧
       (∀ k, t.mvs.at? k = none) ∧
       (∃ ends,
         s.evj.Grown t.evj (ends ++ [{ seq := s.evj.next, body := .lineReset, date := (s.captureAt .i).date, flags := {} }]) ∧
         ends.length = s.mvs.openCount ∧
         ends.reverse.map (·.body) =
           (List.range 64).filterMap (fun k => (s.mvs.at? k).map fun r => r.endRecord k .abandoned (some .line) (s.captureAt .i).rt) ∧
         ∀ x ∈ ends, x.date = (s.captureAt .i).date) ∧
       t.psd = s.psd ∧ t.tbu = s.tbu ∧ t.ttc = s.ttc ∧ t.cld = s.cld ∧ t.orh = s.orh ∧ t.pins = s.pins ∧ t.clk = s.clk) ∧
  (∀ s : State, s.MovementsSound → s.lys.armed = none → s.lossDue = true →
     let body : RecordBody := .lineLost s.liu.round s.orh.params.lossTimeout
     ∃ t, exec .lossExpiry s = .next t ∧
       t.liu = { s.liu with lineState := .lost, lossExpiry := none, phase := .none, lostRt := some s.tbu.rt, turn := .closed } ∧
       t.lys = { s.lys with elements := s.lys.elements.map (LiveElement.forgotten s.tbu.rt) } ∧
       (∀ k, t.mvs.at? k = none) ∧
       (∃ ends, s.evj.Grown t.evj (ends ++ [{ seq := s.evj.next, body := body, date := s.now, flags := {} }]) ∧
         ends.length = s.mvs.openCount ∧
         ends.reverse.map (·.body) =
           (List.range 64).filterMap (fun k => (s.mvs.at? k).map fun r => r.endRecord k .abandoned (some .line) s.tbu.rt) ∧
         ∀ x ∈ ends, x.date = s.now) ∧
       t.orh = s.orh.raise
         { kind := .lineLost, priority := 1, seq := s.evj.next, date := s.now, flags := {}, summary := .ofRecord body } ∧
       t.dtu = s.dtu ∧ t.psd = s.psd ∧ t.tbu = s.tbu ∧ t.ttc = s.ttc ∧ t.cld = s.cld ∧ t.pins = s.pins ∧ t.clk = s.clk)

/-- In an open turn, when the I-port may start a part telegram (R16, R17): a reply telegram first; with none, the head of the report queue while
the allotment is not spent; else the turn ends. A part telegram has gone out (R7, R16, R188): what the hold buffer holds follows at once; a
reply telegram counts as sent, the last making the slot EMPTY; and the turn closes once the allotment is spent with no reply telegram left. -/
def Obligations.PartTelegramsServeReplyThenReport : Prop :=
  (∀ (allotment sent : Nat) (s : State), s.liu.turn = .opened allotment sent → s.liu.tx = .idle → s.liu.holdBuffer = [] →
     s.liu.rxF.state = .idle ∨ s.liu.rxF.state = .noise →
     (∀ r, s.orh.slot = some r →
       exec .partTelegramStart s = .next { s with
         liu := { s.liu with tx := .part (telegram 9 s.liu.node (r.payload s.liu.rate)) true } }) ∧
     (∀ r rest, s.orh.slot = none → sent < allotment → s.orh.reports = r :: rest →
       exec .partTelegramStart s = .next { s with
         liu := { s.liu with
           tx := .part (telegram 10 s.liu.node (r.payload s.liu.rate)) false, turn := .opened allotment (sent + 1) }
         orh := { s.orh with reports := rest } }) ∧
     (s.orh.slot = none → allotment ≤ sent ∨ s.orh.reports = [] →
       exec .partTelegramStart s = .next { s with liu := { s.liu with turn := .closed } })) ∧
  (∀ (bytes : List Byte) (allotment sent : Nat) (s : State), s.liu.turn = .opened allotment sent →
     (s.liu.tx = .part bytes false →
       exec .partTelegramEnd s = .next { s with
         liu := { s.liu with
           iOut := s.liu.iOut ++ bytes
           tx := if s.liu.holdBuffer = [] then .idle else .relaying []
           turn := if allotment ≤ sent ∧ s.orh.slot = none then .closed else .opened allotment sent } }) ∧
     (∀ r, s.liu.tx = .part bytes true → s.orh.slot = some r → r.sent + 1 < r.content.telegrams →
       exec .partTelegramEnd s = .next { s with
         liu := { s.liu with
           iOut := s.liu.iOut ++ bytes, tx := if s.liu.holdBuffer = [] then .idle else .relaying [] }
         orh := { s.orh with slot := some { r with sent := r.sent + 1 } } }) ∧
     (∀ r, s.liu.tx = .part bytes true → s.orh.slot = some r → r.content.telegrams ≤ r.sent + 1 →
       exec .partTelegramEnd s = .next { s with
         liu := { s.liu with
           iOut := s.liu.iOut ++ bytes
           tx := if s.liu.holdBuffer = [] then .idle else .relaying []
           turn := if allotment ≤ sent then .closed else .opened allotment sent }
         orh := { s.orh with slot := none } }))

/-! ### The time base (02) and dating (03) -/

/-- The quality class of a date by the time state, HOLDOVER counting as B up to 900,000,000 µs after its entry and as C beyond (R26); the STATUS
reply gives the class as it stands. That HOLDOVER with no entry, which no run reaches, counts as C is the model's choice (entry 32). -/
def Obligations.QualityFollowsTimeState : Prop :=
  ∀ s : State,
    s.status.quality = s.now.quality ∧ s.captureNow.quality = s.now.quality ∧ s.now.quality =
      match s.tbu.timeState, s.tbu.holdoverEntry with
      | .locked, _ => .a
      | .acquire, _ => .b
      | .holdover, some entry => if s.tbu.rt ≤ entry + 900000000 then .b else .c
      | .holdover, none => .c
      | .free, _ => .c
      | .unset, _ => .u

/-- An unlabelled mark in UNSET and FREE changes nothing but the latched limits and the learning record (R28, R29). A mark in UNSET, or one
beyond the step limit in FREE, ACQUIRE and HOLDOVER, labelled or not, is a STEP (R28 to R31, R35, R36): ST is second N, held at the end of
its range, P is 0, T and the accumulator stand, the state is ACQUIRE, and the TIME STEP record is dated by the new ST and reported. A
seasonal change that the new ST reaches applies at once, its record and report after those (its date's class: entry 17). Stated where the
step announces nothing: no planes and none to make, and no clock line to evaluate. -/
def Obligations.MarkIgnoredOrStepped : Prop :=
  (∀ s : State, s.tbu.timeState = .unset ∨ s.tbu.timeState = .free →
     s.tbu.label = none ∨ (∃ n taken, s.tbu.label = some (n, taken) ∧ 2000000 < s.tbu.rt - taken) →
       exec .mark s = .next { s with
         tbu := { s.tbu with
           stepLimit := s.orh.params.stepLimit, lockWindow := s.orh.params.lockWindow, label := none, prevAccepted := false } }) ∧
  (∀ (n : Nat) (labelled : Bool) (s : State), s.MarkAgainst n labelled →
     let e : Int := (s.tbu.st : Int) - (n * 1000000 : Nat)
     s.tbu.timeState = .unset ∨ (s.tbu.timeState ≠ .locked ∧ s.orh.params.stepLimit < e.natAbs) →
     s.ttc.planes = none → (s.tbu.timeState = .unset → s.ttc.active = false) →
     (∀ l, (s.line l).state = .stopped ∨ (s.line l).state = .fault ∨ (s.line l).flight ≠ none) →
     let st := if n ≤ 5662310399 then n * 1000000 else 5662310399999999
     let body : RecordBody := .timeStep e n labelled s.tbu.st st s.tbu.timeState .acquire
     let date : Date := { ms := st / 1000, season := s.tbu.season, quality := .b }
     let stepped := { s with
       tbu := { s.tbu with
         stepLimit := s.orh.params.stepLimit, lockWindow := s.orh.params.lockWindow, label := none, st := st, slew := 0
         slewPhase := 0, timeState := .acquire, good := 0, outliers := 0, prevAccepted := true, prevSlew := 0
         holdoverExpiry := some (s.tbu.rt + 3000000), holdoverEntry := none }
       evj := s.evj.store body date {}
       orh := s.orh.raise
         { kind := .timeStep, priority := 1, seq := s.evj.next, date := date, flags := {}, summary := .ofRecord body } }
     ((∀ offset minute, s.tbu.scheduled = some (offset, minute) → st < minute * 60000000) → exec .mark s = .next stepped) ∧
     (∀ offset minute, s.tbu.scheduled = some (offset, minute) → minute * 60000000 ≤ st →
       let change : RecordBody := .season s.tbu.season offset
       let at' : Date := { ms := minute * 60000, season := offset, quality := .b }
       exec .mark s = .next { stepped with
         tbu := { stepped.tbu with season := offset, scheduled := none }
         evj := stepped.evj.store change at' {}
         orh := stepped.orh.raise
           { kind := .season, priority := 3, seq := stepped.evj.next, date := at', flags := {}, summary := .ofRecord change } }))

/-- A mark in LOCKED within the step limit, against its label's second or, unlabelled, the nearest one, is a SLEW (R28, R29, R30, R32, R34, R35,
R36): P is the error's negative and ST is not changed. Within the lock window the outlier count is 0 and the state stays LOCKED; the trim is
learned where R35's three conditions hold, clamped, its accumulator cleared where T changes sign or becomes 0. Beyond it, short of the
fourth in a row, the outlier count rises by 1, the state stays LOCKED and nothing is learned. A mark with a phase error within the step
limit in ACQUIRE or HOLDOVER, and a labelled one in FREE, is a SLEW as well (R28, R29, R30, R32, R34, R35, R36, R38). In FREE and HOLDOVER
the state becomes ACQUIRE with a good count of 1 within the lock window and else 0, nothing is learned, the outlier count is kept (the
model's choice, entry 37), and the TIME STATE record of cause MARK ACCEPTED is dated with the class of ACQUIRE (entry 16). In ACQUIRE, short
of the eighth good mark, the good count rises by 1 within the window and else becomes 0. Of a SLEW carried out by itself, slewMark, which
MARK runs after its latches and its label: the eighth good mark in a row in ACQUIRE locks (R34, R38), and the fourth outlier in a row in
LOCKED unlocks; each TIME STATE record carries the counts after the change, and its date the quality class of the new state (the model's
choice, entry 16). -/
def Obligations.MarkSlewsLearnsAndCounts : Prop :=
  (∀ (n : Nat) (labelled : Bool) (s : State), s.tbu.timeState = .locked → s.MarkAgainst n labelled →
     let e : Int := (s.tbu.st : Int) - (n * 1000000 : Nat)
     let learned := max (-5000) (min 5000 (s.tbu.trim - 25 * e))
     e.natAbs ≤ s.orh.params.stepLimit →
     let slewed := { s.tbu with
       stepLimit := s.orh.params.stepLimit, lockWindow := s.orh.params.lockWindow, label := none, slew := -e, slewPhase := 0
       prevAccepted := true, prevSlew := -e, holdoverExpiry := some (s.tbu.rt + 3000000), holdoverEntry := none }
     (e.natAbs ≤ s.orh.params.lockWindow →
       let learns := s.tbu.prevAccepted = true ∧ s.tbu.prevSlew.natAbs ≤ 1000
       exec .mark s = .next { s with
         tbu := { slewed with
           outliers := 0
           trim := if learns then learned else s.tbu.trim
           accumulator := if learns ∧ (learned.sign ≠ s.tbu.trim.sign ∨ learned = 0) then 0 else s.tbu.accumulator } }) ∧
     (s.orh.params.lockWindow < e.natAbs → s.tbu.outliers + 1 < 4 →
       exec .mark s = .next { s with tbu := { slewed with outliers := s.tbu.outliers + 1 } })) ∧
  (∀ (n : Nat) (labelled : Bool) (s : State), s.MarkAgainst n labelled →
     let e : Int := (s.tbu.st : Int) - (n * 1000000 : Nat)
     e.natAbs ≤ s.orh.params.stepLimit →
     let slewed := { s.tbu with
       stepLimit := s.orh.params.stepLimit, lockWindow := s.orh.params.lockWindow, label := none, slew := -e, slewPhase := 0
       prevAccepted := true, prevSlew := -e, holdoverExpiry := some (s.tbu.rt + 3000000), holdoverEntry := none }
     (s.tbu.timeState = .free ∨ s.tbu.timeState = .holdover →
       let good := if e.natAbs ≤ s.orh.params.lockWindow then 1 else 0
       exec .mark s = .next { s with
         tbu := { slewed with timeState := .acquire, good := good }
         evj := s.evj.store (.timeState s.tbu.timeState .acquire .markAccepted good s.tbu.trim)
           { ms := s.tbu.st / 1000, season := s.tbu.season, quality := .b } {} }) ∧
     (s.tbu.timeState = .acquire → s.tbu.good + 1 < 8 ∨ s.orh.params.lockWindow < e.natAbs →
       let learned := max (-5000) (min 5000 (s.tbu.trim - 25 * e))
       let learns := s.tbu.prevAccepted = true ∧ s.tbu.prevSlew.natAbs ≤ 1000 ∧ e.natAbs ≤ s.orh.params.lockWindow
       exec .mark s = .next { s with
         tbu := { slewed with
           good := if e.natAbs ≤ s.orh.params.lockWindow then s.tbu.good + 1 else 0
           trim := if learns then learned else s.tbu.trim
           accumulator := if learns ∧ (learned.sign ≠ s.tbu.trim.sign ∨ learned = 0) then 0 else s.tbu.accumulator } })) ∧
  (∀ (e : Int) (s : State),
     (s.tbu.timeState = .acquire → s.tbu.good = 7 → e.natAbs ≤ s.tbu.lockWindow →
       (s.slewMark e).tbu.timeState = .locked ∧ (s.slewMark e).tbu.good = 8 ∧ (s.slewMark e).tbu.outliers = 0 ∧
       (s.slewMark e).evj = s.evj.store (.timeState .acquire .locked .goodMarks 8 (s.slewMark e).tbu.trim)
         { ms := s.tbu.st / 1000, season := s.tbu.season, quality := .a } {}) ∧
     (s.tbu.timeState = .locked → s.tbu.outliers = 3 → s.tbu.lockWindow < e.natAbs →
       (s.slewMark e).tbu.timeState = .acquire ∧ (s.slewMark e).tbu.good = 0 ∧ (s.slewMark e).tbu.outliers = 0 ∧
       (s.slewMark e).evj = s.evj.store (.timeState .locked .acquire .outliers 0 s.tbu.trim)
         { ms := s.tbu.st / 1000, season := s.tbu.season, quality := .b } {}))

/-- A mark in LOCKED with a phase error beyond the step limit in force is a REJECT, against its label's second or, unlabelled, the nearest one
(R28, R29, R30, R33): a MARK REJECTED record dated by ST, the learning record noting that the mark was not accepted, and nothing else of the
time base but the limits latched and the label spent; no report. -/
def Obligations.MarkBeyondStepLimitIsRejected : Prop :=
  ∀ (n : Nat) (labelled : Bool) (s : State), s.tbu.timeState = .locked → s.MarkAgainst n labelled →
    let e : Int := (s.tbu.st : Int) - (n * 1000000 : Nat)
    s.orh.params.stepLimit < e.natAbs →
      exec .mark s = .next { s with
        tbu := { s.tbu with
          stepLimit := s.orh.params.stepLimit, lockWindow := s.orh.params.lockWindow, label := none, prevAccepted := false }
        evj := s.evj.store (.markRejected e n labelled) { ms := s.tbu.st / 1000, season := s.tbu.season, quality := .a } {} }

/-- A trim carry (R20, R21, R22): 100,000,000 leaves the accumulator, and ST gains a microsecond where T is positive, up to the end of its
range, or skips one where T is negative, the skip being lost where ST has not risen in this microsecond, for ST never falls in its advance
(entry 33). A slew tick (R20, R21, R23): the phase starts again, ST gains or skips a microsecond in the direction of P by the same bounds,
and P moves one toward zero, lost or not. -/
def Obligations.TrimAndSlewAdjustST : Prop :=
  (∀ s : State, 100000000 ≤ s.tbu.accumulator →
     (0 < s.tbu.trim →
       exec .trimCarry s = .next { s with
         tbu := { s.tbu with
           accumulator := s.tbu.accumulator - 100000000, st := if s.tbu.st < 5662310399999999 then s.tbu.st + 1 else s.tbu.st }
         clk := { s.clk with
           stReached := if s.clk.stReached < 5662310399999999 then s.clk.stReached + 1 else s.clk.stReached } }) ∧
     (s.tbu.trim < 0 → s.clk.stMark < s.clk.stReached →
       exec .trimCarry s = .next { s with
         tbu := { s.tbu with accumulator := s.tbu.accumulator - 100000000, st := if s.tbu.st = 0 then 0 else s.tbu.st - 1 }
         clk := { s.clk with stReached := s.clk.stReached - 1 } }) ∧
     (s.tbu.trim < 0 → s.clk.stReached ≤ s.clk.stMark →
       exec .trimCarry s = .next { s with tbu := { s.tbu with accumulator := s.tbu.accumulator - 100000000 } })) ∧
  (∀ s : State, 1000 ≤ s.tbu.slewPhase →
     (0 < s.tbu.slew →
       exec .slewTick s = .next { s with
         tbu := { s.tbu with
           slewPhase := 0, slew := s.tbu.slew - 1, st := if s.tbu.st < 5662310399999999 then s.tbu.st + 1 else s.tbu.st }
         clk := { s.clk with
           stReached := if s.clk.stReached < 5662310399999999 then s.clk.stReached + 1 else s.clk.stReached } }) ∧
     (s.tbu.slew < 0 → s.clk.stMark < s.clk.stReached →
       exec .slewTick s = .next { s with
         tbu := { s.tbu with slewPhase := 0, slew := s.tbu.slew + 1, st := if s.tbu.st = 0 then 0 else s.tbu.st - 1 }
         clk := { s.clk with stReached := s.clk.stReached - 1 } }) ∧
     (s.tbu.slew < 0 → s.clk.stReached ≤ s.clk.stMark →
       exec .slewTick s = .next { s with tbu := { s.tbu with slewPhase := 0, slew := s.tbu.slew + 1 } }))

/-- A scheduled seasonal change whose instant ST has reached (R25, R27), with no status planes and both clock lines STOPPED: S takes the offset,
nothing is scheduled, the SEASON record is dated at the effective instant with the new S, and reported. That its date has the quality class
of the present time state is the model's choice (entry 17). SEASON CHANGE schedules one change over any that waits, where its instant lies
after ST; an instant already reached is taken at once as the event of it; beyond its ranges the order is refused RANGE (R41). -/
def Obligations.SeasonIsScheduledAndTaken : Prop :=
  (∀ (offset minute : Nat) (s : State), s.tbu.scheduled = some (offset, minute) → minute * 60000000 ≤ s.tbu.st →
     s.ttc.planes = none → s.ttc.active = false → s.cld.a.state = .stopped → s.cld.b.state = .stopped →
     let date : Date := { ms := minute * 60000000 / 1000, season := offset, quality := s.quality }
     let body : RecordBody := .season s.tbu.season offset
     exec .season s = .next { s with
       tbu := { s.tbu with season := offset, scheduled := none }
       evj := s.evj.store body date {}
       orh := s.orh.raise
         { kind := .season, priority := 3, seq := s.evj.next, date := date, flags := {}, summary := .ofRecord body } }) ∧
  (∀ (m : Manner) (offset minute : Nat) (s : State),
     (offset ≤ 120 → minute ≤ 94371839 → s.tbu.st < minute * 60000000 →
       exec (.seasonChange m offset minute) s =
         .next { s.release .i with tbu := { s.tbu with scheduled := some (offset, minute) } }) ∧
     (offset ≤ 120 → minute ≤ 94371839 → minute * 60000000 ≤ s.tbu.st →
       exec (.seasonChange m offset minute) s =
         exec .season { s.release .i with tbu := { s.tbu with scheduled := some (offset, minute) } }) ∧
     (120 < offset ∨ 94371839 < minute →
       exec (.seasonChange m offset minute) s = .next ((s.release .i).refuse m 0x12 (s.captureAt .i).date .range)))

/-- The holdover expiry reached in ACQUIRE or LOCKED (R36, R38): HOLDOVER, its entry this RT, the expiry absent, and a TIME STATE record of
cause NO MARK; the counts, the trim and the pending slew stand, and no report is raised. The holdover limit reached (R37, R38): FREE, no
entry, a TIME STATE record of cause HOLDOVER LIMIT, and a TIME FREE report. That each record's date has the quality class of the new state
is the model's choice (entry 16). -/
def Obligations.HoldoverBeginsAndEnds : Prop :=
  (∀ (expiry : Nat) (s : State), s.tbu.timeState = .acquire ∨ s.tbu.timeState = .locked → s.tbu.holdoverExpiry = some expiry →
     expiry ≤ s.tbu.rt →
       exec .holdoverExpiry s = .next { s with
         tbu := { s.tbu with timeState := .holdover, holdoverEntry := some s.tbu.rt, holdoverExpiry := none }
         evj := s.evj.store (.timeState s.tbu.timeState .holdover .noMark s.tbu.good s.tbu.trim)
           { ms := s.tbu.st / 1000, season := s.tbu.season, quality := .b } {} }) ∧
  (∀ (entry : Nat) (s : State), s.tbu.timeState = .holdover → s.tbu.holdoverEntry = some entry →
     entry + s.orh.params.holdoverLimit * 60000000 ≤ s.tbu.rt →
     let body : RecordBody := .timeState .holdover .free .holdoverLimit s.tbu.good s.tbu.trim
     let date : Date := { ms := s.tbu.st / 1000, season := s.tbu.season, quality := .c }
     exec .holdoverLimit s = .next { s with
       tbu := { s.tbu with timeState := .free, holdoverEntry := none }
       evj := s.evj.store body date {}
       orh := s.orh.raise
         { kind := .timeFree, priority := 0, seq := s.evj.next, date := date, flags := {}, summary := .ofRecord body } })

/-- TIME MARK sets the label to second N with the RT of its taking, over any label there; beyond the last second of day 65,535 it is refused
RANGE and the label stands (R39). The next mark consumes the label. -/
def Obligations.TimeMarkSetsTheLabel : Prop :=
  ∀ (m : Manner) (n : Nat) (s : State),
    (n ≤ 5662310399 →
      exec (.timeMark m n) s = .next { s.release .i with tbu := { s.tbu with label := some (n, s.tbu.rt) } }) ∧
    (5662310399 < n → exec (.timeMark m n) s = .next ((s.release .i).refuse m 0x10 (s.captureAt .i).date .range)) ∧
    (∃ t, exec .mark s = .next t ∧ t.tbu.label = none)

/-- TIME SET, with no timetable active and both clock lines STOPPED (R40, R27): ST and S as given, P and the counts 0, the learning record
cleared, FREE; T, the accumulator and the label kept; a scheduled change reached by the new ST discarded, another kept; the TIME SET record
and report. A time or an offset beyond its range is refused RANGE. -/
def Obligations.TimeSetSetsTheClock : Prop :=
  ∀ (m : Manner) (ms offset : Nat) (s : State),
    let discarded := match s.tbu.scheduled with | some (_, minute) => decide (minute * 60000000 ≤ ms * 1000) | none => false
    let body : RecordBody := .timeSet s.tbu.st (ms * 1000) s.tbu.season offset s.tbu.timeState discarded
    let date : Date := { ms := ms, season := offset, quality := .c }
    (ms ≤ 5662310399999 → offset ≤ 120 → s.ttc.planes = none → s.ttc.active = false → s.cld.a.state = .stopped →
      s.cld.b.state = .stopped →
        exec (.timeSet m ms offset) s = .next { s.release .i with
          tbu := { s.tbu with
            st := ms * 1000, season := offset, slew := 0, slewPhase := 0, good := 0, outliers := 0, prevAccepted := false
            prevSlew := 0, holdoverExpiry := none, holdoverEntry := none, timeState := .free
            scheduled := if discarded = true then none else s.tbu.scheduled }
          evj := s.evj.store body date {}
          orh := s.orh.raise
            { kind := .timeSet, priority := 1, seq := s.evj.next, date := date, flags := {}, summary := .ofRecord body } }) ∧
    (5662310399999 < ms ∨ 120 < offset →
      exec (.timeSet m ms offset) s = .next ((s.release .i).refuse m 0x11 (s.captureAt .i).date .range))

/-- The event instant of an indication (R50, R51, R52): the capture's, set back by the age in ms, an age above 4,095 taken as 4,095, RT and ST
each held at 0; AGED with any age field, and AGE SATURATED from 4,095 on. -/
def Obligations.EventInstantIsSetBackByAge : Prop :=
  ∀ (c : Capture) (a : Nat),
    eventInstant c none =
      { rt := c.rt, date := { ms := c.st / 1000, season := c.season, quality := c.quality }, flags := {} } ∧
    (a < 4095 → eventInstant c (some a) =
      { rt := c.rt - a * 1000, date := { ms := (c.st - a * 1000) / 1000, season := c.season, quality := c.quality }
        flags := { aged := true } }) ∧
    (4095 ≤ a → eventInstant c (some a) =
      { rt := c.rt - 4095000, date := { ms := (c.st - 4095000) / 1000, season := c.season, quality := c.quality }
        flags := { aged := true, ageSaturated := true } })

/-! ### Layout tables (04) -/

/-- A staging bank reads back what was written and keeps its canonical form (entry 23): an entry put is there and the others as before; an entry
removed is not there and the others as before. The staging banks are canonical at power-on, and every step keeps them so (entry 23). -/
def Obligations.StagingBankReadsBack : Prop :=
  (∀ (size i j : Nat) (e : Element) (b : Bank Element), b.wf size = true → i < size →
     (b.put i e).wf size = true ∧ (b.remove i).wf size = true ∧
     (b.put i e).get? j = (if j = i then some e else b.get? j) ∧
     (b.remove i).get? j = (if j = i then none else b.get? j)) ∧
  (State.reset.BanksSound ∧ ∀ s t : State, s.BanksSound → step s = .next t → t.BanksSound)

/-- The three staging writes (R59, R61, R123), with no APPLY armed: the fields of an entry with used = yes are stored, an element's limit
clamped to its kind's range and 0 for SECTION and OTHER; an entry with used = no is made unused; a TIMETABLE WRITE of one entry the same.
Nothing else changes. A TIMETABLE WRITE of 1 to 4 good entries, with no APPLY armed (R123): consecutive entries from the first index on are
stored, in order, those with used = no made unused. What the staging writes refuse (R59, R61, R73, R123, R205): a field out of its range
with RANGE; a TIMETABLE WRITE whose count is not that of its entries with LENGTH; any write while an APPLY is armed with STATE. A TIMETABLE
WRITE with one bad entry writes none of them. -/
def Obligations.StagingWritesStoreOrRefuse : Prop :=
  (∀ (m : Manner) (s : State), s.lys.armed = none →
     (∀ index address kind limit cls k j, index ≤ 1023 → 1 ≤ address → address ≤ 3999 → elementKindOf kind = some k →
       journalClassOf cls = some j →
         exec (.elementWrite m index address kind limit cls 1) s = .next { s.release .i with
           lys := { s.lys with
             stagingElements := s.lys.stagingElements.put index
               { address := address, kind := k, cls := j
                 limit :=
                   if kind = 0 then max 500 (min 30000 limit) else if kind = 1 then max 100 (min 10000 limit) else 0 } } }) ∧
     (∀ index address kind limit cls, index ≤ 1023 →
       exec (.elementWrite m index address kind limit cls 0) s = .next { s.release .i with
         lys := { s.lys with stagingElements := s.lys.stagingElements.remove index } }) ∧
     (∀ index sect edge signal threshold mode g r, index ≤ 255 → sect ≤ 1023 → signal ≤ 1023 ∨ signal = 65535 → threshold ≤ 3 →
       edgeOf edge = some g → reportModeOf mode = some r →
         exec (.pointWrite m index sect edge signal threshold mode 1) s = .next { s.release .i with
           lys := { s.lys with
             stagingPoints := s.lys.stagingPoints.put index
               { sect := sect, edge := g, signal := if signal = 65535 then none else some signal, threshold := threshold
                 mode := r } } }) ∧
     (∀ index sect edge signal threshold mode, index ≤ 255 →
       exec (.pointWrite m index sect edge signal threshold mode 0) s = .next { s.release .i with
         lys := { s.lys with stagingPoints := s.lys.stagingPoints.remove index } }) ∧
     (∀ first train point kind booked mask, first ≤ 8191 → trainOk train = true → kind ≤ 2 → booked ≤ 2879 → 1 ≤ mask → mask ≤ 127 →
       exec (.timetableWrite m first 1 [⟨train, point, kind, booked, mask, 1⟩]) s = .next { s.release .i with
         ttc := { s.ttc with
           staging := s.ttc.staging.put first { train := train, point := point, kind := kind, booked := booked, mask := mask } } }) ∧
     (∀ first train point kind booked mask, first ≤ 8191 →
       exec (.timetableWrite m first 1 [⟨train, point, kind, booked, mask, 0⟩]) s = .next { s.release .i with
         ttc := { s.ttc with staging := s.ttc.staging.remove first } })) ∧
  (∀ (m : Manner) (first : Nat) (entries : List RawEntry) (s : State), s.lys.armed = none → 1 ≤ entries.length → entries.length ≤ 4 →
     first + entries.length ≤ 8192 →
     (∀ e ∈ entries, e.used = 0 ∨
       (e.used = 1 ∧ trainOk e.train = true ∧ e.kind ≤ 2 ∧ e.booked ≤ 2879 ∧ 1 ≤ e.mask ∧ e.mask ≤ 127)) →
       exec (.timetableWrite m first entries.length entries) s = .next { s.release .i with
         ttc := { s.ttc with
           staging := (entries.zipIdx first).foldl
             (fun bank x =>
               if x.1.used = 1 then
                 bank.put x.2 { train := x.1.train, point := x.1.point, kind := x.1.kind, booked := x.1.booked, mask := x.1.mask }
               else bank.remove x.2) s.ttc.staging } }) ∧
  (∀ (m : Manner) (s : State),
     let date := (s.captureAt .i).date
     let bad := fun (e : RawEntry) => 1 < e.used ∨
       (e.used = 1 ∧ (trainOk e.train = false ∨ 2 < e.kind ∨ 2879 < e.booked ∨ e.mask = 0 ∨ 127 < e.mask))
     (∀ index address kind limit cls used,
       1023 < index ∨ 1 < used ∨ (used = 1 ∧ (address = 0 ∨ 3999 < address ∨ 3 < kind ∨ 2 < cls)) →
         exec (.elementWrite m index address kind limit cls used) s = .next ((s.release .i).refuse m 0x30 date .range)) ∧
     (∀ index sect edge signal threshold mode used,
       255 < index ∨ 1 < used ∨
           (used = 1 ∧ (1023 < sect ∨ 1 < edge ∨ (1023 < signal ∧ signal ≠ 65535) ∨ 3 < threshold ∨ 1 < mode)) →
         exec (.pointWrite m index sect edge signal threshold mode used) s = .next ((s.release .i).refuse m 0x31 date .range)) ∧
     (∀ first entries, 1 ≤ entries.length → entries.length ≤ 4 → 8192 < first + entries.length ∨ (∃ e ∈ entries, bad e) →
         exec (.timetableWrite m first entries.length entries) s = .next ((s.release .i).refuse m 0x32 date .range)) ∧
     (∀ first count entries, count = 0 ∨ 4 < count →
         exec (.timetableWrite m first count entries) s = .next ((s.release .i).refuse m 0x32 date .range)) ∧
     (∀ first count entries, 1 ≤ count → count ≤ 4 → entries.length ≠ count →
         exec (.timetableWrite m first count entries) s = .next ((s.release .i).refuse m 0x32 date .length)) ∧
     (s.lys.armed.isSome = true →
       (∀ index address kind limit cls used, index ≤ 1023 →
         used = 0 ∨ (used = 1 ∧ 1 ≤ address ∧ address ≤ 3999 ∧ kind ≤ 3 ∧ cls ≤ 2) →
           exec (.elementWrite m index address kind limit cls used) s = .next ((s.release .i).refuse m 0x30 date .state)) ∧
       (∀ index sect edge signal threshold mode used, index ≤ 255 →
         used = 0 ∨ (used = 1 ∧ sect ≤ 1023 ∧ edge ≤ 1 ∧ (signal ≤ 1023 ∨ signal = 65535) ∧ threshold ≤ 3 ∧ mode ≤ 1) →
           exec (.pointWrite m index sect edge signal threshold mode used) s = .next ((s.release .i).refuse m 0x31 date .state)) ∧
       (∀ first entries, 1 ≤ entries.length → entries.length ≤ 4 → first + entries.length ≤ 8192 → (∀ e ∈ entries, ¬ bad e) →
           exec (.timetableWrite m first entries.length entries) s = .next ((s.release .i).refuse m 0x32 date .state))))

/-- APPLY (R72, R73): a scope that is none of the three, and a first failing check of the staging content for the scope merged with the one
armed, are refused ORDER and the armed scope stands; a scope that passes is armed, outside LOST, and nothing else changes. R72's checks: an
APPLY's validation finds the first failure of its scope's tables in the order of R72, each table's at its lowest failing index, and there
the first reason of R72's list; it passes where nothing fails. -/
def Obligations.ApplyValidatesAndArms : Prop :=
  (∀ (m : Manner) (code : Nat) (s : State),
     (code = 0 ∨ 3 < code →
       exec (.apply m code) s =
         .next ((s.release .i).refuse m 0x33 (s.captureAt .i).date (.order ⟨.noTable, 0, .scope⟩))) ∧
     (∀ asked failure, scopeOf code = some asked → s.validate (mergeScope s.lys.armed asked) = some failure →
       exec (.apply m code) s = .next ((s.release .i).refuse m 0x33 (s.captureAt .i).date (.order failure))) ∧
     (∀ asked, scopeOf code = some asked → s.validate (mergeScope s.lys.armed asked) = none → s.liu.lineState ≠ .lost →
       exec (.apply m code) s = .next { s.release .i with lys := { s.lys with armed := some (mergeScope s.lys.armed asked) } })) ∧
  (∀ s : State, s.BanksSound → s.LayoutSound →
     let elements := (ApplyTable.element, elementFails s.lys.stagingElements.get?)
     let points := (ApplyTable.point, pointFails s.lys.stagingElements.get? s.lys.stagingPoints.get?)
     let timetable := fun (count : Nat) (bank : Nat → Option TimetableEntry) => (ApplyTable.timetable, timetableFails count bank)
     let staged := s.lys.stagingPoints.length
     ChecksGive
       [elements, points, timetable staged fun i => s.ttc.entries[i]?, (ApplyTable.overlay, overlayFails staged s.ttc.slot)]
       (s.validate .layout) ∧
     ChecksGive [timetable s.psd.points.length s.ttc.staging.get?] (s.validate .timetable) ∧
     ChecksGive [elements, points, timetable staged s.ttc.staging.get?] (s.validate .both))

/-- An armed APPLY whose scope has LAYOUT takes effect on a ROUND OPEN, before the LIU does anything else with it but open the round, in every
line state, at the loss of the line, and, taken in LOST, at once (R74 to R77, R100, R119, R146): as LayoutTaken says, at the ROUND OPEN's
arrival, at the loss expiry once the field has been forgotten as with nothing armed, and at the order's arrival. That an APPLY's counts
carried are 0 without LAYOUT is the model's choice (entry 19). An APPLY of scope TIMETABLE takes effect on a ROUND OPEN, before the LIU does
anything else with it but open the round, at the loss of the line, once the field has been forgotten, and in LOST at once (R74, R75, R146):
as timetableTaken says, outside UNSET with the planes made afresh, cause APPLY (R141). An APPLY of a valid timetable in LOST and UNSET takes
effect at once (R74, R75, R146): the staging bank is the active bank, the generation is up by one, the timetable is active with H0 latched
and every overlay slot FREE; the planes stay absent, and the APPLY record and APPLY DONE report are made. -/
def Obligations.ApplyTakesEffect : Prop :=
  (∀ (scope : Scope) (s : State), scope ≠ .timetable → s.LayoutSound → s.MovementsSound →
     let arrival : Instant := { rt := (s.captureAt .i).rt, date := (s.captureAt .i).date }
     (s.lys.armed = some scope →
       (∀ number, ∃ applied, s.LayoutTaken applied scope .roundOpen arrival ∧
         exec (.roundOpen number) s = exec (.roundOpen number) applied) ∧
       (s.lossDue = true →
         ∃ lost t, exec .lossExpiry { s with lys := { s.lys with armed := none } } = .next lost ∧ exec .lossExpiry s = .next t ∧
           lost.LayoutTaken t scope .lineLost { rt := s.tbu.rt, date := s.now })) ∧
     (∀ (m : Manner) (code : Nat), s.lys.armed = none → s.liu.lineState = .lost → scopeOf code = some scope → s.validate scope = none →
       ∃ t, exec (.apply m code) s = .next t ∧ (s.release .i).LayoutTaken t scope .orderInLost arrival)) ∧
  (∀ s : State,
     (s.lys.armed = some .timetable →
       (∀ number, exec (.roundOpen number) s = exec (.roundOpen number) (s.timetableTaken .roundOpen (s.captureAt .i).date)) ∧
       (s.lossDue = true → ∃ lost, exec .lossExpiry { s with lys := { s.lys with armed := none } } = .next lost ∧
         exec .lossExpiry s = .next (lost.timetableTaken .lineLost s.now))) ∧
     (∀ m : Manner, s.lys.armed = none → s.liu.lineState = .lost → s.validate .timetable = none →
       exec (.apply m 2) s = .next ((s.release .i).timetableTaken .orderInLost (s.captureAt .i).date))) ∧
  (∀ (m : Manner) (s : State), s.lys.armed = none → s.liu.lineState = .lost → s.tbu.timeState = .unset → s.validate .timetable = none →
     let date := (s.captureAt .i).date
     let body : RecordBody := .apply .timetable .orderInLost s.lys.generation ((s.ttc.generation + 1) % 65536)
       s.lys.elements.length s.psd.points.length 0 0
     exec (.apply m 2) s = .next { s.release .i with
       ttc := { s.ttc with
         entries := s.ttc.staging.values, generation := (s.ttc.generation + 1) % 65536, active := true, h0 := s.orh.params.h0
         overlay := List.replicate 64 none }
       evj := s.evj.store body date {}
       orh := s.orh.raise
         { kind := .applyDone, priority := 3, seq := s.evj.next, date := date, flags := {}, summary := .ofRecord body } })

/-- A COMMAND or INDICATION of an address not in the active bank (R69): a new one is appended to a list with room, recorded and reported,
whatever its code; one listed already, or any when the list is full, changes nothing. -/
def Obligations.UnknownAddressIsListedOnce : Prop :=
  ∀ (address code : Nat) (s : State), s.indexOf address = none →
    (address ∉ s.lys.unknown → s.lys.unknown.length < 32 →
      (let body : RecordBody := .unknownAddress address true code
       let date := (s.captureAt .i).date
       exec (.command address code) s = .next { s.release .i with
        lys := { s.lys with unknown := s.lys.unknown ++ [address] }
        evj := s.evj.store body date {}
        orh := s.orh.raise
          { kind := .unknownAddress, priority := 2, seq := s.evj.next, date := date, flags := {}, summary := .ofRecord body } }) ∧
      (let body : RecordBody := .unknownAddress address false code
       let date := (s.captureAt .f).date
       exec (.indication address code none) s = .next { s.release .f with
        lys := { s.lys with unknown := s.lys.unknown ++ [address] }
        evj := s.evj.store body date {}
        orh := s.orh.raise
          { kind := .unknownAddress, priority := 2, seq := s.evj.next, date := date, flags := {}, summary := .ofRecord body } })) ∧
    (address ∈ s.lys.unknown ∨ 32 ≤ s.lys.unknown.length →
      exec (.command address code) s = .next (s.release .i) ∧
      ∀ age, exec (.indication address code age) s = .next (s.release .f))

/-- A COMMAND taken for an element (R64, R67, R68): a repeat sets the seen flag and ends a bad code; a change of a SECTION or OTHER is stored
with its arrival and journaled in every class but NONE; a bad code is stored as such, and journaled where it is new. A bad code is stored in
class NONE as well (the model's choice, entry 18). A change of a POINT or SIGNAL is stated with its movement. An INDICATION taken for an
element (R53, R65, R67, R68). A valid code, of an OTHER or SIGNAL element or a POINT with no open movement, is stored with its event instant
judged for order, and journaled as a change by class, or as a repeat in ALL. A bad code of any element changes no state but itself and the
seen flag, in class NONE too (the model's choice, entry 18), moves no movement and makes no edge; where it is new, it is journaled as a
change in every class but NONE, and where it repeats, as a repeat in ALL (its old code the last valid one: the model's choice, entry 42). -/
def Obligations.ElementStateIsStoredAndJournaled : Prop :=
  (∀ (address code index : Nat) (e : LiveElement) (s : State),
     s.indexOf address = some index → s.lys.elements[index]? = some e →
     let arrival := s.captureAt .i
     let journaled := fun (flags : Flags) =>
       if e.entry.cls = .nothing then s.evj
       else s.evj.store (.commandChange e.entry.address index e.entry.kind e.state.lastCommand (some code)) arrival.date flags
     (commandCodeOk e.entry.kind code = true → e.state.lastCommand = some code →
       exec (.command address code) s = .next { s.release .i with
         lys := { s.lys with
           elements := s.lys.elements.set index { e with state := { e.state with seen := true, lastBadCommand := none } } } }) ∧
     (commandCodeOk e.entry.kind code = true → e.state.lastCommand ≠ some code → e.entry.kind = .sect ∨ e.entry.kind = .other →
       exec (.command address code) s = .next { s.release .i with
         lys := { s.lys with
           elements := s.lys.elements.set index { e with state := { e.state with
             seen := true, lastBadCommand := none, lastCommand := some code
             lastCommandAt := some { rt := arrival.rt, date := arrival.date } } } }
         evj := journaled {} }) ∧
     (commandCodeOk e.entry.kind code = false →
       exec (.command address code) s = .next { s.release .i with
         lys := { s.lys with
           elements := s.lys.elements.set index { e with state := { e.state with seen := true, lastBadCommand := some code } } }
         evj := if e.state.lastBadCommand = some code then s.evj else journaled { badCode := true } })) ∧
  (∀ (address code index : Nat) (age : Option Nat) (e : LiveElement) (s : State),
     s.indexOf address = some index → s.lys.elements[index]? = some e →
     let event := eventInstant (s.captureAt .f) age
     let late := match e.state.lastIndicationAt with | some last => decide (event.rt < last.rt) | none => false
     let flags : Flags := { event.flags with outOfOrder := late }
     (indicationCodeOk e.entry.kind code = true → e.entry.kind ≠ .sect → e.state.movement = none →
       exec (.indication address code age) s = .next { s.release .f with
         lys := { s.lys with
           elements := s.lys.elements.set index { e with state := { e.state with
             seen := true, lastBadIndication := none, lastIndicated := some code
             lastIndicationAt := some { rt := event.rt, date := event.date, flags := flags } } } }
         evj :=
           if e.state.lastIndicated = some code then
             (if e.entry.cls = .all then
               s.evj.offer (.indicationRepeat e.entry.address index e.entry.kind e.state.lastIndicated (some code)) event.date flags
             else s.evj)
           else if e.entry.cls = .nothing then s.evj
           else s.evj.store (.indicationChange e.entry.address index e.entry.kind e.state.lastIndicated (some code)) event.date flags }) ∧
     (indicationCodeOk e.entry.kind code = false →
       let bad : Flags := { flags with badCode := true }
       exec (.indication address code age) s = .next { s.release .f with
         lys := { s.lys with
           elements := s.lys.elements.set index { e with state := { e.state with seen := true, lastBadIndication := some code } } }
         evj :=
           if e.state.lastBadIndication = some code then
             (if e.entry.cls = .all then
               s.evj.offer (.indicationRepeat e.entry.address index e.entry.kind e.state.lastIndicated (some code)) event.date bad
             else s.evj)
           else if e.entry.cls = .nothing then s.evj
           else s.evj.store (.indicationChange e.entry.address index e.entry.kind e.state.lastIndicated (some code)) event.date bad }))

/-! ### Movements (05) -/

/-- A COMMAND change of a POINT with no open movement (R64, R83, R85, R86), journaled in class CHANGES: of a point that shows the other position
or is UNKNOWN it opens a record in COMMANDED at the lowest FREE position, in MOVING of one without detection, none of one that shows the
target; a point that shows BOTH, and any that finds no FREE position, is unsupervised. A COMMAND change of a SIGNAL with no open movement
(R64, R84, R85, R86): none opens of a signal that shows the target; else a record opens at the lowest FREE position, in REPLACING for STOP
and in CLEARING for a proceed aspect; with no position FREE it is unsupervised. A COMMAND change of an element with an open movement (R82,
R96, R97): after its own record the open one closes SUPERSEDED at the command's arrival, its position FREE, whatever the command asks; then
the opening rule of the kind is applied. -/
def Obligations.PointCommandOpensMovement : Prop :=
  (∀ (address code index : Nat) (e : LiveElement) (s : State),
     s.indexOf address = some index → s.lys.elements[index]? = some e → e.entry.kind = .point → code = 1 ∨ code = 2 →
     e.state.lastCommand ≠ some code → e.entry.cls = .changes → e.state.movement = none →
     let arrival := s.captureAt .i
     let start : Instant := { rt := arrival.rt, date := arrival.date }
     let journal := s.evj.store (.commandChange e.entry.address index .point e.state.lastCommand (some code)) arrival.date {}
     let stored := fun (link : Option Nat) =>
       { s.lys with
         elements := s.lys.elements.set index { e with state := { e.state with
           seen := true, lastBadCommand := none, lastCommand := some code, lastCommandAt := some start, movement := link } } }
     let record := fun (phase : MovementPhase) =>
       ({ element := index, address := e.entry.address, kind := .point, target := code, phase := phase, start := start
          limit := e.entry.limit, limitExpiry := arrival.rt + e.entry.limit * 1000
          abandonExpiry := arrival.rt + 4 * e.entry.limit * 1000, overdue := false, loss := none } : Movement)
     let unsupervised := fun (reason : UnsupervisedReason) =>
       let body : RecordBody := .movementUnsupervised e.entry.address index .point code e.state.lastIndicated reason;
       { s.release .i with
         lys := stored none
         evj := journal.store body arrival.date {}
         orh := s.orh.raise
           { kind := .movementUnsupervised, priority := 1, seq := journal.next, date := arrival.date, flags := {}
             summary := .ofRecord body } }
     (e.state.lastIndicated = some code →
       exec (.command address code) s = .next { s.release .i with lys := stored none, evj := journal }) ∧
     (e.state.lastIndicated = some 3 → exec (.command address code) s = .next (unsupervised .fault)) ∧
     (e.state.lastIndicated ≠ some code → e.state.lastIndicated ≠ some 3 →
       (∀ k, s.mvs.free? = some k →
         exec (.command address code) s = .next { s.release .i with
           lys := stored (some k), evj := journal
           mvs := { s.mvs with
             table := s.mvs.table.set k (some (record (if e.state.lastIndicated = some 0 then .moving else .commanded))) } }) ∧
       (s.mvs.free? = none → exec (.command address code) s = .next (unsupervised .full)))) ∧
  (∀ (address code index : Nat) (e : LiveElement) (s : State),
     s.indexOf address = some index → s.lys.elements[index]? = some e → e.entry.kind = .signal → code ≤ 14 →
     e.state.lastCommand ≠ some code → e.state.movement = none →
     let arrival := s.captureAt .i
     let start : Instant := { rt := arrival.rt, date := arrival.date }
     let journal :=
       if e.entry.cls = .nothing then s.evj
       else s.evj.store (.commandChange e.entry.address index .signal e.state.lastCommand (some code)) arrival.date {}
     let stored := fun (link : Option Nat) =>
       { s.lys with
         elements := s.lys.elements.set index { e with state := { e.state with
           seen := true, lastBadCommand := none, lastCommand := some code, lastCommandAt := some start, movement := link } } }
     let record : Movement :=
       { element := index, address := e.entry.address, kind := .signal, target := code
         phase := if code = 0 then .replacing else .clearing, start := start, limit := e.entry.limit
         limitExpiry := arrival.rt + e.entry.limit * 1000, abandonExpiry := arrival.rt + 4 * e.entry.limit * 1000
         overdue := false, loss := none }
     (e.state.lastIndicated = some code →
       exec (.command address code) s = .next { s.release .i with lys := stored none, evj := journal }) ∧
     (e.state.lastIndicated ≠ some code →
       (∀ k, s.mvs.free? = some k →
         exec (.command address code) s = .next { s.release .i with
           lys := stored (some k), evj := journal, mvs := { s.mvs with table := s.mvs.table.set k (some record) } }) ∧
       (s.mvs.free? = none →
         let body : RecordBody := .movementUnsupervised e.entry.address index .signal code e.state.lastIndicated .full
         exec (.command address code) s = .next { s.release .i with
           lys := stored none, evj := journal.store body arrival.date {}
           orh := s.orh.raise
             { kind := .movementUnsupervised, priority := 1, seq := journal.next, date := arrival.date, flags := {}
               summary := .ofRecord body } }))) ∧
  (∀ (address code index k : Nat) (r : Movement) (e : LiveElement) (s : State),
     s.indexOf address = some index → s.lys.elements[index]? = some e →
     e.entry.kind = .point ∧ (code = 1 ∨ code = 2) ∨ e.entry.kind = .signal ∧ code ≤ 14 → e.state.lastCommand ≠ some code →
     e.state.movement = some k → s.mvs.at? k = some r → r.element = index → r.start.rt ≤ (s.captureAt .i).rt →
     let arrival := s.captureAt .i
     let start : Instant := { rt := arrival.rt, date := arrival.date }
     let changed :=
       if e.entry.cls = .nothing then s.evj
       else s.evj.store (.commandChange e.entry.address index e.entry.kind e.state.lastCommand (some code)) arrival.date {}
     let journal := changed.store
       (.movementEnd
         { address := r.address, index := index, kind := r.kind, position := k, outcome := .superseded, reason := none
           phase := r.phase, target := r.target, start := r.start.date, limit := r.limit, overdue := r.overdue
           total := (arrival.rt - r.start.rt) / 1000, startDelay := r.loss.map fun loss => (loss - r.start.rt) / 1000
           throwTime := r.loss.map fun loss => (arrival.rt - loss) / 1000 })
       arrival.date { precedesCommand := r.loss.any fun loss => decide (loss < r.start.rt) }
     let stored := fun (link : Option Nat) =>
       { s.lys with
         elements := s.lys.elements.set index { e with state := { e.state with
           seen := true, lastBadCommand := none, lastCommand := some code, lastCommandAt := some start, movement := link } } }
     let freed := s.mvs.table.set k none
     let record : Movement :=
       { element := index, address := e.entry.address, kind := e.entry.kind, target := code
         phase :=
           if e.entry.kind = .signal then (if code = 0 then .replacing else .clearing)
           else if e.state.lastIndicated = some 0 then .moving else .commanded
         start := start, limit := e.entry.limit, limitExpiry := arrival.rt + e.entry.limit * 1000
         abandonExpiry := arrival.rt + 4 * e.entry.limit * 1000, overdue := false, loss := none }
     (e.state.lastIndicated = some code →
       exec (.command address code) s =
         .next { s.release .i with lys := stored none, evj := journal, mvs := { s.mvs with table := freed } }) ∧
     (e.entry.kind = .point → e.state.lastIndicated = some 3 →
       let body : RecordBody := .movementUnsupervised e.entry.address index .point code (some 3) .fault
       exec (.command address code) s = .next { s.release .i with
         lys := stored none, mvs := { s.mvs with table := freed }, evj := journal.store body arrival.date {}
         orh := s.orh.raise
           { kind := .movementUnsupervised, priority := 1, seq := journal.next, date := arrival.date, flags := {}
             summary := .ofRecord body } }) ∧
     (e.state.lastIndicated ≠ some code → (e.entry.kind = .point → e.state.lastIndicated ≠ some 3) →
       ∃ f, (∀ j, j < f → ∃ o, s.mvs.at? j = some o ∧ j ≠ k) ∧ freed[f]? = some none ∧
         exec (.command address code) s = .next { s.release .i with
           lys := stored (some f), evj := journal, mvs := { s.mvs with table := freed.set f (some record) } }))

/-- An INDICATION of the target taken for a POINT with an open record in MOVING (R65, R89, R94, R96, R97): the record closes COMPLETE, or LATE
where it is overdue, with one MOVEMENT END after the INDICATION CHANGE, carrying its three durations from RT in whole ms; the position is
FREE and the link absent. An INDICATION of a POINT or SIGNAL with an open movement (R65, R87 to R92, R94, R96, R97): stored and journaled,
it is taken against the record. The target closes it COMPLETE or, overdue, LATE, and in CLEARING proves proceed. A point in COMMANDED goes
to MOVING on 0, the loss at the event RT, and to FAULT on 3; in MOVING it closes RETURNED on the other position and FAULT on 3; a signal
closes FAULT on 15; anything else changes nothing. RETURNED and FAULT are reported. -/
def Obligations.TargetIndicationClosesMovement : Prop :=
  (∀ (address code index k loss : Nat) (r : Movement) (e : LiveElement) (s : State),
     s.indexOf address = some index → s.lys.elements[index]? = some e → e.entry.kind = .point → e.entry.cls = .changes →
     e.state.movement = some k → s.mvs.at? k = some r → r.element = index → r.phase = .moving → r.target = code → r.kind = .point →
     code = 1 ∨ code = 2 → e.state.lastIndicated = some 0 → r.loss = some loss → r.start.rt ≤ loss →
     (∀ last, e.state.lastIndicationAt = some last → last.rt ≤ (s.captureAt .f).rt) → loss ≤ (s.captureAt .f).rt →
     let arrival := s.captureAt .f
     let journal := s.evj.store (.indicationChange e.entry.address index .point (some 0) (some code)) arrival.date {}
     exec (.indication address code none) s = .next { s.release .f with
       lys := { s.lys with
         elements := s.lys.elements.set index { e with state := { e.state with
           seen := true, lastBadIndication := none, lastIndicated := some code, movement := none
           lastIndicationAt := some { rt := arrival.rt, date := arrival.date, flags := {} } } } }
       mvs := { s.mvs with table := s.mvs.table.set k none }
       evj := journal.store
         (.movementEnd
           { address := r.address, index := index, kind := .point, position := k
             outcome := if r.overdue then .late else .complete, reason := none, phase := .moving, target := code
             start := r.start.date, limit := r.limit, overdue := r.overdue
             total := (arrival.rt - r.start.rt) / 1000, startDelay := some ((loss - r.start.rt) / 1000)
             throwTime := some ((arrival.rt - loss) / 1000) })
         arrival.date {} }) ∧
  (∀ (address code index k : Nat) (age : Option Nat) (r : Movement) (e : LiveElement) (s : State),
     s.indexOf address = some index → s.lys.elements[index]? = some e → e.entry.kind = .point ∨ e.entry.kind = .signal →
     indicationCodeOk e.entry.kind code = true → e.state.movement = some k → s.mvs.at? k = some r → r.element = index →
     let event := eventInstant (s.captureAt .f) age
     let late := match e.state.lastIndicationAt with | some last => decide (event.rt < last.rt) | none => false
     let flags : Flags := { event.flags with outOfOrder := late }
     let journal :=
       if e.state.lastIndicated = some code then
         (if e.entry.cls = .all then
           s.evj.offer (.indicationRepeat e.entry.address index e.entry.kind e.state.lastIndicated (some code)) event.date flags
         else s.evj)
       else if e.entry.cls = .nothing then s.evj
       else s.evj.store (.indicationChange e.entry.address index e.entry.kind e.state.lastIndicated (some code)) event.date flags
     let stored := fun (link : Option Nat) (proven : Option Instant) =>
       { s.lys with
         elements := s.lys.elements.set index { e with state := { e.state with
           seen := true, lastBadIndication := none, lastIndicated := some code, movement := link, proceedProven := proven
           lastIndicationAt := some { rt := event.rt, date := event.date, flags := flags } } } }
     let taken := { s.release .f with lys := stored (some k) e.state.proceedProven, evj := journal }
     let body := fun (outcome : MovementOutcome) =>
       (.movementEnd
         { address := r.address, index := index, kind := r.kind, position := k, outcome := outcome, reason := none
           phase := r.phase, target := r.target, start := r.start.date, limit := r.limit, overdue := r.overdue
           total := (event.rt - r.start.rt) / 1000, startDelay := r.loss.map fun loss => (loss - r.start.rt) / 1000
           throwTime := r.loss.map fun loss => (event.rt - loss) / 1000 } : RecordBody)
     let ended : Flags :=
       { flags with precedesCommand := decide (event.rt < r.start.rt) || r.loss.any fun loss => decide (loss < r.start.rt) }
     let closed := fun (outcome : MovementOutcome) (proven : Option Instant) =>
       { s.release .f with
         lys := stored none proven, mvs := { s.mvs with table := s.mvs.table.set k none }
         evj := journal.store (body outcome) event.date ended }
     let reported := fun (outcome : MovementOutcome) (kind : ReportKind) =>
       { closed outcome e.state.proceedProven with
         orh := s.orh.raise
           { kind := kind, priority := 0, seq := journal.next, date := event.date, flags := ended, summary := .ofRecord (body outcome) } }
     (code = r.target →
       exec (.indication address code age) s = .next
         (closed (if r.overdue then .late else .complete)
           (if r.phase = .clearing then some { rt := event.rt, date := event.date } else e.state.proceedProven))) ∧
     (code ≠ r.target →
       (r.phase = .commanded → code = 0 →
         exec (.indication address code age) s = .next { taken with
           mvs := { s.mvs with table := s.mvs.table.set k (some { r with phase := .moving, loss := some event.rt }) } }) ∧
       (r.phase = .commanded ∨ r.phase = .moving → code = 3 →
         exec (.indication address code age) s = .next (reported .fault .movementFault)) ∧
       (r.phase = .moving → code ≠ 0 → code ≠ 3 →
         exec (.indication address code age) s = .next (reported .returned .movementReturned)) ∧
       (r.phase = .clearing ∨ r.phase = .replacing → code = 15 →
         exec (.indication address code age) s = .next (reported .fault .movementFault)) ∧
       ((r.phase = .commanded ∧ code ≠ 0 ∧ code ≠ 3) ∨ (r.phase = .moving ∧ code = 0) ∨
           ((r.phase = .clearing ∨ r.phase = .replacing) ∧ code ≠ 15) →
         exec (.indication address code age) s = .next taken)))

/-- When RT reaches an open record's limit expiry, once (R93): the overdue flag is yes, a MOVEMENT OVERDUE record is written and reported as a
WARNING, dated at the expiry, and the record stays open in its state; an overdue record's limit expiry has no effect, nor has that of a FREE
position. -/
def Obligations.LimitExpiryMakesOverdueOnce : Prop :=
  ∀ (k : Nat) (s : State),
    (∀ r, s.mvs.at? k = some r → r.overdue = false → r.limitExpiry ≤ s.tbu.rt →
      let body : RecordBody := .movementOverdue r.address r.element r.kind k r.target r.phase r.start.date r.limit
        (r.loss.map fun loss => (loss - r.start.rt) / 1000)
      exec (.limitExpiry k) s = .next { s with
        mvs := { s.mvs with table := s.mvs.table.set k (some { r with overdue := true }) }
        evj := s.evj.store body s.now {}
        orh := s.orh.raise
          { kind := .movementOverdue, priority := 1, seq := s.evj.next, date := s.now, flags := {}, summary := .ofRecord body } }) ∧
    (s.mvs.at? k = none ∨ (∃ r, s.mvs.at? k = some r ∧ r.overdue = true) → exec (.limitExpiry k) s = .next s)

/-- When RT reaches an open record's abandon expiry (R95, R96): it closes ABANDONED with reason NO END at the expiry, its MOVEMENT END reported
as an ALARM; the position is FREE and the element's link absent. -/
def Obligations.AbandonExpiryClosesMovement : Prop :=
  ∀ (k : Nat) (r : Movement) (e : LiveElement) (s : State), s.mvs.at? k = some r → s.lys.elements[r.element]? = some e →
    r.abandonExpiry ≤ s.tbu.rt → r.start.rt ≤ s.tbu.rt → (∀ loss, r.loss = some loss → r.start.rt ≤ loss) →
    let body : RecordBody := .movementEnd
      { address := r.address, index := r.element, kind := r.kind, position := k, outcome := .abandoned, reason := some .noEnd
        phase := r.phase, target := r.target, start := r.start.date, limit := r.limit, overdue := r.overdue
        total := (s.tbu.rt - r.start.rt) / 1000, startDelay := r.loss.map fun loss => (loss - r.start.rt) / 1000
        throwTime := r.loss.map fun loss => (s.tbu.rt - loss) / 1000 }
    exec (.abandonExpiry k) s = .next { s with
      lys := { s.lys with elements := s.lys.elements.set r.element { e with state := { e.state with movement := none } } }
      mvs := { s.mvs with table := s.mvs.table.set k none }
      evj := s.evj.store body s.now {}
      orh := s.orh.raise
        { kind := .movementAbandonedNoEnd, priority := 0, seq := s.evj.next, date := s.now, flags := {}
          summary := .ofRecord body } }

/-! ### Trains and passings (06) -/

/-- TRAIN IDENT at a used point (R107, R108, R109): a new number is appended to a queue with room; a number already there changes nothing and is
reported with its position; a new number at a full queue first drops the head, recorded with reason FULL and reported. A point beyond the
count or a bad number is refused RANGE. TRAIN CANCEL (R110): the number leaves the named point's queue, or every queue, wherever it stands,
and the others keep their order; a queue without it is not changed. A point beyond the count or a bad number is refused RANGE. -/
def Obligations.TrainOrdersKeepTheQueue : Prop :=
  (∀ (m : Manner) (point : Nat) (train : TrainNumber) (p : LivePoint) (s : State),
     let date := (s.captureAt .i).date
     let queued := fun (queue : List TrainNumber) =>
       { s.psd with points := s.psd.points.set point { p with record := { p.record with queue := queue } } }
     (s.psd.points[point]? = some p → trainOk train = true → train ∉ p.record.queue → p.record.queue.length < 4 →
       exec (.trainIdent m point train) s = .next { s.release .i with psd := queued (p.record.queue ++ [train]) }) ∧
     (∀ k, s.psd.points[point]? = some p → trainOk train = true → p.record.queue.findIdx? (· == train) = some k →
       exec (.trainIdent m point train) s = .next { s.release .i with
         orh := s.orh.raise
           { kind := .duplicateIdent, priority := 2, seq := 0, date := date, flags := {}, summary := .duplicate point train k } }) ∧
     (∀ oldest rest, s.psd.points[point]? = some p → trainOk train = true → train ∉ p.record.queue →
       p.record.queue = oldest :: rest → p.record.queue.length = 4 →
         let body : RecordBody := .expectationDropped point (s.sectionAddress p.entry) p.entry.edge oldest false
         exec (.trainIdent m point train) s = .next { s.release .i with
           psd := queued (rest ++ [train])
           evj := s.evj.store body date {}
           orh := s.orh.raise
             { kind := .expectationDropped, priority := 2, seq := s.evj.next, date := date, flags := {}
               summary := .ofRecord body } }) ∧
     (s.psd.points.length ≤ point ∨ trainOk train = false →
       exec (.trainIdent m point train) s = .next ((s.release .i).refuse m 0x48 date .range))) ∧
  (∀ (m : Manner) (train : TrainNumber) (s : State),
     (trainOk train = false → ∀ point,
       exec (.trainCancel m train point) s = .next ((s.release .i).refuse m 0x49 (s.captureAt .i).date .range)) ∧
     (trainOk train = true →
     let without := fun (p : LivePoint) => { p with record := { p.record with queue := p.record.queue.filter (· ≠ train) } }
     (∀ point p, s.psd.points[point]? = some p → point ≠ 65535 →
       exec (.trainCancel m train point) s =
         .next { s.release .i with psd := { s.psd with points := s.psd.points.set point (without p) } }) ∧
     exec (.trainCancel m train 65535) s = .next { s.release .i with psd := { s.psd with points := s.psd.points.map without } } ∧
     (∀ point, point ≠ 65535 → s.psd.points.length ≤ point →
       exec (.trainCancel m train point) s = .next ((s.release .i).refuse m 0x49 (s.captureAt .i).date .range))))

/-- A bounce at a point (R112, R113): a span in whole ms below the settle time raises the bounce count, held at 255, and offers a BOUNCE record;
the queue, the last passing, the timetable and the report queue stand, and the count rises even where the journal refuses the record. -/
def Obligations.BounceIsCountedAndOffered : Prop :=
  ∀ (x : SectionEdge) (point : Nat) (p : LivePoint) (s : State), s.psd.points[point]? = some p → p.entry.sect = x.sect →
    p.entry.edge = x.edge → (x.event.rt - x.since) / 1000 < s.orh.params.settleTime →
      s.edgeAtPoint x point = { s with
        psd := { s.psd with
          points := s.psd.points.set point { p with record := { p.record with bounces := min (p.record.bounces + 1) 255 } } }
        evj := s.evj.offer
          (.bounce point x.address x.sect x.edge ((x.event.rt - x.since) / 1000) s.orh.params.settleTime)
          x.event.date x.event.flags }

/-- An INDICATION of a SECTION (R53, R65, R66, R67, R111): CLEAR, OCCUPIED or, for DISTURBED, UNKNOWN, since the event RT where the state
differs or at the first indication since a reset or a loss (R118; of a record made fresh the model's choice, entry 41), and journaled by
class. CLEAR to OCCUPIED hands one OCCUPY edge, and OCCUPIED to CLEAR one CLEAR edge, with the since RT of the state left, to the timing
points in rising index order; a repeat, and a change to or from UNKNOWN, hands none. A passing at a point (R112, R114, R115, R116, R134): a
span of the settle time or more makes it; the head of the queue is spent, the bounce count is 0 and the last passing is this one. With an
empty queue its PASSING record is UNIDENTIFIED, every field of the timetable absent (entry 35), and reported. An identified one is judged
against the timetable; with the planes absent, or with no candidate, it is UNBOOKED and reported. -/
def Obligations.EdgesAndPassings : Prop :=
  (∀ (address code index : Nat) (age : Option Nat) (e : LiveElement) (s : State), s.indexOf address = some index →
     s.lys.elements[index]? = some e → e.entry.kind = .sect → code ≤ 2 →
     let event := eventInstant (s.captureAt .f) age
     let late := match e.state.lastIndicationAt with | some last => decide (event.rt < last.rt) | none => false
     let flags : Flags := { event.flags with outOfOrder := late }
     let found : SectionState := if code = 0 then .clear else if code = 1 then .occupied else .unknown
     let taken := { s.release .f with
       lys := { s.lys with
         elements := s.lys.elements.set index { e with state := { e.state with
           seen := true, lastBadIndication := none, lastIndicated := some code
           lastIndicationAt := some { rt := event.rt, date := event.date, flags := flags }
           sectionState := found
           sectionSince :=
             if found = e.state.sectionState ∧ e.state.lastIndicated ≠ none then e.state.sectionSince else event.rt } } }
       evj :=
         if e.state.lastIndicated = some code then
           (if e.entry.cls = .all then
             s.evj.offer (.indicationRepeat e.entry.address index .sect e.state.lastIndicated (some code)) event.date flags
           else s.evj)
         else if e.entry.cls = .nothing then s.evj
         else s.evj.store (.indicationChange e.entry.address index .sect e.state.lastIndicated (some code)) event.date flags }
     let handed := fun (edge : Edge) => (List.range s.psd.points.length).foldl
       (fun s point => s.edgeAtPoint
         { sect := index, address := e.entry.address, edge := edge, since := e.state.sectionSince
           event := { rt := event.rt, date := event.date, flags := flags } } point) taken
     (e.state.sectionState = .clear → code = 1 → exec (.indication address code age) s = .next (handed .occupy)) ∧
     (e.state.sectionState = .occupied → code = 0 → exec (.indication address code age) s = .next (handed .clear)) ∧
     (e.state.sectionState = found ∨ e.state.sectionState = .unknown ∨ code = 2 →
       exec (.indication address code age) s = .next taken)) ∧
  (∀ (x : SectionEdge) (point : Nat) (p : LivePoint) (s : State), s.psd.points[point]? = some p → p.entry.sect = x.sect →
     p.entry.edge = x.edge → s.orh.params.settleTime ≤ (x.event.rt - x.since) / 1000 →
     let spent : PointRecord :=
       { queue := p.record.queue.tail, bounces := 0, lastPassing := some { rt := x.event.rt, date := x.event.date } }
     let passed := { s with psd := { s.psd with points := s.psd.points.set point { p with record := spent } } }
     let record : Passing :=
       { point := point, address := x.address, index := x.sect, edge := x.edge, train := p.record.queue.head?
         result := .unidentified, span := (x.event.rt - x.since) / 1000, bounces := p.record.bounces
         layoutGeneration := none, timetableGeneration := none
         planeDay := none, entry := none, kind := none, slot := none, booked := none, lateness := none, cause := none
         signalOffset := none }
     let reported := fun (r : Passing) (kind : ReportKind) =>
       { passed with
         evj := s.evj.store (.passing r) x.event.date x.event.flags
         orh := s.orh.raise
           { kind := kind, priority := 2, seq := s.evj.next, date := x.event.date, flags := x.event.flags
             summary := .ofRecord (.passing r) } }
     let unbooked := fun (reason : UnbookedReason) =>
       reported { record with
         result := .unbooked reason, layoutGeneration := some s.lys.generation
         timetableGeneration := some s.ttc.generation } .unbooked
     (p.record.queue = [] → s.edgeAtPoint x point = reported record .unidentified) ∧
     (∀ train rest, p.record.queue = train :: rest →
       let items : PassingItems :=
         { point := point, entry := p.entry, train := train, event := x.event, address := x.address, edge := x.edge
           span := (x.event.rt - x.since) / 1000, bounces := p.record.bounces, previous := p.record.lastPassing }
       s.edgeAtPoint x point = passed.judgePassing items ∧
       (s.ttc.planes = none → s.edgeAtPoint x point = unbooked .noPlanes) ∧
       (s.ttc.planes ≠ none → s.candidates items = [] → s.edgeAtPoint x point = unbooked .noCandidate)))

/-! ### The timetable (07) -/

/-- The class of a matched passing by its lateness and its threshold set (R130): UNVERIFIED first, for a date of quality C or U; else EARLY
below -Te, RIGHT TIME from -Te, SLIGHTLY LATE from T1, LATE from the effective T2, the larger of the stored T2 and T1. A matched passing
(R129, R132, R133): the PASSING record carries the plane's day, the entry and the lateness in seconds rounded toward zero; the entry's
status becomes MATCHED with that lateness and the record's number; and a DEVIATION is raised by class and report mode. The cause of a late
departure (R131), for a point with a starting signal: for a passing SLIGHTLY LATE or LATE of a departure, by the signal's last proceed-
proven instant after the point's passing before and not after this one: its offset from the booked instant in seconds, held within 10,800
either way, gives SIGNAL above 0 and else TRAIN; with no such instant UNKNOWN without an offset; for any other passing neither. A matched
passing's record and its DEVIATION carry them. -/
def Obligations.MatchedPassingIsJudged : Prop :=
  (∀ (threshold : Nat) (lateness : Int) (quality : Quality) (s : State),
     let te : Int := s.orh.params.te threshold
     let t1 : Int := s.orh.params.t1 threshold
     let t2 : Int := max (s.orh.params.value (12 + 3 * threshold) : Int) t1
     (quality = .c ∨ quality = .u → s.classify threshold quality lateness = .unverified) ∧
     (quality = .a ∨ quality = .b →
       (lateness < -te → s.classify threshold quality lateness = .early) ∧
       (-te ≤ lateness → lateness < t1 → s.classify threshold quality lateness = .rightTime) ∧
       (t1 ≤ lateness → -te ≤ lateness → lateness < t2 → s.classify threshold quality lateness = .slightlyLate) ∧
       (t2 ≤ lateness → -te ≤ lateness → s.classify threshold quality lateness = .late))) ∧
  (∀ (x : PassingItems) (c : Candidate) (s : State), earliest (s.candidates x) = some c → x.entry.signal = none →
     let lateness : Int := ((x.event.date.ms + x.event.date.season * 60000 : Nat) - c.bookedAt).tdiv 1000
     let cls := s.classify x.entry.threshold x.event.date.quality lateness
     let record : Passing :=
       { point := x.point, address := x.address, index := x.entry.sect, edge := x.edge, train := some x.train
         result := .judged cls, span := x.span, bounces := x.bounces, layoutGeneration := some s.lys.generation
         timetableGeneration := some s.ttc.generation, planeDay := some c.day, entry := some c.index
         kind := some c.entry.kind, slot := c.slot, booked := some c.entry.booked, lateness := some lateness, cause := none
         signalOffset := none }
     s.judgePassing x = { s with
       evj := s.evj.store (.passing record) x.event.date x.event.flags
       ttc := s.ttc.onPlane c.plane fun p => { p with status := p.status.set c.index (.matched lateness s.evj.next) }
       orh :=
         if x.entry.mode = .exception ∧ (cls = .rightTime ∨ cls = .unverified) then s.orh
         else s.orh.raise
           { kind := .deviation, seq := s.evj.next, date := x.event.date, flags := x.event.flags
             priority := match cls with | .early => 1 | .late => 1 | .slightlyLate => 2 | .rightTime => 3 | .unverified => 3
             summary := .deviation cls x.train x.point lateness none } }) ∧
  (∀ (x : PassingItems) (c : Candidate) (s : State), earliest (s.candidates x) = some c →
     let lateness : Int := ((x.event.date.ms + x.event.date.season * 60000 : Nat) - c.bookedAt).tdiv 1000
     let cls := s.classify x.entry.threshold x.event.date.quality lateness
     let matched := fun (cause : Option LateCause) (offset : Option Int) =>
       let record : Passing :=
         { point := x.point, address := x.address, index := x.entry.sect, edge := x.edge, train := some x.train
           result := .judged cls, span := x.span, bounces := x.bounces, layoutGeneration := some s.lys.generation
           timetableGeneration := some s.ttc.generation, planeDay := some c.day, entry := some c.index
           kind := some c.entry.kind, slot := c.slot, booked := some c.entry.booked, lateness := some lateness, cause := cause
           signalOffset := offset }
       { s with
         evj := s.evj.store (.passing record) x.event.date x.event.flags
         ttc := s.ttc.onPlane c.plane fun p => { p with status := p.status.set c.index (.matched lateness s.evj.next) }
         orh :=
           if x.entry.mode = .exception ∧ (cls = .rightTime ∨ cls = .unverified) then s.orh
           else s.orh.raise
             { kind := .deviation, seq := s.evj.next, date := x.event.date, flags := x.event.flags
               priority := match cls with | .early => 1 | .late => 1 | .slightlyLate => 2 | .rightTime => 3 | .unverified => 3
               summary := .deviation cls x.train x.point lateness cause } }
     (∀ signal, x.entry.signal = some signal →
       ((cls ≠ .slightlyLate ∧ cls ≠ .late) ∨ c.entry.kind ≠ 1 → s.judgePassing x = matched none none) ∧
       (cls = .slightlyLate ∨ cls = .late → c.entry.kind = 1 → ∀ e, s.lys.elements[signal]? = some e →
         (e.state.proceedProven = none → s.judgePassing x = matched (some .unknown) none) ∧
         (∀ proven, e.state.proceedProven = some proven →
           (x.event.rt < proven.rt ∨ (∃ before, x.previous = some before ∧ proven.rt ≤ before.rt) →
             s.judgePassing x = matched (some .unknown) none) ∧
           (proven.rt ≤ x.event.rt → (∀ before, x.previous = some before → before.rt < proven.rt) →
             let offset := max (-10800) (min 10800 (((proven.date.ms + proven.date.season * 60000 : Nat) - c.bookedAt).tdiv 1000))
             s.judgePassing x = matched (some (if 0 < offset then .signal else .train)) (some offset))))))

/-- A passing is matched to the candidate of the earliest booked instant (R128): one of the previous plane before one of the current, and then
the lower index, between candidates with the same; and where there is a candidate, one is chosen. The candidates of a passing (R127, R128,
R143): an entry of a plane is one just where it is stored PENDING there, no ACTIVE slot makes it count as VOID on the plane's day, and its
train, its timing point and its window, by the values in effect, are the passing's, both ends of the window included. -/
def Obligations.EarliestCandidateIsMatched : Prop :=
  (∀ (x : PassingItems) (s : State),
     (s.candidates x = [] ↔ earliest (s.candidates x) = none) ∧
     ∀ c, earliest (s.candidates x) = some c → c ∈ s.candidates x ∧ ∀ d ∈ s.candidates x,
       c.bookedAt < d.bookedAt ∨
         (c.bookedAt = d.bookedAt ∧ (c.plane = d.plane ∧ c.index ≤ d.index ∨ c.plane = .previous ∧ d.plane = .current))) ∧
  (∀ (x : PassingItems) (p : Planes) (s : State), s.ttc.planes = some p →
     ∀ (w : PlaneName) (plane : Plane), w = .current ∧ plane = p.current ∨ w = .previous ∧ plane = p.previous →
     ∀ (i : Nat) (base : TimetableEntry), s.ttc.entries[i]? = some base →
     let ct : Int := (x.event.date.ms + x.event.date.season * 60000 : Nat)
     let instant := fun (booked : Nat) => plane.day * 86400000 + (s.ttc.h0 * 3600000 : Nat) + (booked * 30000 : Nat)
     let candidate := fun (e : TimetableEntry) (slot : Option Nat) (c : Candidate) =>
       plane.statusOf i = .pending ∧ e.train = x.train ∧ e.point = x.point ∧
         instant e.booked - (s.orh.params.earlyLimit * 60000 : Nat) ≤ ct ∧
         ct ≤ instant e.booked + (s.orh.params.lateLimit * 60000 : Nat) ∧
         c = { plane := w, day := plane.day, index := i, entry := e, slot := slot, bookedAt := instant e.booked }
     ∀ c : Candidate, c.plane = w → c.index = i →
       (c ∈ s.candidates x ↔
         match s.ttc.alteration i with
         | none => candidate base none c
         | some (_, .cancel) => False
         | some (k, .replace train point booked mask) =>
             mask.testBit ((plane.day + 5) % 7).toNat = true ∧
               candidate { base with train := train, point := point, booked := booked, mask := mask } (some k) c))

/-- A sweep event with no overlay slot ACTIVE and no rollover due (R135, R137): in each plane the base cursor stops at the first entry whose
window has not closed, or at the end; an entry it passes that was PENDING is MISSED, and every other status stands. Each MISSED entry of the
previous plane, then of the current one, in rising index order, has its MISSED record with the base entry's values, dated at the sweep, and
its MISSED report (NOTICE). A sweep scans the REPLACE slots (R136, R137, R143), where neither base cursor moves and no rollover is due: an
entry stored PENDING in a plane becomes MISSED just where a REPLACE slot in effect on the plane's day targets it and the window of its
booked time has closed. Slot by slot in rising order, and in each the previous plane before the current one, its MISSED record carries the
slot's values and is reported as MISSED; there is no other record. -/
def Obligations.SweepMissesClosedEntries : Prop :=
  (∀ (p : Planes) (s : State), s.sweepDue = true → s.ttc.planes = some p → s.ttc.overlay = List.replicate 64 none →
     s.ctMs < dayStart s.ttc.h0 (p.current.day + 1) →
     ∃ t q, exec .sweep s = .next t ∧ t.ttc.planes = some q ∧
       (∀ old new, (old = p.current ∧ new = q.current) ∨ (old = p.previous ∧ new = q.previous) →
         new.day = old.day ∧ old.cursor ≤ new.cursor ∧
         (∀ e, s.ttc.entries[new.cursor]? = some e → (s.ctMs : Int) ≤ s.windowEnd old.day e) ∧
         (∀ i e, old.cursor ≤ i → i < new.cursor → s.ttc.entries[i]? = some e → s.windowEnd old.day e < s.ctMs) ∧
         (∀ i, new.statusOf i =
           if old.cursor ≤ i ∧ i < new.cursor ∧ old.statusOf i = .pending then .missed else old.statusOf i)) ∧
       (s.evj.stored ≤ 16384 →
         let missed := fun (old new : Plane) =>
           (List.range s.ttc.entries.length).filterMap fun i =>
             if old.cursor ≤ i ∧ i < new.cursor ∧ old.statusOf i = .pending then
               (s.ttc.entries[i]?).map fun e => RecordBody.missed old.day i e.kind none e.train e.point e.booked
                 (old.day * 86400000 + (s.ttc.h0 * 3600000 : Nat) + (e.booked * 30000 : Nat) + (s.orh.params.lateLimit * 60000 : Nat))
                 s.ttc.generation
             else none
         ∃ more, s.evj.Grown t.evj more ∧
           more.reverse.map (·.body) = missed p.previous q.previous ++ missed p.current q.current ∧ s.MissedReported t more) ∧
       t.ttc.entries = s.ttc.entries ∧ t.ttc.overlay = s.ttc.overlay ∧ t.tbu = s.tbu ∧ t.lys = s.lys ∧ t.psd = s.psd ∧ t.liu = s.liu) ∧
  (∀ (p : Planes) (s : State), s.PlanesSound → s.evj.Sound → s.sweepDue = true → s.ttc.planes = some p →
     (s.ctMs : Int) < p.current.day * 86400000 + 86400000 + (s.ttc.h0 * 3600000 : Nat) →
     (∀ plane, plane = p.current ∨ plane = p.previous → ∀ e, s.ttc.entries[plane.cursor]? = some e →
       (s.ctMs : Int) ≤ s.windowEnd plane.day e) →
     let windowEnd := fun (day : Int) (booked : Nat) =>
       day * 86400000 + (s.ttc.h0 * 3600000 : Nat) + (booked * 30000 : Nat) + (s.orh.params.lateLimit * 60000 : Nat)
     let closed := fun (plane : Plane) (i booked mask : Nat) =>
       plane.statusOf i = .pending ∧ mask.testBit ((plane.day + 5) % 7).toNat = true ∧ windowEnd plane.day booked < (s.ctMs : Int)
     let missed : Nat → Plane → Option RecordBody := fun k plane =>
       match s.ttc.slot k with
       | some { target := i, action := .replace train point booked mask } =>
           if closed plane i booked mask then
             (s.ttc.entries[i]?).map fun base =>
               .missed plane.day i base.kind (some k) train point booked (windowEnd plane.day booked) s.ttc.generation
           else none
       | _ => none
     ∃ t q more, exec .sweep s = .next t ∧ t.ttc.planes = some q ∧ s.evj.Grown t.evj more ∧
       more.reverse.map (·.body) = (List.range 64).flatMap (fun k => [p.previous, p.current].filterMap (missed k)) ∧
       s.MissedReported t more ∧
       (∀ old new, (old = p.current ∧ new = q.current) ∨ (old = p.previous ∧ new = q.previous) →
         new.day = old.day ∧ new.cursor = old.cursor ∧
         (∀ i, (∀ k train point booked mask, s.ttc.slot k = some { target := i, action := .replace train point booked mask } →
           ¬ closed old i booked mask) → new.statusOf i = old.statusOf i) ∧
         (∀ i k train point booked mask, s.ttc.slot k = some { target := i, action := .replace train point booked mask } →
           closed old i booked mask → new.statusOf i = .missed)) ∧
       t.ttc.entries = s.ttc.entries ∧ t.ttc.overlay = s.ttc.overlay ∧ t.tbu = s.tbu ∧ t.lys = s.lys ∧ t.psd = s.psd ∧ t.liu = s.liu)

/-- The planes made afresh (R141) for the timetable day of the present civil time and the day before: cursors at 0, each entry PENDING where its
day mask holds the plane's weekday and its window, by the slot that alters it, has not closed, and VOID otherwise; a TIMETABLE RESET record,
and no report. That the window is the altering slot's whatever the slot's own day mask is the model's choice (entry 31). A rollover (R139):
a sweep event at or past the next day start, with no overlay slot ACTIVE, sweeps both planes, then discards the previous, makes the current
previous and makes and sweeps a current of the next day, its entries PENDING where the day mask holds its weekday and else VOID. What a time
change does to the planes (R27, R140), with both clock lines STOPPED: the first time set after a timetable became active makes them, FIRST
TIME; a TIME SET, or a STEP, labelled or not, that moves CT by more than 6 h makes them afresh; one by less, and a seasonal change, is a
sweep event. That the SEASON record's date has the present quality class is the model's choice (entry 17). -/
def Obligations.PlanesAreMadeAfresh : Prop :=
  (∀ (cause : ResetCause) (s : State),
     let day : Int := ((s.tbu.st / 1000 + s.tbu.season * 60000 : Nat) - (s.ttc.h0 * 3600000 : Nat) : Int) / 86400000
     ∃ q body, (s.remakePlanes cause) = { s with
         ttc := { s.ttc with planes := some q }, evj := s.evj.store body s.now {} } ∧
       q.current.day = day ∧ q.previous.day = day - 1 ∧ q.current.cursor = 0 ∧ q.previous.cursor = 0 ∧
       (∀ plane, plane = q.current ∨ plane = q.previous → ∀ i e, s.ttc.entries[i]? = some e →
         plane.statusOf i =
           if e.mask.testBit ((plane.day + 5) % 7).toNat = true ∧
               (s.ctMs : Int) ≤ s.windowEnd plane.day (e.effective (s.ttc.alteration i)) then .pending
           else .void) ∧
       body = .timetableReset cause s.ttc.generation s.ttc.h0 day s.ttc.entries.length q.current.pendingCount
         q.previous.pendingCount s.ttc.pendingCount) ∧
  (∀ (p : Planes) (s : State), s.sweepDue = true → s.ttc.planes = some p → s.ttc.overlay = List.replicate 64 none →
     p.current.day * 86400000 + 86400000 + (s.ttc.h0 * 3600000 : Nat) ≤ (s.ctMs : Int) →
     let made : Plane :=
       { day := p.current.day + 1, cursor := 0
         status := s.ttc.entries.map fun e =>
           if e.mask.testBit ((p.current.day + 1 + 5) % 7).toNat = true then .pending else .void }
     ∃ t q, exec .sweep s = .next t ∧ t.ttc.planes = some q ∧ s.Swept p.current q.previous ∧ s.Swept made q.current ∧
       t.ttc.entries = s.ttc.entries ∧ t.ttc.overlay = s.ttc.overlay ∧ t.ttc.h0 = s.ttc.h0 ∧ t.ttc.generation = s.ttc.generation ∧
       t.tbu = s.tbu ∧ t.lys = s.lys ∧ t.psd = s.psd ∧ t.liu = s.liu) ∧
  (∀ s : State, s.cld.a.state = .stopped → s.cld.b.state = .stopped →
     (∀ (m : Manner) (ms offset : Nat), ms ≤ 5662310399999 → offset ≤ 120 → s.tbu.scheduled = none →
       let body : RecordBody := .timeSet s.tbu.st (ms * 1000) s.tbu.season offset s.tbu.timeState false
       let date : Date := { ms := ms, season := offset, quality := .c }
       let set := { s.release .i with
         tbu := { s.tbu with
           st := ms * 1000, season := offset, slew := 0, slewPhase := 0, good := 0, outliers := 0, prevAccepted := false
           prevSlew := 0, holdoverExpiry := none, holdoverEntry := none, timeState := .free, scheduled := none }
         evj := s.evj.store body date {}
         orh := s.orh.raise
           { kind := .timeSet, priority := 1, seq := s.evj.next, date := date, flags := {}, summary := .ofRecord body } }
       let change : Int := (ms * 1000 + offset * 60000000 : Nat) - (s.tbu.st + s.tbu.season * 60000000 : Nat)
       (s.ttc.planes = none → s.ttc.active = true → s.tbu.timeState = .unset →
         exec (.timeSet m ms offset) s = .next (set.remakePlanes .firstTime)) ∧
       (s.ttc.planes ≠ none → 21600000000 < change.natAbs →
         exec (.timeSet m ms offset) s = .next (set.remakePlanes .timeSet)) ∧
       (s.ttc.planes ≠ none → change.natAbs ≤ 21600000000 → exec (.timeSet m ms offset) s = .next set.sweepEvent)) ∧
     (∀ n labelled, s.MarkAgainst n labelled → n ≤ 5662310399 → s.tbu.scheduled = none →
       let e : Int := (s.tbu.st : Int) - (n * 1000000 : Nat)
       s.tbu.timeState = .unset ∨ s.tbu.timeState ≠ .locked ∧ s.orh.params.stepLimit < e.natAbs →
       let body : RecordBody := .timeStep e n labelled s.tbu.st (n * 1000000) s.tbu.timeState .acquire
       let date : Date := { ms := n * 1000000 / 1000, season := s.tbu.season, quality := .b }
       let stepped := { s with
         tbu := { s.tbu with
           stepLimit := s.orh.params.stepLimit, lockWindow := s.orh.params.lockWindow, label := none, st := n * 1000000, slew := 0
           slewPhase := 0, timeState := .acquire, good := 0, outliers := 0, prevAccepted := true, prevSlew := 0
           holdoverExpiry := some (s.tbu.rt + 3000000), holdoverEntry := none }
         evj := s.evj.store body date {}
         orh := s.orh.raise
           { kind := .timeStep, priority := 1, seq := s.evj.next, date := date, flags := {}, summary := .ofRecord body } }
       (s.ttc.planes = none → s.ttc.active = true → s.tbu.timeState = .unset →
         exec .mark s = .next (stepped.remakePlanes .firstTime)) ∧
       (s.ttc.planes ≠ none → 21600000000 < e.natAbs → exec .mark s = .next (stepped.remakePlanes .step)) ∧
       (s.ttc.planes ≠ none → e.natAbs ≤ 21600000000 → exec .mark s = .next stepped.sweepEvent)) ∧
     (∀ offset minute, s.tbu.scheduled = some (offset, minute) → minute * 60000000 ≤ s.tbu.st → s.ttc.planes ≠ none →
       let date : Date := { ms := minute * 60000000 / 1000, season := offset, quality := s.quality }
       let body : RecordBody := .season s.tbu.season offset
       exec .season s = .next (State.sweepEvent { s with
         tbu := { s.tbu with season := offset, scheduled := none }
         evj := s.evj.store body date {}
         orh := s.orh.raise
           { kind := .season, priority := 3, seq := s.evj.next, date := date, flags := {}, summary := .ofRecord body } })))

/-- OVERLAY WRITE and OVERLAY CLEAR (R73, R142, R144, R145): a write of an entry that no other slot targets sets the slot ACTIVE with its
content, an old target that differs first released; one of an entry that another slot targets is refused STATE, as is a REPLACE of a timing
point that the armed layout does not have; a clear releases the target and makes the slot FREE. A release makes VOID, in each plane, a
target stored PENDING whose base window has closed or that the base cursor has passed. A slot, an entry, an action or a field of a REPLACE
out of its range is refused RANGE. -/
def Obligations.OverlaySlotsAreWrittenAndCleared : Prop :=
  ∀ (m : Manner) (k target : Nat) (train : TrainNumber) (point booked mask : Nat) (s : State),
    let date := (s.captureAt .i).date
    let ranged := trainOk train = true ∧ point < s.psd.points.length ∧ booked ≤ 2879 ∧ 1 ≤ mask ∧ mask ≤ 127
    let releasedIn := fun (i : Nat) (e : TimetableEntry) (plane : Plane) =>
      if plane.statusOf i = .pending ∧ (s.windowEnd plane.day e < (s.ctMs : Int) ∨ i < plane.cursor) then
        { plane with status := plane.status.set i .void }
      else plane
    let released := fun (i : Nat) =>
      match s.ttc.entries[i]? with
      | some e => s.ttc.planes.map fun p => { p with current := releasedIn i e p.current, previous := releasedIn i e p.previous }
      | none => s.ttc.planes
    let written := fun (action : OverlayAction) =>
      { s.release .i with
        ttc := { s.ttc with
          planes := match s.ttc.slot k with
            | some old => if old.target = target then s.ttc.planes else released old.target
            | none => s.ttc.planes
          overlay := s.ttc.overlay.set k (some { target := target, action := action }) } }
    (k < 64 → target < s.ttc.entries.length → (∀ j x, s.ttc.slot j = some x → x.target = target → j = k) →
      exec (.overlayWrite m k target 1 train point booked mask) s = .next (written .cancel) ∧
      (ranged → s.lys.armed = none ∨ s.lys.armed = some .timetable ∨ point < s.lys.stagingPoints.length →
        exec (.overlayWrite m k target 0 train point booked mask) s = .next (written (.replace train point booked mask)))) ∧
    (∀ j x, k < 64 → target < s.ttc.entries.length → j ≠ k → s.ttc.slot j = some x → x.target = target →
      (∀ i y, s.ttc.slot i = some y → y.target = target → i = j) →
        exec (.overlayWrite m k target 1 train point booked mask) s = .next ((s.release .i).refuse m 0x40 date .state) ∧
        (ranged → exec (.overlayWrite m k target 0 train point booked mask) s = .next ((s.release .i).refuse m 0x40 date .state))) ∧
    (k < 64 → target < s.ttc.entries.length → ranged → s.lys.armed = some .layout ∨ s.lys.armed = some .both →
      s.lys.stagingPoints.length ≤ point →
        exec (.overlayWrite m k target 0 train point booked mask) s = .next ((s.release .i).refuse m 0x40 date .state)) ∧
    (64 ≤ k ∨ s.ttc.entries.length ≤ target → ∀ action,
      exec (.overlayWrite m k target action train point booked mask) s = .next ((s.release .i).refuse m 0x40 date .range)) ∧
    (∀ action, 1 < action →
      exec (.overlayWrite m k target action train point booked mask) s = .next ((s.release .i).refuse m 0x40 date .range)) ∧
    (trainOk train = false ∨ s.psd.points.length ≤ point ∨ 2879 < booked ∨ mask = 0 ∨ 127 < mask →
      exec (.overlayWrite m k target 0 train point booked mask) s = .next ((s.release .i).refuse m 0x40 date .range)) ∧
    (s.ttc.overlay.length = 64 → k < 64 →
      exec (.overlayClear m k) s = .next { s.release .i with
        ttc := { s.ttc with
          planes := match s.ttc.slot k with | some old => released old.target | none => s.ttc.planes
          overlay := s.ttc.overlay.set k none } }) ∧
    (64 ≤ k → exec (.overlayClear m k) s = .next ((s.release .i).refuse m 0x41 date .range))

/-! ### The journal (08) -/

/-- A record offered (R148, R149, R151, R152, R153): one of class MINOR is refused and counted where the unread count is 14,336 or more; any
other is stored as the newest with the next number, which moves to its successor, 1 after the last; in a full ring the oldest goes, and the
read mark with it falls to 0. -/
def Obligations.RecordIsStoredOrRefused : Prop :=
  ∀ (e : Evj) (body : RecordBody) (date : Date) (flags : Flags),
    (body.cls = .minor → 14336 ≤ e.unread →
      e.offer body date flags = { e with minorRefusals := min (e.minorRefusals + 1) 4294967295 }) ∧
    (body.cls ≠ .minor ∨ e.unread < 14336 →
      (e.stored < 16384 →
        e.offer body date flags = { e with
          ring := { seq := e.next, body := body, date := date, flags := flags } :: e.ring
          next := if e.next = 4294967295 then 1 else e.next + 1 }) ∧
      (∀ older oldest, e.ring = older ++ [oldest] → older.length = 16383 →
        e.offer body date flags = { e with
          ring := { seq := e.next, body := body, date := date, flags := flags } :: older
          next := if e.next = 4294967295 then 1 else e.next + 1
          readMark := if e.readMark = oldest.seq then 0 else e.readMark }))

/-- JOURNAL READ in a journal that has not wrapped, with the reply slot EMPTY (R157, R158, R159, R160): from a stored number other than the
oldest it moves the read mark to the number before it, unless it stands there or later, and delivers from that number on, at least 1 and at
most 3 records, without GAP; from a number older than the oldest it delivers from the oldest, with GAP, and moves nothing. From 0 and from
the oldest number it delivers from the oldest, without GAP, and moves nothing; from a number beyond the newest it moves the read mark to the
newest and delivers nothing. -/
def Obligations.JournalReadDeliversFromStart : Prop :=
  ∀ (start count oldest newest : Nat) (s : State), s.evj.Sound → s.evj.oldest = oldest → s.evj.newest = newest → oldest ≤ newest →
    s.orh.slot = none →
    let taken := max 1 (min 3 count)
    (oldest < start → start ≤ newest →
      ∃ header records mark, exec (.journalRead .unicast start count) s = .next { s.release .i with
          evj := { s.evj with readMark := mark }
          orh := { s.orh with slot := (some
            { code := some 0x50, arrival := (s.captureAt .i).date, content := .journal header records, sent := 0
              overrun := false }) } } ∧
        mark = max s.evj.readMark (start - 1) ∧
        records.map (·.seq) = (List.range (min taken (newest - start + 1))).map (start + ·) ∧
        (∀ r ∈ records, r ∈ s.evj.ring) ∧
        header = { asked := start, taken := taken, first := some start, delivered := min taken (newest - start + 1), gap := false
                   oldest := oldest, newest := newest, unread := newest - mark, minorRefusals := s.evj.minorRefusals }) ∧
    (0 < start → start < oldest → newest - start < 2147483648 →
      ∃ header records, exec (.journalRead .unicast start count) s = .next { s.release .i with
          orh := { s.orh with slot := (some
            { code := some 0x50, arrival := (s.captureAt .i).date, content := .journal header records, sent := 0
              overrun := false }) } } ∧
        records.map (·.seq) = (List.range (min taken (newest - oldest + 1))).map (oldest + ·) ∧
        header.gap = true ∧ header.first = some oldest) ∧
    (start = 0 ∨ start = oldest →
      ∃ header records, exec (.journalRead .unicast start count) s = .next { s.release .i with
          orh := { s.orh with slot := (some
            { code := some 0x50, arrival := (s.captureAt .i).date, content := .journal header records, sent := 0
              overrun := false }) } } ∧
        records.map (·.seq) = (List.range (min taken (newest - oldest + 1))).map (oldest + ·) ∧
        (∀ r ∈ records, r ∈ s.evj.ring) ∧
        header = { asked := start, taken := taken, first := some oldest, delivered := min taken (newest - oldest + 1), gap := false
                   oldest := oldest, newest := newest, unread := s.evj.unread, minorRefusals := s.evj.minorRefusals }) ∧
    (newest < start → start ≤ 4294967295 → start - newest ≤ 2147483647 →
      exec (.journalRead .unicast start count) s = .next { s.release .i with
        evj := { s.evj with readMark := newest }
        orh := { s.orh with slot := (some
          { code := some 0x50, arrival := (s.captureAt .i).date, sent := 0, overrun := false
            content := .journal
              { asked := start, taken := taken, first := none, delivered := 0, gap := false, oldest := oldest, newest := newest
                unread := 0, minorRefusals := s.evj.minorRefusals } [] }) } })

/-! ### The clock lines (09) -/

/-- An interval boundary of a line in RUN whose clocks are one position behind (R169, R170, R171): with no impulse in flight and the spacing
past, a NORMAL impulse of the next polarity starts at once, for the pulse width, the next after the effective spacing; with one in flight,
in service or in FAULT, the boundary is noted. An impulse wanted starts when RT reaches the spacing expiry (R171), at line B; before it,
nothing changes. -/
def Obligations.ImpulsesStart : Prop :=
  (∀ (interval shown : Nat) (polarity : Polarity) (s : State),
     s.boundaryDue .a = true →
     let clk := { s.clk with boundaryTakenA := true }
     (s.cld.a.state = .run → s.cld.a.flight = none → s.cld.a.interval = some interval → s.cld.a.shown = some shown →
       s.cld.a.polarity = some polarity → dialLag interval s.ctMs shown = 1 →
       1 + s.orh.params.holdLimit < dialPositions interval → (∀ x, s.cld.a.spacing = some x → x ≤ s.tbu.rt) →
         exec (.intervalBoundary .a) s = .next { s with
           clk := clk
           cld := { s.cld with a := { s.cld.a with
             wanted := false, noted := false
             flight := some { kind := .normal, polarity := polarity, startRt := s.tbu.rt
                              endRt := s.tbu.rt + s.orh.params.pulseWidth * 1000 }
             spacing := some (s.tbu.rt + max s.orh.params.catchUpSpacing (s.orh.params.pulseWidth + 500) * 1000) } } }) ∧
     (s.cld.a.flight.isSome = true → s.cld.a.state ≠ .stopped →
       exec (.intervalBoundary .a) s = .next { s with clk := clk, cld := { s.cld with a := { s.cld.a with noted := true } } })) ∧
  (∀ (expiry : Nat) (polarity : Polarity) (s : State), s.cld.b.state = .run ∨ s.cld.b.state = .catchUp → s.cld.b.wanted = true →
     s.cld.b.flight = none → s.cld.b.spacing = some expiry → s.cld.b.polarity = some polarity →
     (expiry ≤ s.tbu.rt →
       exec (.spacingExpiry .b) s = .next { s with
         cld := { s.cld with b := { s.cld.b with
           wanted := false
           flight := some { kind := .normal, polarity := polarity, startRt := s.tbu.rt
                            endRt := s.tbu.rt + s.orh.params.pulseWidth * 1000 }
           spacing := some (s.tbu.rt + max s.orh.params.catchUpSpacing (s.orh.params.pulseWidth + 500) * 1000) } } }) ∧
     (s.tbu.rt < expiry → exec (.spacingExpiry .b) s = .next s))

/-- A NORMAL impulse completes on line A (R168, R172, R174, R175), with no set held and the line in RUN: with sense OK, where the clocks then
show the target, the shown position is up by one round the dial and the next polarity flips, and nothing is written; with OPEN or SHORT both
stand, the line is in FAULT, its probe is due after the probe period, and the FAULT record is written and reported as an ALARM. A probe
(R176, R177) on either line in FAULT: at the probe expiry a PROBE impulse starts with the next polarity, whatever the spacing; one that
completes with OPEN or SHORT, with no set held, leaves the position, the polarity and the FAULT, and the next probe is due after the probe
period. -/
def Obligations.ImpulsesComplete : Prop :=
  (∀ (interval shown : Nat) (polarity : Polarity) (impulse : Impulse) (s : State), s.cld.a.state = .run →
     s.cld.a.flight = some impulse → impulse.kind = .normal → impulse.endRt ≤ s.tbu.rt → s.cld.a.interval = some interval →
     s.cld.a.shown = some shown → s.cld.a.polarity = some polarity → s.cld.a.pendingSet = none →
     (dialLag interval s.ctMs ((shown + 1) % dialPositions interval) = 0 →
       exec (.impulseCompletion .a .ok) s = .next { s with
         pins := { s.pins with senseA := .ok }
         cld := { s.cld with a := { s.cld.a with
           flight := none, lastSense := some .ok, shown := some ((shown + 1) % dialPositions interval)
           polarity := some (match polarity with | .positive => .negative | .negative => .positive), wanted := false
           noted := false } } }) ∧
     (∀ sense, sense = .openCircuit ∨ sense = .shortCircuit →
       let body : RecordBody := .clockLine
         { line := .a, change := .fault, before := .run, after := .fault, interval := some interval, shown := some shown
           polarity := some polarity, target := some (s.ctMs % 43200000 / (interval * 1000))
           lag := some (dialLag interval s.ctMs shown), sense := some sense }
       exec (.impulseCompletion .a sense) s = .next { s with
         pins := { s.pins with senseA := sense }
         cld := { s.cld with a := { s.cld.a with
           flight := none, lastSense := some sense, state := .fault, wanted := false, noted := false
           probe := some (s.tbu.rt + s.orh.params.probePeriod * 1000000) } }
         evj := s.evj.store body s.now {}
         orh := s.orh.raise
           { kind := .clockLineFault, priority := 0, seq := s.evj.next, date := s.now, flags := {}, summary := .ofRecord body } })) ∧
  (∀ (l : ClockLineName) (polarity : Polarity) (s : State),
     let x := s.line l
     let put := fun (x : ClockLine) => match l with
       | .a => { s.cld with a := x }
       | .b => { s.cld with b := x }
     x.state = .fault → x.polarity = some polarity →
     (∀ expiry, x.flight = none → x.probe = some expiry → expiry ≤ s.tbu.rt →
       exec (.probeExpiry l) s = .next { s with
         cld := put { x with
           probe := none
           flight := some { kind := .probe, polarity := polarity, startRt := s.tbu.rt
                            endRt := s.tbu.rt + s.orh.params.pulseWidth * 1000 }
           spacing := some (s.tbu.rt + max s.orh.params.catchUpSpacing (s.orh.params.pulseWidth + 500) * 1000) } }) ∧
     (∀ impulse sense, x.flight = some impulse → impulse.kind = .probe → impulse.endRt ≤ s.tbu.rt →
       x.pendingSet = none → sense = .openCircuit ∨ sense = .shortCircuit →
         exec (.impulseCompletion l sense) s = .next { s with
           pins := match l with
             | .a => { s.pins with senseA := sense }
             | .b => { s.pins with senseB := sense }
           cld := put { x with
             flight := none, lastSense := some sense, noted := false
             probe := some (s.tbu.rt + s.orh.params.probePeriod * 1000000) } }))

/-- CLOCK LINE SET at either line (R178, R179, R180, R182): with no impulse in flight a run stores its values and the line is evaluated with
them, and a stop makes it STOPPED and keeps its dial; either writes a SET record with the target and the lag. With one in flight either is
held. A run is refused STATE in UNSET; RANGE for a line, an interval, a position or a polarity that is none; a stop for a line that is none.
The outputs CLA and CLB (R166, R172, R184): a line is driven in the polarity of the impulse in flight, and undriven with none; after power-
on both are undriven. -/
def Obligations.ClockLineSetRunsOrStops : Prop :=
  (∀ (m : Manner) (l : ClockLineName) (s : State),
     let x := s.line l
     let date := (s.captureAt .i).date
     (∀ interval shown polarity p, dialHas interval shown → polarityOf polarity = some p →
       (s.tbu.timeState ≠ .unset → x.flight = none →
         let set := { x with
           interval := some interval, shown := some shown, polarity := some p, probe := none, lastSense := none }
         let body : RecordBody := .clockLine
           { line := l, change := .set, before := x.state, after := s.runFor interval shown false, interval := some interval
             shown := some shown, polarity := some p, target := some (s.ctMs % 43200000 / (interval * 1000))
             lag := some (dialLag interval s.ctMs shown), sense := none }
         exec (.clockLineSetRun m (clockLineCode l) interval shown polarity) s = .next
           { (s.release .i).onLine l (fun _ => set.evaluatedAs s interval shown p false) with evj := s.evj.store body s.now {} } ∧
         exec (.clockLineSetRun m (clockLineCode l) interval shown polarity) s =
           .next ((s.release .i).applySet l (.run interval shown p))) ∧
       (s.tbu.timeState ≠ .unset → x.flight.isSome = true →
         exec (.clockLineSetRun m (clockLineCode l) interval shown polarity) s =
           .next ((s.release .i).onLine l fun x => { x with pendingSet := some (.run interval shown p) })) ∧
       (s.tbu.timeState = .unset →
         exec (.clockLineSetRun m (clockLineCode l) interval shown polarity) s =
           .next ((s.release .i).refuse m 0x60 date .state))) ∧
     (∀ line interval shown polarity,
       1 < line ∨ (interval ≠ 30 ∧ interval ≠ 60) ∨ (interval = 30 ∧ 1440 ≤ shown) ∨ (interval = 60 ∧ 720 ≤ shown) ∨ 1 < polarity →
         exec (.clockLineSetRun m line interval shown polarity) s = .next ((s.release .i).refuse m 0x60 date .range)) ∧
     (x.flight = none →
       let body : RecordBody := .clockLine
         { line := l, change := .set, before := x.state, after := .stopped, interval := x.interval, shown := x.shown
           polarity := x.polarity, target := x.interval.map fun interval => s.ctMs % 43200000 / (interval * 1000)
           lag := match x.interval, x.shown with
             | some interval, some shown => some (dialLag interval s.ctMs shown)
             | _, _ => none
           sense := none }
       exec (.clockLineSetStop m (clockLineCode l)) s = .next
         { (s.release .i).onLine l (fun x => { x with state := .stopped, wanted := false, noted := false, probe := none }) with
           evj := s.evj.store body s.now {} } ∧
       exec (.clockLineSetStop m (clockLineCode l)) s = .next ((s.release .i).applySet l .stop)) ∧
     (x.flight.isSome = true →
       exec (.clockLineSetStop m (clockLineCode l)) s =
         .next ((s.release .i).onLine l fun x => { x with pendingSet := some .stop })) ∧
     (∀ line, 1 < line → exec (.clockLineSetStop m line) s = .next ((s.release .i).refuse m 0x60 date .range))) ∧
  (∀ (l : ClockLineName) (s : State),
     (∀ i, (s.line l).flight = some i → s.output l = some i.polarity) ∧ ((s.line l).flight = none → s.output l = none) ∧
     ∀ straps rate, ∃ t, exec (.powerOn straps rate) s = .next t ∧ t.output l = none)

/-- A clock line in RUN, CATCH-UP or HOLD with no impulse in flight is evaluated by R169's table at its interval boundary, and at a time change,
which is no boundary (R169, R170, R171, R181, R182): a change of state writes a STATE record, and an impulse wanted starts where the spacing
lets it. A time change does nothing to a line STOPPED, in FAULT or with an impulse in flight. A TIME SET, with no timetable active, is
announced to both lines, in either order (entry 4). An impulse completes on either line (R168, R172, R174, R175, R177, R180, R182). NORMAL
with OK: the clocks have stepped and the line is evaluated, at the boundary where one was noted, a change of state recorded; with OPEN or
SHORT it is in FAULT, recorded and reported as an ALARM, its probe due after the probe period. PROBE with OK: the clocks have stepped, and
the evaluation takes the line out of FAULT, RECOVERED recorded and reported; with OPEN or SHORT the next probe is set. A set held is then
applied as the order would be, in place of the evaluation after a NORMAL impulse with OK, and after the records of the others. -/
def Obligations.ClockLineIsEvaluatedAndCompletes : Prop :=
  (∀ (l : ClockLineName) (s : State),
     let x := s.line l
     (∀ interval shown polarity, x.state = .run ∨ x.state = .catchUp ∨ x.state = .hold → x.flight = none →
       x.interval = some interval → x.shown = some shown → x.polarity = some polarity →
       let evaluated := fun (s' : State) (atBoundary : Bool) =>
         { s'.onLine l (fun _ => x.evaluatedAs s interval shown polarity atBoundary) with
           evj :=
             if s.runFor interval shown atBoundary = x.state then s.evj
             else s.evj.store (.clockLine
               { line := l, change := .state, before := x.state, after := s.runFor interval shown atBoundary
                 interval := some interval, shown := some shown, polarity := some polarity
                 target := some (s.ctMs % 43200000 / (interval * 1000)), lag := some (dialLag interval s.ctMs shown)
                 sense := none }) s.now {} }
       (s.boundaryDue l = true → exec (.intervalBoundary l) s = .next (evaluated (s.takeBoundary l) true)) ∧
       s.announceToLine l = evaluated s false) ∧
     (x.state = .stopped ∨ x.state = .fault ∨ x.flight.isSome = true → s.announceToLine l = s) ∧
     (∀ (m : Manner) (ms offset : Nat), ms ≤ 5662310399999 → offset ≤ 120 → s.ttc.planes = none → s.ttc.active = false →
       s.tbu.scheduled = none →
       let body : RecordBody := .timeSet s.tbu.st (ms * 1000) s.tbu.season offset s.tbu.timeState false
       let date : Date := { ms := ms, season := offset, quality := .c }
       ∃ n,
         let set := { s.release .i with
           tbu := { s.tbu with
             st := ms * 1000, season := offset, slew := 0, slewPhase := 0, good := 0, outliers := 0, prevAccepted := false
             prevSlew := 0, holdoverExpiry := none, holdoverEntry := none, timeState := .free, scheduled := none }
           evj := s.evj.store body date {}
           orh := s.orh.raise
             { kind := .timeSet, priority := 1, seq := s.evj.next, date := date, flags := {}, summary := .ofRecord body }
           clk := { s.clk with choices := n } }
         exec (.timeSet m ms offset) s = .next ((set.announceToLine .a).announceToLine .b) ∨
           exec (.timeSet m ms offset) s = .next ((set.announceToLine .b).announceToLine .a))) ∧
  (∀ (l : ClockLineName) (interval shown : Nat) (polarity : Polarity) (impulse : Impulse) (sense : Sense) (s : State),
     let x := s.line l
     x.flight = some impulse → impulse.endRt ≤ s.tbu.rt → x.interval = some interval → x.shown = some shown →
     x.polarity = some polarity →
     let read : State := { s with pins := match l with
       | .a => { s.pins with senseA := sense }
       | .b => { s.pins with senseB := sense } }
     let ended := { x with flight := none, lastSense := some sense }
     let shown' := (shown + 1) % dialPositions interval
     let polarity' : Polarity := match polarity with | .positive => .negative | .negative => .positive
     let stepped := { ended with shown := some shown', polarity := some polarity' }
     let probe := some (s.tbu.rt + s.orh.params.probePeriod * 1000000)
     let held := fun (s' : State) => match x.pendingSet with
       | some set => (s'.onLine l fun y => { y with pendingSet := none }).applySet l set
       | none => s'
     let body := fun (change : ClockChange) (after : LineRun) (shown : Nat) (polarity : Polarity) (found : Option Sense) =>
       (.clockLine
         { line := l, change := change, before := x.state, after := after, interval := some interval, shown := some shown
           polarity := some polarity, target := some (s.ctMs % 43200000 / (interval * 1000))
           lag := some (dialLag interval s.ctMs shown), sense := found } : RecordBody)
     let reported := fun (s' : State) (body : RecordBody) (kind : ReportKind) (priority : Nat) =>
       { s' with
         evj := s.evj.store body s.now {}
         orh := s.orh.raise
           { kind := kind, priority := priority, seq := s.evj.next, date := s.now, flags := {}, summary := .ofRecord body } }
     (impulse.kind = .normal → sense = .ok →
       (∀ set, x.pendingSet = some set →
         exec (.impulseCompletion l sense) s = .next (held (read.onLine l fun _ => stepped))) ∧
       (x.pendingSet = none → x.state = .run ∨ x.state = .catchUp →
         let after := s.runFor interval shown' x.noted
         exec (.impulseCompletion l sense) s = .next
           { read.onLine l (fun _ => stepped.evaluatedAs s interval shown' polarity' x.noted) with
             evj := if after = x.state then s.evj else s.evj.store (body .state after shown' polarity' none) s.now {} })) ∧
     (impulse.kind = .normal → sense = .openCircuit ∨ sense = .shortCircuit →
       exec (.impulseCompletion l sense) s = .next (held (reported
         (read.onLine l fun _ => { ended with state := .fault, wanted := false, noted := false, probe := probe })
         (body .fault .fault shown polarity (some sense)) .clockLineFault 0))) ∧
     (impulse.kind = .probe → sense = .ok →
       let after := s.runFor interval shown' x.noted
       let recovered := body .recovered after shown' polarity' none
       (∀ set, x.pendingSet = some set →
         exec (.impulseCompletion l sense) s = .next (held (reported
           (read.onLine l fun _ => { stepped with state := after, wanted := s.wantsImpulse interval shown', noted := false })
           recovered .clockLineRecovered 3))) ∧
       (x.pendingSet = none →
         exec (.impulseCompletion l sense) s = .next (reported
           (read.onLine l fun _ => stepped.evaluatedAs s interval shown' polarity' x.noted) recovered .clockLineRecovered 3))) ∧
     (impulse.kind = .probe → sense = .openCircuit ∨ sense = .shortCircuit →
       exec (.impulseCompletion l sense) s = .next (held (read.onLine l fun _ => { ended with noted := false, probe := probe }))))

/-! ### Orders, replies and reports (10) -/

/-- A reply or a refusal (R186, R187, R188, R189): of a unicast order it fills an EMPTY slot, and gives the reply in a FULL one OVERRUN; of a
broadcast order it changes nothing. An ORDER's payload judged (R185, R205; 11 "Order payloads"): an empty one is refused LENGTH with no
code, and a code that names no order UNKNOWN. One of another length than its order's is refused LENGTH, a TIMETABLE WRITE by its count; and
one of the right length is the order's row, its fields read most significant byte first (entry 6). A CLOCK LINE SET that is neither run nor
stop is refused RANGE. -/
def Obligations.OrdersAreJudgedAndAnswered : Prop :=
  (∀ (code : Option Nat) (arrival : Date) (content : ReplyContent) (s : State),
     (s.orh.slot = none →
       s.answer .unicast code arrival content = { s with
         orh := { s.orh with slot := (some
           { code := code, arrival := arrival, content := content, sent := 0, overrun := false }) } }) ∧
     (∀ r, s.orh.slot = some r →
       s.answer .unicast code arrival content = { s with orh := { s.orh with slot := some { r with overrun := true } } }) ∧
     s.answer .broadcast code arrival content = s ∧
     ∀ n reason, s.refuse .broadcast n arrival reason = s ∧
       s.refuse .unicast n arrival reason = s.answer .unicast (some n) arrival (.refusal reason)) ∧
  (∀ (m : Manner) (s : State),
     let date := (s.captureAt .i).date
     let order := fun (payload : List Byte) => exec (.orderRefusedForm m payload) s
     order [] = .next ((s.release .i).answer m none date (.refusal .length)) ∧
     (∀ (code : Byte) (ps : List Byte),
       code.toNat ∉ [0x10, 0x11, 0x12, 0x20, 0x30, 0x31, 0x32, 0x33, 0x40, 0x41, 0x48, 0x49, 0x50, 0x51, 0x52, 0x60, 0x7F] →
         order (code :: ps) = .next ((s.release .i).refuse m code.toNat date .unknown)) ∧
     (∀ (code : Byte) (length : Nat) (ps : List Byte),
       (code.toNat, length) ∈ [(0x10, 6), (0x11, 8), (0x12, 6), (0x20, 6), (0x30, 10), (0x31, 10), (0x33, 2), (0x40, 13), (0x41, 2),
         (0x48, 6), (0x49, 7), (0x50, 6), (0x51, 5), (0x52, 1), (0x60, 7), (0x7F, 1)] → ps.length + 1 ≠ length →
         order (code :: ps) = .next ((s.release .i).refuse m code.toNat date .length)) ∧
     (∀ ps : List Byte, ps.length < 3 → order (0x32#8 :: ps) = .next ((s.release .i).refuse m 0x32 date .length)) ∧
     (∀ (b0 b1 : Byte) (count : Nat) (ps : List Byte), 1 ≤ count → count ≤ 4 → ps.length ≠ 10 * count →
       order (0x32#8 :: b0 :: b1 :: BitVec.ofNat 8 count :: ps) = .next ((s.release .i).refuse m 0x32 date .length)) ∧
     (∀ second, second < 256 ^ 5 → order (0x10#8 :: toBytes 5 second) = exec (.timeMark m second) s) ∧
     (∀ ms offset, ms < 256 ^ 6 → offset < 256 → order (0x11#8 :: (toBytes 6 ms ++ toBytes 1 offset)) = exec (.timeSet m ms offset) s) ∧
     (∀ offset minute, offset < 256 → minute < 256 ^ 4 →
       order (0x12#8 :: (toBytes 1 offset ++ toBytes 4 minute)) = exec (.seasonChange m offset minute) s) ∧
     (∀ parameter (value : Int), parameter < 256 → -2147483648 ≤ value → value ≤ 2147483647 →
       order (0x20#8 :: (toBytes 1 parameter ++ toBytesSigned 4 value)) = exec (.configWrite m parameter value) s) ∧
     (∀ index address kind limit cls used, index < 65536 → address < 65536 → kind < 256 → limit < 65536 → cls < 256 → used < 256 →
       order (0x30#8 :: (toBytes 2 index ++ toBytes 2 address ++ toBytes 1 kind ++ toBytes 2 limit ++ toBytes 1 cls ++ toBytes 1 used)) =
         exec (.elementWrite m index address kind limit cls used) s) ∧
     (∀ index sect edge signal threshold mode used, index < 256 → sect < 65536 → edge < 256 → signal < 65536 → threshold < 256 →
       mode < 256 → used < 256 →
       order (0x31#8 :: (toBytes 1 index ++ toBytes 2 sect ++ toBytes 1 edge ++ toBytes 2 signal ++ toBytes 1 threshold ++
         toBytes 1 mode ++ toBytes 1 used)) = exec (.pointWrite m index sect edge signal threshold mode used) s) ∧
     (∀ first (entries : List RawEntry), first < 65536 → 1 ≤ entries.length → entries.length ≤ 4 → (∀ e ∈ entries, e.wf = true) →
       order (0x32#8 :: (toBytes 2 first ++ toBytes 1 entries.length ++
         entries.flatMap fun e => toBytes 4 e.train.toNat ++ toBytes 1 e.point ++ toBytes 1 e.kind ++ toBytes 2 e.booked ++
           toBytes 1 e.mask ++ toBytes 1 e.used)) = exec (.timetableWrite m first entries.length entries) s) ∧
     (∀ first count ps, first < 65536 → count < 256 → count = 0 ∨ 4 < count →
       order (0x32#8 :: (toBytes 2 first ++ toBytes 1 count ++ ps)) = exec (.timetableWrite m first count []) s) ∧
     (∀ scope, scope < 256 → order (0x33#8 :: toBytes 1 scope) = exec (.apply m scope) s) ∧
     (∀ slot target action (train : TrainNumber) point booked mask, slot < 256 → target < 65536 → action < 256 → point < 256 →
       booked < 65536 → mask < 256 →
       order (0x40#8 :: (toBytes 1 slot ++ toBytes 2 target ++ toBytes 1 action ++ toBytes 4 train.toNat ++ toBytes 1 point ++
         toBytes 2 booked ++ toBytes 1 mask)) = exec (.overlayWrite m slot target action train point booked mask) s) ∧
     (∀ slot, slot < 256 → order (0x41#8 :: toBytes 1 slot) = exec (.overlayClear m slot) s) ∧
     (∀ point (train : TrainNumber), point < 256 →
       order (0x48#8 :: (toBytes 1 point ++ toBytes 4 train.toNat)) = exec (.trainIdent m point train) s) ∧
     (∀ point (train : TrainNumber), point < 65536 →
       order (0x49#8 :: (toBytes 4 train.toNat ++ toBytes 2 point)) = exec (.trainCancel m train point) s) ∧
     (∀ start count, start < 256 ^ 4 → count < 256 →
       order (0x50#8 :: (toBytes 4 start ++ toBytes 1 count)) = exec (.journalRead m start count) s) ∧
     (∀ table selector index, table < 256 → selector < 256 → index < 65536 →
       order (0x51#8 :: (toBytes 1 table ++ toBytes 1 selector ++ toBytes 2 index)) = exec (.tableRead m table selector index) s) ∧
     order [0x52#8] = exec (.statusRead m) s ∧
     (∀ line interval shown polarity, line < 256 → interval < 256 → shown < 65536 → polarity < 256 →
       order (0x60#8 :: (toBytes 1 line ++ [1#8] ++ toBytes 1 interval ++ toBytes 2 shown ++ toBytes 1 polarity)) =
         exec (.clockLineSetRun m line interval shown polarity) s) ∧
     (∀ line ps, line < 256 → ps.length = 4 → order (0x60#8 :: (toBytes 1 line ++ [0#8] ++ ps)) = exec (.clockLineSetStop m line) s) ∧
     (∀ (line run : Byte) ps, 1 < run.toNat → ps.length = 4 →
       order (0x60#8 :: line :: run :: ps) = .next ((s.release .i).refuse m 0x60 date .range)) ∧
     order [0x7F#8] = exec (.restart m) s)

/-- CONFIG WRITE of a parameter that is no T2 and takes effect later (R190, R191): the value clamped to the parameter's range is stored, and the
CONFIG record carries the value written, the value before and the value taken; a parameter that is none is refused RANGE. CONFIG WRITE of
the other parameters (R12, R13, R37, R190, R191): a T2 is clamped between the stored T1 of its set and its upper bound. The holdover limit,
3, is taken up at once: a limit reached makes the time state FREE as its event does, after the CONFIG record (entry 38). The loss timeout,
4, moves the pending loss expiry, measured from the last ROUND OPEN's arrival, and one reached loses the line as its event does (entry 14). -/
def Obligations.ConfigWriteClampsAndStores : Prop :=
  (∀ (m : Manner) (n : Nat) (value : Int) (row : ParamRow) (s : State),
     (1 ≤ n → paramTable[n - 1]? = some row → n ∉ [3, 4, 12, 15, 18, 21] →
       let taken := (max (row.lo : Int) (min (row.hi : Int) value)).toNat
       exec (.configWrite m n value) s = .next { s.release .i with
         orh := { s.orh with params := s.orh.params.set (n - 1) taken }
         evj := s.evj.store (.config n value (s.orh.params.getD (n - 1) 0) taken) (s.captureAt .i).date {} }) ∧
     (n = 0 ∨ 25 < n → exec (.configWrite m n value) s = .next ((s.release .i).refuse m 0x20 (s.captureAt .i).date .range))) ∧
  (∀ (m : Manner) (n : Nat) (value : Int) (row : ParamRow) (s : State), paramTable[n - 1]? = some row →
     let stored := fun (taken : Nat) =>
       { s.release .i with
         orh := { s.orh with params := s.orh.params.set (n - 1) taken }
         evj := s.evj.store (.config n value (s.orh.params.getD (n - 1) 0) taken) (s.captureAt .i).date {} }
     (n ∈ [12, 15, 18, 21] →
       exec (.configWrite m n value) s =
         .next (stored (max (s.orh.params.getD (n - 2) 0 : Int) (min (row.hi : Int) value)).toNat)) ∧
     (n = 3 →
       exec (.configWrite m n value) s = exec .holdoverLimit (stored (max (row.lo : Int) (min (row.hi : Int) value)).toNat)) ∧
     (n = 4 → s.orh.params.Sound →
       let taken := (max (row.lo : Int) (min (row.hi : Int) value)).toNat
       let moved := match s.liu.lossExpiry, s.liu.lastOpenRt with
         | some _, some arrival => some (arrival + taken * 1000)
         | _, _ => s.liu.lossExpiry
       exec (.configWrite m n value) s =
         exec .lossExpiry { stored taken with liu := { s.liu with rxI := {}, lossExpiry := moved } }))

/-- TABLE READ and STATUS READ with the slot EMPTY (R188, R192, R193, R205): the reply holds the entry of the table named as it stands, an
unused one where it is unused, or the parts of the STATUS, each as it stands; a table, a selector or an index that is none is refused RANGE.
With the slot FULL a reading order is dropped with OVERRUN, and a broadcast one is ignored. -/
def Obligations.ReadingOrdersReply : Prop :=
  ∀ s : State,
    let date := (s.captureAt .i).date
    let reply := fun (code : Nat) (content : ReplyContent) =>
      { s.release .i with
        orh := { s.orh with slot := some { code := some code, arrival := date, content := content, sent := 0, overrun := false } } }
    let reads := fun (table selector index : Nat) (entry : TableEntry) =>
      exec (.tableRead .unicast table selector index) s = .next (reply 0x51 (.table table selector index entry))
    (s.orh.slot = none →
      exec (.statusRead .unicast) s = .next (reply 0x52 (.status
        { node := s.liu.node, rate := s.liu.rate, timeState := s.tbu.timeState, st := s.tbu.st, season := s.tbu.season
          trim := s.tbu.trim, slew := s.tbu.slew, quality := s.now.quality, seasonScheduled := s.tbu.scheduled.isSome
          lineState := s.liu.lineState, round := s.liu.round, phase := s.liu.phase, errorsI := s.liu.errorsI
          errorsF := s.liu.errorsF, layoutGeneration := s.lys.generation, elements := s.lys.elements.length
          points := s.psd.points.length, armed := s.lys.armed, unknownCount := s.lys.unknown.length
          unseen := s.lys.elements.countP fun e => e.state.seen == false
          timetableGeneration := s.ttc.generation, timetableActive := s.ttc.active, h0 := s.ttc.h0
          planeDay := match s.ttc.planes with | some p => some p.current.day | none => none
          timetableCount := s.ttc.entries.length, movements := s.mvs.table.countP fun r => r.isSome
          stored := s.evj.ring.length, unread := s.evj.unread
          newest := if s.evj.next ≤ 1 then 4294967295 else s.evj.next - 1, minorRefusals := s.evj.minorRefusals
          reports := s.orh.reports.length, discarded := s.orh.discarded, lineA := s.cld.a.state, lineB := s.cld.b.state })) ∧
      (∀ index, index ≤ 1023 → reads 1 0 index (.element (s.lys.stagingElements.get? index))) ∧
      (∀ index, index ≤ 1023 → reads 2 0 index (.element ((s.lys.elements[index]?).map (·.entry)))) ∧
      (∀ index, index ≤ 255 → reads 3 0 index (.stagingPoint (s.lys.stagingPoints.get? index))) ∧
      (∀ index, index ≤ 255 → reads 4 0 index (.activePoint s.psd.points[index]?)) ∧
      (∀ index, index ≤ 8191 → reads 5 0 index (.timetable (s.ttc.staging.get? index))) ∧
      (∀ index, index ≤ 8191 → reads 6 0 index (.timetable s.ttc.entries[index]?)) ∧
      (∀ index e, s.lys.elements[index]? = some e → reads 7 0 index (.elementState e.entry.address e.entry.kind e.state)) ∧
      (∀ index p, s.ttc.planes = some p → index < s.ttc.entries.length →
        reads 8 0 index (.plane p.current.day p.current.cursor (p.current.statusOf index) (s.ttc.slotOf index)) ∧
        reads 8 1 index (.plane p.previous.day p.previous.cursor (p.previous.statusOf index) (s.ttc.slotOf index))) ∧
      (∀ index, index ≤ 63 → reads 9 0 index (.overlay (s.ttc.slot index))) ∧
      (∀ index, index ≤ 31 → reads 10 0 index (.unknownAddress s.lys.unknown[index]? s.lys.unknown.length)) ∧
      (∀ index, index ≤ 63 → reads 11 0 index (.movement (s.mvs.at? index))) ∧
      reads 12 0 0 (.clockLine s.cld.a) ∧ reads 12 0 1 (.clockLine s.cld.b) ∧
      (∀ table selector index,
        table = 0 ∨ 12 < table ∨ (table ≠ 8 ∧ selector ≠ 0) ∨ (table ≤ 2 ∧ 1023 < index) ∨ (table ≤ 4 ∧ 2 < table ∧ 255 < index) ∨
            (table ≤ 6 ∧ 4 < table ∧ 8191 < index) ∨ (table = 7 ∧ s.lys.elements.length ≤ index) ∨
            (table = 8 ∧ (1 < selector ∨ s.ttc.planes = none ∨ s.ttc.entries.length ≤ index)) ∨ (table = 9 ∧ 63 < index) ∨
            (table = 10 ∧ 31 < index) ∨ (table = 11 ∧ 63 < index) ∨ (table = 12 ∧ 1 < index) →
          exec (.tableRead .unicast table selector index) s = .next (reply 0x51 (.refusal .range)))) ∧
    (∀ r, s.orh.slot = some r →
      let overrun := { s.release .i with orh := { s.orh with slot := some { r with overrun := true } } }
      exec (.statusRead .unicast) s = .next overrun ∧
      (∀ table selector index, exec (.tableRead .unicast table selector index) s = .next overrun) ∧
      ∀ start count, exec (.journalRead .unicast start count) s = .next overrun) ∧
    exec (.statusRead .broadcast) s = .next (s.release .i) ∧
    (∀ table selector index, exec (.tableRead .broadcast table selector index) s = .next (s.release .i)) ∧
    ∀ start count, exec (.journalRead .broadcast start count) s = .next (s.release .i)

/-- A report that reaches the queue (R196, R197): with fewer than 64 there it takes the last place among those of its priority; against a full
queue whose last is of a lower priority, that one is discarded for it; else it is discarded itself; either way the count rises, held at
65,535. -/
def Obligations.ReportIsAdmittedOrDiscarded : Prop :=
  ∀ (o : Orh) (r : Report) (before after : List Report), (∀ x ∈ before, x.priority ≤ r.priority) → (∀ x ∈ after, r.priority < x.priority) →
    (o.reports = before ++ after → o.reports.length < 64 → o.raise r = { o with reports := before ++ r :: after }) ∧
    (∀ last, o.reports = before ++ after ++ [last] → 64 ≤ o.reports.length → r.priority < last.priority →
      o.raise r = { o with reports := before ++ r :: after, discarded := min (o.discarded + 1) 65535 }) ∧
    (o.reports = before → 64 ≤ o.reports.length → o.raise r = { o with discarded := min (o.discarded + 1) 65535 })

/-- A unicast RESTART (R18, R79, R102, R120, R163, R194): the RESTART record first, with its counts; every element fresh since this RT, every
movement closed ABANDONED with reason RESTART at the order's arrival, in rising order of position, every timing point's record fresh, the
unknown-address list, the report queue and the slot empty, nothing armed, the turn ended; the time base, the banks and generations, the
timetable, the clock lines, the configuration, the discarded count and the ring are kept. A broadcast one is ignored. -/
def Obligations.RestartGivesUpTheField : Prop :=
  ∀ s : State, s.MovementsSound →
    (∃ t, exec (.restart .unicast) s = .next t ∧
      t.lys = { s.lys with
        elements := s.lys.elements.map fun e => { e with state := { sectionSince := s.tbu.rt } }, unknown := [], armed := none } ∧
      (∀ k, t.mvs.at? k = none) ∧
      t.psd = { s.psd with points := s.psd.points.map fun p => { p with record := {} } } ∧
      t.orh = { s.orh with slot := none, reports := [] } ∧ t.liu.turn = .closed ∧ t.liu.lineState = s.liu.lineState ∧
      t.liu.phase = s.liu.phase ∧ t.liu.round = s.liu.round ∧ t.liu.lossExpiry = s.liu.lossExpiry ∧
      t.liu.holdBuffer = s.liu.holdBuffer ∧
      (∃ ends body,
        s.evj.Grown t.evj (ends ++ [{ seq := s.evj.next, body := body, date := (s.captureAt .i).date, flags := {} }]) ∧
        ends.length = s.mvs.openCount ∧
        body = .restartOrder s.lys.armed s.mvs.openCount (s.psd.points.map fun p => p.record.queue.length).sum
          s.orh.reports.length s.orh.slot.isSome ∧
        ends.reverse.map (·.body) =
          (List.range 64).filterMap (fun k => (s.mvs.at? k).map fun r => r.endRecord k .abandoned (some .restart) (s.captureAt .i).rt) ∧
        ∀ x ∈ ends, x.date = (s.captureAt .i).date) ∧
      t.tbu = s.tbu ∧ t.ttc = s.ttc ∧ t.cld = s.cld ∧ t.pins = s.pins ∧ t.clk = s.clk) ∧
    exec (.restart .broadcast) s = .next (s.release .i)

/-- Power-on (R1, R18, R43, R78, R103, R105, R147, R162, R166, R184, R191, R198): the node address and the rate from the straps, every block at
its power-on state, field by field, RT and ST at 0 in UNSET, every parameter at its default, and the RESTART (POWER) record #1 alone in the
journal. What the two lines have carried, the pins, the queue and the count of choices stand (entry 30). -/
def Obligations.PowerOnSetsEveryBlock : Prop :=
  ∀ (straps : Nat) (rate : LineRate) (s : State),
    exec (.powerOn straps rate) s = .next
      { pins := s.pins
        liu :=
          { node := 4064 + straps, rate := rate, iOut := s.liu.iOut, fOut := s.liu.fOut
            rxI := { state := .idle, lag := [], frame := [], remaining := 0, consumed := false, cut := false }
            rxF := { state := .idle, lag := [], frame := [], remaining := 0, consumed := false, cut := false }
            holdBuffer := [], errorsI := 0, errorsF := 0, lineState := .starting, phase := .none, round := none
            lossExpiry := none, lastOpenRt := none, lostRt := none, turn := .closed, tx := .idle }
        dtu := { capI := none, capF := none }
        tbu :=
          { rt := 0, st := 0, trim := 0, accumulator := 0, slew := 0, slewPhase := 0, timeState := .unset, good := 0, outliers := 0
            prevAccepted := false, prevSlew := 0, label := none, stepLimit := 100000, lockWindow := 500, holdoverExpiry := none
            holdoverEntry := none, season := 0, scheduled := none }
        lys := { elements := [], stagingElements := [], stagingPoints := [], unknown := [], generation := 0, armed := none }
        mvs := { table := List.replicate 64 none }
        psd := { points := [] }
        ttc := { staging := [], entries := [], active := false, generation := 0, h0 := 2, planes := none
                 overlay := List.replicate 64 none }
        evj :=
          { ring := [{ seq := 1, body := .restartPower (4064 + straps) rate, date := ⟨0, 0, .u⟩, flags := {} }], next := 2
            readMark := 0, minorRefusals := 0 }
        cld :=
          { a :=
              { state := .stopped, interval := none, shown := none, polarity := none, wanted := false, flight := none
                noted := false, spacing := none, probe := none, lastSense := none, pendingSet := none }
            b :=
              { state := .stopped, interval := none, shown := none, polarity := none, wanted := false, flight := none
                noted := false, spacing := none, probe := none, lastSense := none, pendingSet := none } }
        orh :=
          { slot := none, reports := [], discarded := 0
            params := [100000, 500, 240, 2000, 2, 3000, 2, 30, 120, 30, 60, 300, 30, 60, 300, 30, 60, 300, 30, 60, 300, 2000, 60, 60, 500] }
        clk :=
          { stMark := 0, stReached := 0, sweepTaken := false, boundaryTakenA := false, boundaryTakenB := false
            choices := s.clk.choices }
        pending := s.pending }

/-! ### The invariants -/

/-- The machine right after reset is sound in every block. -/
def Obligations.ResetIsSound : Prop :=
  State.reset.evj.Sound ∧ State.reset.orh.Sound ∧ State.reset.tbu.Sound ∧ State.reset.LineSound ∧ State.reset.cld.a.Sound ∧
    State.reset.cld.b.Sound ∧ State.reset.psd.Sound ∧ State.reset.PlanesSound ∧ State.reset.LayoutSound ∧
    State.reset.MovementsSound

/-- Every step keeps the journal sound, where the commands that wait are well-formed (R148, R149, R150, R156, R157): the stored numbers stay
consecutive up to the newest, at most 16,384 of them, and the read mark stays 0 or a stored number. -/
def Obligations.JournalStaysSound : Prop :=
  ∀ s t : State, s.evj.Sound → (∀ c ∈ s.pending, c.wf = true) → step s = .next t → t.evj.Sound

/-- Every step keeps the order handler sound (R188, R190, R191, R196, R197): at most 64 reports in queue order, a reply not all sent, every
parameter in its range. Every step keeps the time base sound, while the configuration is in its ranges (R20, R23, R24, R34, R36, R37, R41):
T within 5,000, P within 2,000,000 µs, S within 120 min, ST within day 65,535, and the holdover instants present in the states they belong
to. -/
def Obligations.TimeAndOrdersStaySound : Prop :=
  (∀ s t : State, s.orh.Sound → step s = .next t → t.orh.Sound) ∧
  (∀ s t : State, s.orh.Sound → s.tbu.Sound → step s = .next t → t.tbu.Sound)

/-- Every step keeps the line unit and its receivers sound (R2, R4, R5, R7, R9 to R16, R45). Every step keeps both clock lines sound (R167 to
R180). -/
def Obligations.LinesStaySound : Prop :=
  (∀ s t : State, s.LineSound → step s = .next t → t.LineSound) ∧
  (∀ s t : State, s.cld.a.Sound → s.cld.b.Sound → step s = .next t → t.cld.a.Sound ∧ t.cld.b.Sound)

/-- Every step keeps the expectation queues sound (R106, R113): at most 4 valid numbers, none twice. Every step keeps the planes and the overlay
sound (R126, R139, R142): the planes exist outside UNSET with a timetable active and at no other time, and no two slots have one target. -/
def Obligations.TrainsAndPlanesStaySound : Prop :=
  (∀ s t : State, s.psd.Sound → step s = .next t → t.psd.Sound) ∧
  (∀ s t : State, s.PlanesSound → step s = .next t → t.PlanesSound)

/-- Every step keeps the layout and the timetable sound (R58, R60, R69, R72, R73, R122, R147): what R72 checks of a bank that becomes active
holds of the active banks, and what is armed still passes. Every step keeps the movement table and the elements' links sound, while the
layout is sound (R80, R81, R82, R100). -/
def Obligations.LayoutAndMovementsStaySound : Prop :=
  (∀ s t : State, s.LayoutSound → step s = .next t → t.LayoutSound) ∧
  (∀ s t : State, s.LayoutSound → s.MovementsSound → step s = .next t → t.MovementsSound)
end

