-- ==== Sys2Proof/Laws/State.lean ====
section
/-! SUPPORT. Every block of the state after the update of one block: what the update gives its own block, and the others unchanged. -/

namespace Sys2Proof.Machine

/-! ### The update of `pins` -/

@[simp] theorem State.onPins_pins (s : State) (f : Pins → Pins) : (s.onPins f).pins = f s.pins := rfl
@[simp] theorem State.onPins_liu (s : State) (f : Pins → Pins) : (s.onPins f).liu = s.liu := rfl
@[simp] theorem State.onPins_dtu (s : State) (f : Pins → Pins) : (s.onPins f).dtu = s.dtu := rfl
@[simp] theorem State.onPins_tbu (s : State) (f : Pins → Pins) : (s.onPins f).tbu = s.tbu := rfl
@[simp] theorem State.onPins_lys (s : State) (f : Pins → Pins) : (s.onPins f).lys = s.lys := rfl
@[simp] theorem State.onPins_mvs (s : State) (f : Pins → Pins) : (s.onPins f).mvs = s.mvs := rfl
@[simp] theorem State.onPins_psd (s : State) (f : Pins → Pins) : (s.onPins f).psd = s.psd := rfl
@[simp] theorem State.onPins_ttc (s : State) (f : Pins → Pins) : (s.onPins f).ttc = s.ttc := rfl
@[simp] theorem State.onPins_evj (s : State) (f : Pins → Pins) : (s.onPins f).evj = s.evj := rfl
@[simp] theorem State.onPins_cld (s : State) (f : Pins → Pins) : (s.onPins f).cld = s.cld := rfl
@[simp] theorem State.onPins_orh (s : State) (f : Pins → Pins) : (s.onPins f).orh = s.orh := rfl
@[simp] theorem State.onPins_clk (s : State) (f : Pins → Pins) : (s.onPins f).clk = s.clk := rfl
@[simp] theorem State.onPins_pending (s : State) (f : Pins → Pins) : (s.onPins f).pending = s.pending := rfl

/-! ### The update of `liu` -/

@[simp] theorem State.onLiu_pins (s : State) (f : Liu → Liu) : (s.onLiu f).pins = s.pins := rfl
@[simp] theorem State.onLiu_liu (s : State) (f : Liu → Liu) : (s.onLiu f).liu = f s.liu := rfl
@[simp] theorem State.onLiu_dtu (s : State) (f : Liu → Liu) : (s.onLiu f).dtu = s.dtu := rfl
@[simp] theorem State.onLiu_tbu (s : State) (f : Liu → Liu) : (s.onLiu f).tbu = s.tbu := rfl
@[simp] theorem State.onLiu_lys (s : State) (f : Liu → Liu) : (s.onLiu f).lys = s.lys := rfl
@[simp] theorem State.onLiu_mvs (s : State) (f : Liu → Liu) : (s.onLiu f).mvs = s.mvs := rfl
@[simp] theorem State.onLiu_psd (s : State) (f : Liu → Liu) : (s.onLiu f).psd = s.psd := rfl
@[simp] theorem State.onLiu_ttc (s : State) (f : Liu → Liu) : (s.onLiu f).ttc = s.ttc := rfl
@[simp] theorem State.onLiu_evj (s : State) (f : Liu → Liu) : (s.onLiu f).evj = s.evj := rfl
@[simp] theorem State.onLiu_cld (s : State) (f : Liu → Liu) : (s.onLiu f).cld = s.cld := rfl
@[simp] theorem State.onLiu_orh (s : State) (f : Liu → Liu) : (s.onLiu f).orh = s.orh := rfl
@[simp] theorem State.onLiu_clk (s : State) (f : Liu → Liu) : (s.onLiu f).clk = s.clk := rfl
@[simp] theorem State.onLiu_pending (s : State) (f : Liu → Liu) : (s.onLiu f).pending = s.pending := rfl

/-! ### The update of `dtu` -/

@[simp] theorem State.onDtu_pins (s : State) (f : Dtu → Dtu) : (s.onDtu f).pins = s.pins := rfl
@[simp] theorem State.onDtu_liu (s : State) (f : Dtu → Dtu) : (s.onDtu f).liu = s.liu := rfl
@[simp] theorem State.onDtu_dtu (s : State) (f : Dtu → Dtu) : (s.onDtu f).dtu = f s.dtu := rfl
@[simp] theorem State.onDtu_tbu (s : State) (f : Dtu → Dtu) : (s.onDtu f).tbu = s.tbu := rfl
@[simp] theorem State.onDtu_lys (s : State) (f : Dtu → Dtu) : (s.onDtu f).lys = s.lys := rfl
@[simp] theorem State.onDtu_mvs (s : State) (f : Dtu → Dtu) : (s.onDtu f).mvs = s.mvs := rfl
@[simp] theorem State.onDtu_psd (s : State) (f : Dtu → Dtu) : (s.onDtu f).psd = s.psd := rfl
@[simp] theorem State.onDtu_ttc (s : State) (f : Dtu → Dtu) : (s.onDtu f).ttc = s.ttc := rfl
@[simp] theorem State.onDtu_evj (s : State) (f : Dtu → Dtu) : (s.onDtu f).evj = s.evj := rfl
@[simp] theorem State.onDtu_cld (s : State) (f : Dtu → Dtu) : (s.onDtu f).cld = s.cld := rfl
@[simp] theorem State.onDtu_orh (s : State) (f : Dtu → Dtu) : (s.onDtu f).orh = s.orh := rfl
@[simp] theorem State.onDtu_clk (s : State) (f : Dtu → Dtu) : (s.onDtu f).clk = s.clk := rfl
@[simp] theorem State.onDtu_pending (s : State) (f : Dtu → Dtu) : (s.onDtu f).pending = s.pending := rfl

/-! ### The update of `tbu` -/

@[simp] theorem State.onTbu_pins (s : State) (f : Tbu → Tbu) : (s.onTbu f).pins = s.pins := rfl
@[simp] theorem State.onTbu_liu (s : State) (f : Tbu → Tbu) : (s.onTbu f).liu = s.liu := rfl
@[simp] theorem State.onTbu_dtu (s : State) (f : Tbu → Tbu) : (s.onTbu f).dtu = s.dtu := rfl
@[simp] theorem State.onTbu_tbu (s : State) (f : Tbu → Tbu) : (s.onTbu f).tbu = f s.tbu := rfl
@[simp] theorem State.onTbu_lys (s : State) (f : Tbu → Tbu) : (s.onTbu f).lys = s.lys := rfl
@[simp] theorem State.onTbu_mvs (s : State) (f : Tbu → Tbu) : (s.onTbu f).mvs = s.mvs := rfl
@[simp] theorem State.onTbu_psd (s : State) (f : Tbu → Tbu) : (s.onTbu f).psd = s.psd := rfl
@[simp] theorem State.onTbu_ttc (s : State) (f : Tbu → Tbu) : (s.onTbu f).ttc = s.ttc := rfl
@[simp] theorem State.onTbu_evj (s : State) (f : Tbu → Tbu) : (s.onTbu f).evj = s.evj := rfl
@[simp] theorem State.onTbu_cld (s : State) (f : Tbu → Tbu) : (s.onTbu f).cld = s.cld := rfl
@[simp] theorem State.onTbu_orh (s : State) (f : Tbu → Tbu) : (s.onTbu f).orh = s.orh := rfl
@[simp] theorem State.onTbu_clk (s : State) (f : Tbu → Tbu) : (s.onTbu f).clk = s.clk := rfl
@[simp] theorem State.onTbu_pending (s : State) (f : Tbu → Tbu) : (s.onTbu f).pending = s.pending := rfl

/-! ### The update of `lys` -/

@[simp] theorem State.onLys_pins (s : State) (f : Lys → Lys) : (s.onLys f).pins = s.pins := rfl
@[simp] theorem State.onLys_liu (s : State) (f : Lys → Lys) : (s.onLys f).liu = s.liu := rfl
@[simp] theorem State.onLys_dtu (s : State) (f : Lys → Lys) : (s.onLys f).dtu = s.dtu := rfl
@[simp] theorem State.onLys_tbu (s : State) (f : Lys → Lys) : (s.onLys f).tbu = s.tbu := rfl
@[simp] theorem State.onLys_lys (s : State) (f : Lys → Lys) : (s.onLys f).lys = f s.lys := rfl
@[simp] theorem State.onLys_mvs (s : State) (f : Lys → Lys) : (s.onLys f).mvs = s.mvs := rfl
@[simp] theorem State.onLys_psd (s : State) (f : Lys → Lys) : (s.onLys f).psd = s.psd := rfl
@[simp] theorem State.onLys_ttc (s : State) (f : Lys → Lys) : (s.onLys f).ttc = s.ttc := rfl
@[simp] theorem State.onLys_evj (s : State) (f : Lys → Lys) : (s.onLys f).evj = s.evj := rfl
@[simp] theorem State.onLys_cld (s : State) (f : Lys → Lys) : (s.onLys f).cld = s.cld := rfl
@[simp] theorem State.onLys_orh (s : State) (f : Lys → Lys) : (s.onLys f).orh = s.orh := rfl
@[simp] theorem State.onLys_clk (s : State) (f : Lys → Lys) : (s.onLys f).clk = s.clk := rfl
@[simp] theorem State.onLys_pending (s : State) (f : Lys → Lys) : (s.onLys f).pending = s.pending := rfl

/-! ### The update of `mvs` -/

@[simp] theorem State.onMvs_pins (s : State) (f : Mvs → Mvs) : (s.onMvs f).pins = s.pins := rfl
@[simp] theorem State.onMvs_liu (s : State) (f : Mvs → Mvs) : (s.onMvs f).liu = s.liu := rfl
@[simp] theorem State.onMvs_dtu (s : State) (f : Mvs → Mvs) : (s.onMvs f).dtu = s.dtu := rfl
@[simp] theorem State.onMvs_tbu (s : State) (f : Mvs → Mvs) : (s.onMvs f).tbu = s.tbu := rfl
@[simp] theorem State.onMvs_lys (s : State) (f : Mvs → Mvs) : (s.onMvs f).lys = s.lys := rfl
@[simp] theorem State.onMvs_mvs (s : State) (f : Mvs → Mvs) : (s.onMvs f).mvs = f s.mvs := rfl
@[simp] theorem State.onMvs_psd (s : State) (f : Mvs → Mvs) : (s.onMvs f).psd = s.psd := rfl
@[simp] theorem State.onMvs_ttc (s : State) (f : Mvs → Mvs) : (s.onMvs f).ttc = s.ttc := rfl
@[simp] theorem State.onMvs_evj (s : State) (f : Mvs → Mvs) : (s.onMvs f).evj = s.evj := rfl
@[simp] theorem State.onMvs_cld (s : State) (f : Mvs → Mvs) : (s.onMvs f).cld = s.cld := rfl
@[simp] theorem State.onMvs_orh (s : State) (f : Mvs → Mvs) : (s.onMvs f).orh = s.orh := rfl
@[simp] theorem State.onMvs_clk (s : State) (f : Mvs → Mvs) : (s.onMvs f).clk = s.clk := rfl
@[simp] theorem State.onMvs_pending (s : State) (f : Mvs → Mvs) : (s.onMvs f).pending = s.pending := rfl

/-! ### The update of `psd` -/

@[simp] theorem State.onPsd_pins (s : State) (f : Psd → Psd) : (s.onPsd f).pins = s.pins := rfl
@[simp] theorem State.onPsd_liu (s : State) (f : Psd → Psd) : (s.onPsd f).liu = s.liu := rfl
@[simp] theorem State.onPsd_dtu (s : State) (f : Psd → Psd) : (s.onPsd f).dtu = s.dtu := rfl
@[simp] theorem State.onPsd_tbu (s : State) (f : Psd → Psd) : (s.onPsd f).tbu = s.tbu := rfl
@[simp] theorem State.onPsd_lys (s : State) (f : Psd → Psd) : (s.onPsd f).lys = s.lys := rfl
@[simp] theorem State.onPsd_mvs (s : State) (f : Psd → Psd) : (s.onPsd f).mvs = s.mvs := rfl
@[simp] theorem State.onPsd_psd (s : State) (f : Psd → Psd) : (s.onPsd f).psd = f s.psd := rfl
@[simp] theorem State.onPsd_ttc (s : State) (f : Psd → Psd) : (s.onPsd f).ttc = s.ttc := rfl
@[simp] theorem State.onPsd_evj (s : State) (f : Psd → Psd) : (s.onPsd f).evj = s.evj := rfl
@[simp] theorem State.onPsd_cld (s : State) (f : Psd → Psd) : (s.onPsd f).cld = s.cld := rfl
@[simp] theorem State.onPsd_orh (s : State) (f : Psd → Psd) : (s.onPsd f).orh = s.orh := rfl
@[simp] theorem State.onPsd_clk (s : State) (f : Psd → Psd) : (s.onPsd f).clk = s.clk := rfl
@[simp] theorem State.onPsd_pending (s : State) (f : Psd → Psd) : (s.onPsd f).pending = s.pending := rfl

/-! ### The update of `ttc` -/

@[simp] theorem State.onTtc_pins (s : State) (f : Ttc → Ttc) : (s.onTtc f).pins = s.pins := rfl
@[simp] theorem State.onTtc_liu (s : State) (f : Ttc → Ttc) : (s.onTtc f).liu = s.liu := rfl
@[simp] theorem State.onTtc_dtu (s : State) (f : Ttc → Ttc) : (s.onTtc f).dtu = s.dtu := rfl
@[simp] theorem State.onTtc_tbu (s : State) (f : Ttc → Ttc) : (s.onTtc f).tbu = s.tbu := rfl
@[simp] theorem State.onTtc_lys (s : State) (f : Ttc → Ttc) : (s.onTtc f).lys = s.lys := rfl
@[simp] theorem State.onTtc_mvs (s : State) (f : Ttc → Ttc) : (s.onTtc f).mvs = s.mvs := rfl
@[simp] theorem State.onTtc_psd (s : State) (f : Ttc → Ttc) : (s.onTtc f).psd = s.psd := rfl
@[simp] theorem State.onTtc_ttc (s : State) (f : Ttc → Ttc) : (s.onTtc f).ttc = f s.ttc := rfl
@[simp] theorem State.onTtc_evj (s : State) (f : Ttc → Ttc) : (s.onTtc f).evj = s.evj := rfl
@[simp] theorem State.onTtc_cld (s : State) (f : Ttc → Ttc) : (s.onTtc f).cld = s.cld := rfl
@[simp] theorem State.onTtc_orh (s : State) (f : Ttc → Ttc) : (s.onTtc f).orh = s.orh := rfl
@[simp] theorem State.onTtc_clk (s : State) (f : Ttc → Ttc) : (s.onTtc f).clk = s.clk := rfl
@[simp] theorem State.onTtc_pending (s : State) (f : Ttc → Ttc) : (s.onTtc f).pending = s.pending := rfl

/-! ### The update of `evj` -/

@[simp] theorem State.onEvj_pins (s : State) (f : Evj → Evj) : (s.onEvj f).pins = s.pins := rfl
@[simp] theorem State.onEvj_liu (s : State) (f : Evj → Evj) : (s.onEvj f).liu = s.liu := rfl
@[simp] theorem State.onEvj_dtu (s : State) (f : Evj → Evj) : (s.onEvj f).dtu = s.dtu := rfl
@[simp] theorem State.onEvj_tbu (s : State) (f : Evj → Evj) : (s.onEvj f).tbu = s.tbu := rfl
@[simp] theorem State.onEvj_lys (s : State) (f : Evj → Evj) : (s.onEvj f).lys = s.lys := rfl
@[simp] theorem State.onEvj_mvs (s : State) (f : Evj → Evj) : (s.onEvj f).mvs = s.mvs := rfl
@[simp] theorem State.onEvj_psd (s : State) (f : Evj → Evj) : (s.onEvj f).psd = s.psd := rfl
@[simp] theorem State.onEvj_ttc (s : State) (f : Evj → Evj) : (s.onEvj f).ttc = s.ttc := rfl
@[simp] theorem State.onEvj_evj (s : State) (f : Evj → Evj) : (s.onEvj f).evj = f s.evj := rfl
@[simp] theorem State.onEvj_cld (s : State) (f : Evj → Evj) : (s.onEvj f).cld = s.cld := rfl
@[simp] theorem State.onEvj_orh (s : State) (f : Evj → Evj) : (s.onEvj f).orh = s.orh := rfl
@[simp] theorem State.onEvj_clk (s : State) (f : Evj → Evj) : (s.onEvj f).clk = s.clk := rfl
@[simp] theorem State.onEvj_pending (s : State) (f : Evj → Evj) : (s.onEvj f).pending = s.pending := rfl

/-! ### The update of `cld` -/

@[simp] theorem State.onCld_pins (s : State) (f : Cld → Cld) : (s.onCld f).pins = s.pins := rfl
@[simp] theorem State.onCld_liu (s : State) (f : Cld → Cld) : (s.onCld f).liu = s.liu := rfl
@[simp] theorem State.onCld_dtu (s : State) (f : Cld → Cld) : (s.onCld f).dtu = s.dtu := rfl
@[simp] theorem State.onCld_tbu (s : State) (f : Cld → Cld) : (s.onCld f).tbu = s.tbu := rfl
@[simp] theorem State.onCld_lys (s : State) (f : Cld → Cld) : (s.onCld f).lys = s.lys := rfl
@[simp] theorem State.onCld_mvs (s : State) (f : Cld → Cld) : (s.onCld f).mvs = s.mvs := rfl
@[simp] theorem State.onCld_psd (s : State) (f : Cld → Cld) : (s.onCld f).psd = s.psd := rfl
@[simp] theorem State.onCld_ttc (s : State) (f : Cld → Cld) : (s.onCld f).ttc = s.ttc := rfl
@[simp] theorem State.onCld_evj (s : State) (f : Cld → Cld) : (s.onCld f).evj = s.evj := rfl
@[simp] theorem State.onCld_cld (s : State) (f : Cld → Cld) : (s.onCld f).cld = f s.cld := rfl
@[simp] theorem State.onCld_orh (s : State) (f : Cld → Cld) : (s.onCld f).orh = s.orh := rfl
@[simp] theorem State.onCld_clk (s : State) (f : Cld → Cld) : (s.onCld f).clk = s.clk := rfl
@[simp] theorem State.onCld_pending (s : State) (f : Cld → Cld) : (s.onCld f).pending = s.pending := rfl

/-! ### The update of `orh` -/

@[simp] theorem State.onOrh_pins (s : State) (f : Orh → Orh) : (s.onOrh f).pins = s.pins := rfl
@[simp] theorem State.onOrh_liu (s : State) (f : Orh → Orh) : (s.onOrh f).liu = s.liu := rfl
@[simp] theorem State.onOrh_dtu (s : State) (f : Orh → Orh) : (s.onOrh f).dtu = s.dtu := rfl
@[simp] theorem State.onOrh_tbu (s : State) (f : Orh → Orh) : (s.onOrh f).tbu = s.tbu := rfl
@[simp] theorem State.onOrh_lys (s : State) (f : Orh → Orh) : (s.onOrh f).lys = s.lys := rfl
@[simp] theorem State.onOrh_mvs (s : State) (f : Orh → Orh) : (s.onOrh f).mvs = s.mvs := rfl
@[simp] theorem State.onOrh_psd (s : State) (f : Orh → Orh) : (s.onOrh f).psd = s.psd := rfl
@[simp] theorem State.onOrh_ttc (s : State) (f : Orh → Orh) : (s.onOrh f).ttc = s.ttc := rfl
@[simp] theorem State.onOrh_evj (s : State) (f : Orh → Orh) : (s.onOrh f).evj = s.evj := rfl
@[simp] theorem State.onOrh_cld (s : State) (f : Orh → Orh) : (s.onOrh f).cld = s.cld := rfl
@[simp] theorem State.onOrh_orh (s : State) (f : Orh → Orh) : (s.onOrh f).orh = f s.orh := rfl
@[simp] theorem State.onOrh_clk (s : State) (f : Orh → Orh) : (s.onOrh f).clk = s.clk := rfl
@[simp] theorem State.onOrh_pending (s : State) (f : Orh → Orh) : (s.onOrh f).pending = s.pending := rfl

/-! ### The update of `clk` -/

@[simp] theorem State.onClk_pins (s : State) (f : Clk → Clk) : (s.onClk f).pins = s.pins := rfl
@[simp] theorem State.onClk_liu (s : State) (f : Clk → Clk) : (s.onClk f).liu = s.liu := rfl
@[simp] theorem State.onClk_dtu (s : State) (f : Clk → Clk) : (s.onClk f).dtu = s.dtu := rfl
@[simp] theorem State.onClk_tbu (s : State) (f : Clk → Clk) : (s.onClk f).tbu = s.tbu := rfl
@[simp] theorem State.onClk_lys (s : State) (f : Clk → Clk) : (s.onClk f).lys = s.lys := rfl
@[simp] theorem State.onClk_mvs (s : State) (f : Clk → Clk) : (s.onClk f).mvs = s.mvs := rfl
@[simp] theorem State.onClk_psd (s : State) (f : Clk → Clk) : (s.onClk f).psd = s.psd := rfl
@[simp] theorem State.onClk_ttc (s : State) (f : Clk → Clk) : (s.onClk f).ttc = s.ttc := rfl
@[simp] theorem State.onClk_evj (s : State) (f : Clk → Clk) : (s.onClk f).evj = s.evj := rfl
@[simp] theorem State.onClk_cld (s : State) (f : Clk → Clk) : (s.onClk f).cld = s.cld := rfl
@[simp] theorem State.onClk_orh (s : State) (f : Clk → Clk) : (s.onClk f).orh = s.orh := rfl
@[simp] theorem State.onClk_clk (s : State) (f : Clk → Clk) : (s.onClk f).clk = f s.clk := rfl
@[simp] theorem State.onClk_pending (s : State) (f : Clk → Clk) : (s.onClk f).pending = s.pending := rfl

end Sys2Proof.Machine
end

