-- ==== Sys2Proof/Laws/FrameOps.lean ====
section
/-! SUPPORT. What each shared operation of Machine/Ops.lean leaves unchanged, block by block. -/

namespace Sys2Proof.Machine

/-- A fold keeps what each of its steps keeps. -/
theorem foldl_keeps {α β γ : Type} (g : α → γ) (f : α → β → α) (h : ∀ a b, g (f a b) = g a) (l : List β) (a : α) :
    g (l.foldl f a) = g a := by
  induction l generalizing a with
  | nil => rfl
  | cons b l ih => rw [List.foldl_cons, ih, h]

/-- `onRx` changes liu alone. -/
@[simp] theorem State.onRx_frame (s : State) (p : Port) (f : Receiver → Receiver) :
    (s.onRx p f).pins = s.pins ∧ (s.onRx p f).dtu = s.dtu ∧ (s.onRx p f).tbu = s.tbu ∧ (s.onRx p f).lys = s.lys ∧
      (s.onRx p f).mvs = s.mvs ∧ (s.onRx p f).psd = s.psd ∧ (s.onRx p f).ttc = s.ttc ∧ (s.onRx p f).evj = s.evj ∧
      (s.onRx p f).cld = s.cld ∧ (s.onRx p f).orh = s.orh ∧ (s.onRx p f).clk = s.clk ∧ (s.onRx p f).pending = s.pending := by
  cases p <;> simp [State.onRx]


/-- `lineError` changes liu alone. -/
@[simp] theorem State.lineError_frame (s : State) (p : Port) :
    (s.lineError p).pins = s.pins ∧ (s.lineError p).dtu = s.dtu ∧ (s.lineError p).tbu = s.tbu ∧
      (s.lineError p).lys = s.lys ∧ (s.lineError p).mvs = s.mvs ∧ (s.lineError p).psd = s.psd ∧ (s.lineError p).ttc = s.ttc ∧
      (s.lineError p).evj = s.evj ∧ (s.lineError p).cld = s.cld ∧ (s.lineError p).orh = s.orh ∧ (s.lineError p).clk = s.clk ∧
      (s.lineError p).pending = s.pending := by
  cases p <;> simp [State.lineError]


/-- `setCapture` changes dtu alone. -/
@[simp] theorem State.setCapture_frame (s : State) (p : Port) (c : Option Capture) :
    (s.setCapture p c).pins = s.pins ∧ (s.setCapture p c).liu = s.liu ∧ (s.setCapture p c).tbu = s.tbu ∧
      (s.setCapture p c).lys = s.lys ∧ (s.setCapture p c).mvs = s.mvs ∧ (s.setCapture p c).psd = s.psd ∧
      (s.setCapture p c).ttc = s.ttc ∧ (s.setCapture p c).evj = s.evj ∧ (s.setCapture p c).cld = s.cld ∧
      (s.setCapture p c).orh = s.orh ∧ (s.setCapture p c).clk = s.clk ∧ (s.setCapture p c).pending = s.pending := by
  cases p <;> simp [State.setCapture]


/-- `release` changes liu, dtu alone. -/
@[simp] theorem State.release_frame (s : State) (p : Port) :
    (s.release p).pins = s.pins ∧ (s.release p).tbu = s.tbu ∧ (s.release p).lys = s.lys ∧ (s.release p).mvs = s.mvs ∧
      (s.release p).psd = s.psd ∧ (s.release p).ttc = s.ttc ∧ (s.release p).evj = s.evj ∧ (s.release p).cld = s.cld ∧
      (s.release p).orh = s.orh ∧ (s.release p).clk = s.clk ∧ (s.release p).pending = s.pending := by
  simp [State.release]


/-- `onElement` changes lys alone. -/
@[simp] theorem State.onElement_frame (s : State) (i : Nat) (f : ElementState → ElementState) :
    (s.onElement i f).pins = s.pins ∧ (s.onElement i f).liu = s.liu ∧ (s.onElement i f).dtu = s.dtu ∧
      (s.onElement i f).tbu = s.tbu ∧ (s.onElement i f).mvs = s.mvs ∧ (s.onElement i f).psd = s.psd ∧
      (s.onElement i f).ttc = s.ttc ∧ (s.onElement i f).evj = s.evj ∧ (s.onElement i f).cld = s.cld ∧
      (s.onElement i f).orh = s.orh ∧ (s.onElement i f).clk = s.clk ∧ (s.onElement i f).pending = s.pending := by
  simp [State.onElement]


/-- `onPoint` changes psd alone. -/
@[simp] theorem State.onPoint_frame (s : State) (p : Nat) (f : PointRecord → PointRecord) :
    (s.onPoint p f).pins = s.pins ∧ (s.onPoint p f).liu = s.liu ∧ (s.onPoint p f).dtu = s.dtu ∧
      (s.onPoint p f).tbu = s.tbu ∧ (s.onPoint p f).lys = s.lys ∧ (s.onPoint p f).mvs = s.mvs ∧ (s.onPoint p f).ttc = s.ttc ∧
      (s.onPoint p f).evj = s.evj ∧ (s.onPoint p f).cld = s.cld ∧ (s.onPoint p f).orh = s.orh ∧ (s.onPoint p f).clk = s.clk ∧
      (s.onPoint p f).pending = s.pending := by
  simp [State.onPoint]


/-- `onLine` changes cld alone. -/
@[simp] theorem State.onLine_frame (s : State) (l : ClockLineName) (f : ClockLine → ClockLine) :
    (s.onLine l f).pins = s.pins ∧ (s.onLine l f).liu = s.liu ∧ (s.onLine l f).dtu = s.dtu ∧ (s.onLine l f).tbu = s.tbu ∧
      (s.onLine l f).lys = s.lys ∧ (s.onLine l f).mvs = s.mvs ∧ (s.onLine l f).psd = s.psd ∧ (s.onLine l f).ttc = s.ttc ∧
      (s.onLine l f).evj = s.evj ∧ (s.onLine l f).orh = s.orh ∧ (s.onLine l f).clk = s.clk ∧
      (s.onLine l f).pending = s.pending := by
  cases l <;> simp [State.onLine]


/-- `write` changes evj alone. -/
@[simp] theorem State.write_frame (s : State) (body : RecordBody) (date : Date) (flags : Flags) :
    (s.write body date flags).pins = s.pins ∧ (s.write body date flags).liu = s.liu ∧
      (s.write body date flags).dtu = s.dtu ∧ (s.write body date flags).tbu = s.tbu ∧ (s.write body date flags).lys = s.lys ∧
      (s.write body date flags).mvs = s.mvs ∧ (s.write body date flags).psd = s.psd ∧ (s.write body date flags).ttc = s.ttc ∧
      (s.write body date flags).cld = s.cld ∧ (s.write body date flags).orh = s.orh ∧ (s.write body date flags).clk = s.clk ∧
      (s.write body date flags).pending = s.pending := by
  simp [State.write]


/-- `raise` changes orh alone. -/
@[simp] theorem State.raise_frame (s : State) (r : Report) :
    (s.raise r).pins = s.pins ∧ (s.raise r).liu = s.liu ∧ (s.raise r).dtu = s.dtu ∧ (s.raise r).tbu = s.tbu ∧
      (s.raise r).lys = s.lys ∧ (s.raise r).mvs = s.mvs ∧ (s.raise r).psd = s.psd ∧ (s.raise r).ttc = s.ttc ∧
      (s.raise r).evj = s.evj ∧ (s.raise r).cld = s.cld ∧ (s.raise r).clk = s.clk ∧ (s.raise r).pending = s.pending := by
  simp [State.raise]


/-- `writeReport` changes evj, orh alone. -/
@[simp] theorem State.writeReport_frame (s : State) (body : RecordBody) (date : Date) (kind : ReportKind) (flags : Flags) :
    (s.writeReport body date kind flags).pins = s.pins ∧ (s.writeReport body date kind flags).liu = s.liu ∧
      (s.writeReport body date kind flags).dtu = s.dtu ∧ (s.writeReport body date kind flags).tbu = s.tbu ∧
      (s.writeReport body date kind flags).lys = s.lys ∧ (s.writeReport body date kind flags).mvs = s.mvs ∧
      (s.writeReport body date kind flags).psd = s.psd ∧ (s.writeReport body date kind flags).ttc = s.ttc ∧
      (s.writeReport body date kind flags).cld = s.cld ∧ (s.writeReport body date kind flags).clk = s.clk ∧
      (s.writeReport body date kind flags).pending = s.pending := by
  simp [State.writeReport]


/-- `answer` changes orh alone. -/
@[simp] theorem State.answer_frame (s : State) (m : Manner) (code : Option Nat) (arrival : Date) (content : ReplyContent) :
    (s.answer m code arrival content).pins = s.pins ∧ (s.answer m code arrival content).liu = s.liu ∧
      (s.answer m code arrival content).dtu = s.dtu ∧ (s.answer m code arrival content).tbu = s.tbu ∧
      (s.answer m code arrival content).lys = s.lys ∧ (s.answer m code arrival content).mvs = s.mvs ∧
      (s.answer m code arrival content).psd = s.psd ∧ (s.answer m code arrival content).ttc = s.ttc ∧
      (s.answer m code arrival content).evj = s.evj ∧ (s.answer m code arrival content).cld = s.cld ∧
      (s.answer m code arrival content).clk = s.clk ∧ (s.answer m code arrival content).pending = s.pending := by
  unfold State.answer; split <;> simp


/-- `refuse` changes orh alone. -/
@[simp] theorem State.refuse_frame (s : State) (m : Manner) (code : Nat) (arrival : Date) (reason : RefusalReason) :
    (s.refuse m code arrival reason).pins = s.pins ∧ (s.refuse m code arrival reason).liu = s.liu ∧
      (s.refuse m code arrival reason).dtu = s.dtu ∧ (s.refuse m code arrival reason).tbu = s.tbu ∧
      (s.refuse m code arrival reason).lys = s.lys ∧ (s.refuse m code arrival reason).mvs = s.mvs ∧
      (s.refuse m code arrival reason).psd = s.psd ∧ (s.refuse m code arrival reason).ttc = s.ttc ∧
      (s.refuse m code arrival reason).evj = s.evj ∧ (s.refuse m code arrival reason).cld = s.cld ∧
      (s.refuse m code arrival reason).clk = s.clk ∧ (s.refuse m code arrival reason).pending = s.pending := by
  simp [State.refuse]


/-- `endTurn` changes liu alone. -/
@[simp] theorem State.endTurn_frame (s : State) :
    s.endTurn.pins = s.pins ∧ s.endTurn.dtu = s.dtu ∧ s.endTurn.tbu = s.tbu ∧ s.endTurn.lys = s.lys ∧
      s.endTurn.mvs = s.mvs ∧ s.endTurn.psd = s.psd ∧ s.endTurn.ttc = s.ttc ∧ s.endTurn.evj = s.evj ∧ s.endTurn.cld = s.cld ∧
      s.endTurn.orh = s.orh ∧ s.endTurn.clk = s.clk ∧ s.endTurn.pending = s.pending := by
  simp [State.endTurn]


end Sys2Proof.Machine
end

