-- ==== Sys2Proof/Laws/FrameClockLines.lean ====
section
/-! SUPPORT. What each shared operation of Machine/ClockLines.lean leaves unchanged, block by block. -/

namespace Sys2Proof.Machine

/-- A line is driven just while an impulse is in flight, in its polarity (R166, R172). -/
theorem State.output_eq_some_iff (s : State) (l : ClockLineName) (p : Polarity) :
    s.output l = some p ↔ ∃ i, (s.line l).flight = some i ∧ i.polarity = p := by
  simp [State.output, ClockLine.drive]

/-- `startLine` changes cld alone. -/
@[simp] theorem State.startLine_frame (s : State) (l : ClockLineName) :
    (s.startLine l).pins = s.pins ∧ (s.startLine l).liu = s.liu ∧ (s.startLine l).dtu = s.dtu ∧
      (s.startLine l).tbu = s.tbu ∧ (s.startLine l).lys = s.lys ∧ (s.startLine l).mvs = s.mvs ∧ (s.startLine l).psd = s.psd ∧
      (s.startLine l).ttc = s.ttc ∧ (s.startLine l).evj = s.evj ∧ (s.startLine l).orh = s.orh ∧ (s.startLine l).clk = s.clk ∧
      (s.startLine l).pending = s.pending := by
  simp [State.startLine]


/-- `evaluateLine` changes cld, evj alone. -/
@[simp] theorem State.evaluateLine_frame (s : State) (l : ClockLineName) (atBoundary : Bool) :
    (s.evaluateLine l atBoundary).pins = s.pins ∧ (s.evaluateLine l atBoundary).liu = s.liu ∧
      (s.evaluateLine l atBoundary).dtu = s.dtu ∧ (s.evaluateLine l atBoundary).tbu = s.tbu ∧
      (s.evaluateLine l atBoundary).lys = s.lys ∧ (s.evaluateLine l atBoundary).mvs = s.mvs ∧
      (s.evaluateLine l atBoundary).psd = s.psd ∧ (s.evaluateLine l atBoundary).ttc = s.ttc ∧
      (s.evaluateLine l atBoundary).orh = s.orh ∧ (s.evaluateLine l atBoundary).clk = s.clk ∧
      (s.evaluateLine l atBoundary).pending = s.pending := by
  simp only [State.evaluateLine]; split <;> simp


/-- `applySet` changes cld, evj alone. -/
@[simp] theorem State.applySet_frame (s : State) (l : ClockLineName) (held : ClockSet) :
    (s.applySet l held).pins = s.pins ∧ (s.applySet l held).liu = s.liu ∧ (s.applySet l held).dtu = s.dtu ∧
      (s.applySet l held).tbu = s.tbu ∧ (s.applySet l held).lys = s.lys ∧ (s.applySet l held).mvs = s.mvs ∧
      (s.applySet l held).psd = s.psd ∧ (s.applySet l held).ttc = s.ttc ∧ (s.applySet l held).orh = s.orh ∧
      (s.applySet l held).clk = s.clk ∧ (s.applySet l held).pending = s.pending := by
  unfold State.applySet; split <;> simp


/-- `applyPendingSet` changes cld, evj alone. -/
@[simp] theorem State.applyPendingSet_frame (s : State) (l : ClockLineName) :
    (s.applyPendingSet l).pins = s.pins ∧ (s.applyPendingSet l).liu = s.liu ∧ (s.applyPendingSet l).dtu = s.dtu ∧
      (s.applyPendingSet l).tbu = s.tbu ∧ (s.applyPendingSet l).lys = s.lys ∧ (s.applyPendingSet l).mvs = s.mvs ∧
      (s.applyPendingSet l).psd = s.psd ∧ (s.applyPendingSet l).ttc = s.ttc ∧ (s.applyPendingSet l).orh = s.orh ∧
      (s.applyPendingSet l).clk = s.clk ∧ (s.applyPendingSet l).pending = s.pending := by
  unfold State.applyPendingSet; split <;> simp


/-- `takeSet` changes cld, evj alone. -/
@[simp] theorem State.takeSet_frame (s : State) (l : ClockLineName) (set : ClockSet) :
    (s.takeSet l set).pins = s.pins ∧ (s.takeSet l set).liu = s.liu ∧ (s.takeSet l set).dtu = s.dtu ∧
      (s.takeSet l set).tbu = s.tbu ∧ (s.takeSet l set).lys = s.lys ∧ (s.takeSet l set).mvs = s.mvs ∧
      (s.takeSet l set).psd = s.psd ∧ (s.takeSet l set).ttc = s.ttc ∧ (s.takeSet l set).orh = s.orh ∧
      (s.takeSet l set).clk = s.clk ∧ (s.takeSet l set).pending = s.pending := by
  unfold State.takeSet; split <;> simp


/-- `normalOk` changes cld, evj alone. -/
@[simp] theorem State.normalOk_frame (s : State) (l : ClockLineName) :
    (s.normalOk l).pins = s.pins ∧ (s.normalOk l).liu = s.liu ∧ (s.normalOk l).dtu = s.dtu ∧ (s.normalOk l).tbu = s.tbu ∧
      (s.normalOk l).lys = s.lys ∧ (s.normalOk l).mvs = s.mvs ∧ (s.normalOk l).psd = s.psd ∧ (s.normalOk l).ttc = s.ttc ∧
      (s.normalOk l).orh = s.orh ∧ (s.normalOk l).clk = s.clk ∧ (s.normalOk l).pending = s.pending := by
  simp only [State.normalOk]; split <;> simp


/-- `normalFailed` changes cld, evj, orh alone. -/
@[simp] theorem State.normalFailed_frame (s : State) (l : ClockLineName) (sense : Sense) :
    (s.normalFailed l sense).pins = s.pins ∧ (s.normalFailed l sense).liu = s.liu ∧ (s.normalFailed l sense).dtu = s.dtu ∧
      (s.normalFailed l sense).tbu = s.tbu ∧ (s.normalFailed l sense).lys = s.lys ∧ (s.normalFailed l sense).mvs = s.mvs ∧
      (s.normalFailed l sense).psd = s.psd ∧ (s.normalFailed l sense).ttc = s.ttc ∧ (s.normalFailed l sense).clk = s.clk ∧
      (s.normalFailed l sense).pending = s.pending := by
  simp [State.normalFailed]


/-- `probeOk` changes cld, evj, orh alone. -/
@[simp] theorem State.probeOk_frame (s : State) (l : ClockLineName) :
    (s.probeOk l).pins = s.pins ∧ (s.probeOk l).liu = s.liu ∧ (s.probeOk l).dtu = s.dtu ∧ (s.probeOk l).tbu = s.tbu ∧
      (s.probeOk l).lys = s.lys ∧ (s.probeOk l).mvs = s.mvs ∧ (s.probeOk l).psd = s.psd ∧ (s.probeOk l).ttc = s.ttc ∧
      (s.probeOk l).clk = s.clk ∧ (s.probeOk l).pending = s.pending := by
  simp only [State.probeOk]; split <;> simp


/-- `probeFailed` changes cld, evj alone. -/
@[simp] theorem State.probeFailed_frame (s : State) (l : ClockLineName) :
    (s.probeFailed l).pins = s.pins ∧ (s.probeFailed l).liu = s.liu ∧ (s.probeFailed l).dtu = s.dtu ∧
      (s.probeFailed l).tbu = s.tbu ∧ (s.probeFailed l).lys = s.lys ∧ (s.probeFailed l).mvs = s.mvs ∧
      (s.probeFailed l).psd = s.psd ∧ (s.probeFailed l).ttc = s.ttc ∧ (s.probeFailed l).orh = s.orh ∧
      (s.probeFailed l).clk = s.clk ∧ (s.probeFailed l).pending = s.pending := by
  simp [State.probeFailed]


/-- `completeImpulse` changes cld, evj, orh alone. -/
@[simp] theorem State.completeImpulse_frame (s : State) (l : ClockLineName) (impulse : Impulse) (sense : Sense) :
    (s.completeImpulse l impulse sense).pins = s.pins ∧ (s.completeImpulse l impulse sense).liu = s.liu ∧
      (s.completeImpulse l impulse sense).dtu = s.dtu ∧ (s.completeImpulse l impulse sense).tbu = s.tbu ∧
      (s.completeImpulse l impulse sense).lys = s.lys ∧ (s.completeImpulse l impulse sense).mvs = s.mvs ∧
      (s.completeImpulse l impulse sense).psd = s.psd ∧ (s.completeImpulse l impulse sense).ttc = s.ttc ∧
      (s.completeImpulse l impulse sense).clk = s.clk ∧ (s.completeImpulse l impulse sense).pending = s.pending := by
  unfold State.completeImpulse; split <;> simp


/-- `announceToLine` changes cld, evj alone. -/
@[simp] theorem State.announceToLine_frame (s : State) (l : ClockLineName) :
    (s.announceToLine l).pins = s.pins ∧ (s.announceToLine l).liu = s.liu ∧ (s.announceToLine l).dtu = s.dtu ∧
      (s.announceToLine l).tbu = s.tbu ∧ (s.announceToLine l).lys = s.lys ∧ (s.announceToLine l).mvs = s.mvs ∧
      (s.announceToLine l).psd = s.psd ∧ (s.announceToLine l).ttc = s.ttc ∧ (s.announceToLine l).orh = s.orh ∧
      (s.announceToLine l).clk = s.clk ∧ (s.announceToLine l).pending = s.pending := by
  unfold State.announceToLine; split <;> simp


/-- `announceToLines` changes cld, evj, clk alone. -/
@[simp] theorem State.announceToLines_frame (s : State) :
    s.announceToLines.pins = s.pins ∧ s.announceToLines.liu = s.liu ∧ s.announceToLines.dtu = s.dtu ∧
      s.announceToLines.tbu = s.tbu ∧ s.announceToLines.lys = s.lys ∧ s.announceToLines.mvs = s.mvs ∧
      s.announceToLines.psd = s.psd ∧ s.announceToLines.ttc = s.ttc ∧ s.announceToLines.orh = s.orh ∧
      s.announceToLines.pending = s.pending := by
  unfold State.announceToLines; (repeat' split) <;> simp


/-- `takeBoundary` changes clk alone. -/
@[simp] theorem State.takeBoundary_frame (s : State) (l : ClockLineName) :
    (s.takeBoundary l).pins = s.pins ∧ (s.takeBoundary l).liu = s.liu ∧ (s.takeBoundary l).dtu = s.dtu ∧
      (s.takeBoundary l).tbu = s.tbu ∧ (s.takeBoundary l).lys = s.lys ∧ (s.takeBoundary l).mvs = s.mvs ∧
      (s.takeBoundary l).psd = s.psd ∧ (s.takeBoundary l).ttc = s.ttc ∧ (s.takeBoundary l).evj = s.evj ∧
      (s.takeBoundary l).cld = s.cld ∧ (s.takeBoundary l).orh = s.orh ∧ (s.takeBoundary l).pending = s.pending := by
  cases l <;> simp [State.takeBoundary]


/-- `orderSetRun` changes cld, evj, orh alone. -/
@[simp] theorem State.orderSetRun_frame (s : State) (m : Manner) (c : Capture) (line interval shown polarity : Nat) :
    (s.orderSetRun m c line interval shown polarity).pins = s.pins ∧
      (s.orderSetRun m c line interval shown polarity).liu = s.liu ∧
      (s.orderSetRun m c line interval shown polarity).dtu = s.dtu ∧
      (s.orderSetRun m c line interval shown polarity).tbu = s.tbu ∧
      (s.orderSetRun m c line interval shown polarity).lys = s.lys ∧
      (s.orderSetRun m c line interval shown polarity).mvs = s.mvs ∧
      (s.orderSetRun m c line interval shown polarity).psd = s.psd ∧
      (s.orderSetRun m c line interval shown polarity).ttc = s.ttc ∧
      (s.orderSetRun m c line interval shown polarity).clk = s.clk ∧
      (s.orderSetRun m c line interval shown polarity).pending = s.pending := by
  unfold State.orderSetRun; (repeat' split) <;> simp


/-- `orderSetStop` changes cld, evj, orh alone. -/
@[simp] theorem State.orderSetStop_frame (s : State) (m : Manner) (c : Capture) (line : Nat) :
    (s.orderSetStop m c line).pins = s.pins ∧ (s.orderSetStop m c line).liu = s.liu ∧
      (s.orderSetStop m c line).dtu = s.dtu ∧ (s.orderSetStop m c line).tbu = s.tbu ∧ (s.orderSetStop m c line).lys = s.lys ∧
      (s.orderSetStop m c line).mvs = s.mvs ∧ (s.orderSetStop m c line).psd = s.psd ∧ (s.orderSetStop m c line).ttc = s.ttc ∧
      (s.orderSetStop m c line).clk = s.clk ∧ (s.orderSetStop m c line).pending = s.pending := by
  unfold State.orderSetStop; split <;> simp


end Sys2Proof.Machine
end

