-- ==== Sys2Proof/Laws/FrameTimetable.lean ====
section
/-! SUPPORT. What each shared operation of Machine/Timetable.lean leaves unchanged, block by block. -/

namespace Sys2Proof.Machine

/-- `matchPassing` changes evj, ttc, orh alone. -/
@[simp] theorem State.matchPassing_frame (s : State) (x : PassingItems) (c : Candidate) :
    (s.matchPassing x c).pins = s.pins ∧ (s.matchPassing x c).liu = s.liu ∧ (s.matchPassing x c).dtu = s.dtu ∧
      (s.matchPassing x c).tbu = s.tbu ∧ (s.matchPassing x c).lys = s.lys ∧ (s.matchPassing x c).mvs = s.mvs ∧
      (s.matchPassing x c).psd = s.psd ∧ (s.matchPassing x c).cld = s.cld ∧ (s.matchPassing x c).clk = s.clk ∧
      (s.matchPassing x c).pending = s.pending := by
  simp only [State.matchPassing]; split <;> simp


/-- `unbookedPassing` changes evj, orh alone. -/
@[simp] theorem State.unbookedPassing_frame (s : State) (x : PassingItems) (reason : UnbookedReason) :
    (s.unbookedPassing x reason).pins = s.pins ∧ (s.unbookedPassing x reason).liu = s.liu ∧
      (s.unbookedPassing x reason).dtu = s.dtu ∧ (s.unbookedPassing x reason).tbu = s.tbu ∧
      (s.unbookedPassing x reason).lys = s.lys ∧ (s.unbookedPassing x reason).mvs = s.mvs ∧
      (s.unbookedPassing x reason).psd = s.psd ∧ (s.unbookedPassing x reason).ttc = s.ttc ∧
      (s.unbookedPassing x reason).cld = s.cld ∧ (s.unbookedPassing x reason).clk = s.clk ∧
      (s.unbookedPassing x reason).pending = s.pending := by
  simp [State.unbookedPassing]


/-- `judgePassing` changes evj, ttc, orh alone. -/
@[simp] theorem State.judgePassing_frame (s : State) (x : PassingItems) :
    (s.judgePassing x).pins = s.pins ∧ (s.judgePassing x).liu = s.liu ∧ (s.judgePassing x).dtu = s.dtu ∧
      (s.judgePassing x).tbu = s.tbu ∧ (s.judgePassing x).lys = s.lys ∧ (s.judgePassing x).mvs = s.mvs ∧
      (s.judgePassing x).psd = s.psd ∧ (s.judgePassing x).cld = s.cld ∧ (s.judgePassing x).clk = s.clk ∧
      (s.judgePassing x).pending = s.pending := by
  unfold State.judgePassing; (repeat' split) <;> simp


/-- `missEntry` changes evj, ttc, orh alone. -/
@[simp] theorem State.missEntry_frame (s : State) (w : PlaneName) (day : Int) (i : Nat) (slot : Option Nat) (e : TimetableEntry) :
    (s.missEntry w day i slot e).pins = s.pins ∧ (s.missEntry w day i slot e).liu = s.liu ∧
      (s.missEntry w day i slot e).dtu = s.dtu ∧ (s.missEntry w day i slot e).tbu = s.tbu ∧
      (s.missEntry w day i slot e).lys = s.lys ∧ (s.missEntry w day i slot e).mvs = s.mvs ∧
      (s.missEntry w day i slot e).psd = s.psd ∧ (s.missEntry w day i slot e).cld = s.cld ∧
      (s.missEntry w day i slot e).clk = s.clk ∧ (s.missEntry w day i slot e).pending = s.pending := by
  simp [State.missEntry]


/-- `sweepBase` changes evj, ttc, orh alone. -/
@[simp] theorem State.sweepBase_frame (s : State) (w : PlaneName) (fuel : Nat) :
    (s.sweepBase w fuel).pins = s.pins ∧ (s.sweepBase w fuel).liu = s.liu ∧ (s.sweepBase w fuel).dtu = s.dtu ∧
      (s.sweepBase w fuel).tbu = s.tbu ∧ (s.sweepBase w fuel).lys = s.lys ∧ (s.sweepBase w fuel).mvs = s.mvs ∧
      (s.sweepBase w fuel).psd = s.psd ∧ (s.sweepBase w fuel).cld = s.cld ∧ (s.sweepBase w fuel).clk = s.clk ∧
      (s.sweepBase w fuel).pending = s.pending := by
  induction fuel generalizing s with
  | zero => simp [State.sweepBase]
  | succ fuel ih =>
    unfold State.sweepBase
    (repeat' split) <;> simp [ih]


/-- `scanSlot` changes evj, ttc, orh alone. -/
@[simp] theorem State.scanSlot_frame (s : State) (k : Nat) (w : PlaneName) :
    (s.scanSlot k w).pins = s.pins ∧ (s.scanSlot k w).liu = s.liu ∧ (s.scanSlot k w).dtu = s.dtu ∧
      (s.scanSlot k w).tbu = s.tbu ∧ (s.scanSlot k w).lys = s.lys ∧ (s.scanSlot k w).mvs = s.mvs ∧
      (s.scanSlot k w).psd = s.psd ∧ (s.scanSlot k w).cld = s.cld ∧ (s.scanSlot k w).clk = s.clk ∧
      (s.scanSlot k w).pending = s.pending := by
  simp only [State.scanSlot]; (repeat' split) <;> simp


/-- `scanSlots` changes evj, ttc, orh alone. -/
@[simp] theorem State.scanSlots_frame (s : State) (planes : List PlaneName) :
    (s.scanSlots planes).pins = s.pins ∧ (s.scanSlots planes).liu = s.liu ∧ (s.scanSlots planes).dtu = s.dtu ∧
      (s.scanSlots planes).tbu = s.tbu ∧ (s.scanSlots planes).lys = s.lys ∧ (s.scanSlots planes).mvs = s.mvs ∧
      (s.scanSlots planes).psd = s.psd ∧ (s.scanSlots planes).cld = s.cld ∧ (s.scanSlots planes).clk = s.clk ∧
      (s.scanSlots planes).pending = s.pending := by
  simp [State.scanSlots, foldl_keeps]


/-- `sweepPlanes` changes evj, ttc, orh alone. -/
@[simp] theorem State.sweepPlanes_frame (s : State) :
    s.sweepPlanes.pins = s.pins ∧ s.sweepPlanes.liu = s.liu ∧ s.sweepPlanes.dtu = s.dtu ∧ s.sweepPlanes.tbu = s.tbu ∧
      s.sweepPlanes.lys = s.lys ∧ s.sweepPlanes.mvs = s.mvs ∧ s.sweepPlanes.psd = s.psd ∧ s.sweepPlanes.cld = s.cld ∧
      s.sweepPlanes.clk = s.clk ∧ s.sweepPlanes.pending = s.pending := by
  simp [State.sweepPlanes]


/-- `rollOver` changes evj, ttc, orh alone. -/
@[simp] theorem State.rollOver_frame (s : State) (p : Planes) :
    (s.rollOver p).pins = s.pins ∧ (s.rollOver p).liu = s.liu ∧ (s.rollOver p).dtu = s.dtu ∧ (s.rollOver p).tbu = s.tbu ∧
      (s.rollOver p).lys = s.lys ∧ (s.rollOver p).mvs = s.mvs ∧ (s.rollOver p).psd = s.psd ∧ (s.rollOver p).cld = s.cld ∧
      (s.rollOver p).clk = s.clk ∧ (s.rollOver p).pending = s.pending := by
  simp [State.rollOver]


/-- `rollOverIfDue` changes evj, ttc, orh alone. -/
@[simp] theorem State.rollOverIfDue_frame (s : State) :
    s.rollOverIfDue.pins = s.pins ∧ s.rollOverIfDue.liu = s.liu ∧ s.rollOverIfDue.dtu = s.dtu ∧
      s.rollOverIfDue.tbu = s.tbu ∧ s.rollOverIfDue.lys = s.lys ∧ s.rollOverIfDue.mvs = s.mvs ∧ s.rollOverIfDue.psd = s.psd ∧
      s.rollOverIfDue.cld = s.cld ∧ s.rollOverIfDue.clk = s.clk ∧ s.rollOverIfDue.pending = s.pending := by
  unfold State.rollOverIfDue; (repeat' split) <;> simp


/-- `sweepEvent` changes evj, ttc, orh alone. -/
@[simp] theorem State.sweepEvent_frame (s : State) :
    s.sweepEvent.pins = s.pins ∧ s.sweepEvent.liu = s.liu ∧ s.sweepEvent.dtu = s.dtu ∧ s.sweepEvent.tbu = s.tbu ∧
      s.sweepEvent.lys = s.lys ∧ s.sweepEvent.mvs = s.mvs ∧ s.sweepEvent.psd = s.psd ∧ s.sweepEvent.cld = s.cld ∧
      s.sweepEvent.clk = s.clk ∧ s.sweepEvent.pending = s.pending := by
  unfold State.sweepEvent; split <;> simp


/-- `remakePlanes` changes evj, ttc alone. -/
@[simp] theorem State.remakePlanes_frame (s : State) (cause : ResetCause) :
    (s.remakePlanes cause).pins = s.pins ∧ (s.remakePlanes cause).liu = s.liu ∧ (s.remakePlanes cause).dtu = s.dtu ∧
      (s.remakePlanes cause).tbu = s.tbu ∧ (s.remakePlanes cause).lys = s.lys ∧ (s.remakePlanes cause).mvs = s.mvs ∧
      (s.remakePlanes cause).psd = s.psd ∧ (s.remakePlanes cause).cld = s.cld ∧ (s.remakePlanes cause).orh = s.orh ∧
      (s.remakePlanes cause).clk = s.clk ∧ (s.remakePlanes cause).pending = s.pending := by
  simp [State.remakePlanes]


/-- `announceToTtc` changes evj, ttc, orh alone. -/
@[simp] theorem State.announceToTtc_frame (s : State) (a : Announcement) :
    (s.announceToTtc a).pins = s.pins ∧ (s.announceToTtc a).liu = s.liu ∧ (s.announceToTtc a).dtu = s.dtu ∧
      (s.announceToTtc a).tbu = s.tbu ∧ (s.announceToTtc a).lys = s.lys ∧ (s.announceToTtc a).mvs = s.mvs ∧
      (s.announceToTtc a).psd = s.psd ∧ (s.announceToTtc a).cld = s.cld ∧ (s.announceToTtc a).clk = s.clk ∧
      (s.announceToTtc a).pending = s.pending := by
  unfold State.announceToTtc; (repeat' split) <;> simp


/-- `releaseTarget` changes ttc alone. -/
@[simp] theorem State.releaseTarget_frame (s : State) (target : Nat) :
    (s.releaseTarget target).pins = s.pins ∧ (s.releaseTarget target).liu = s.liu ∧ (s.releaseTarget target).dtu = s.dtu ∧
      (s.releaseTarget target).tbu = s.tbu ∧ (s.releaseTarget target).lys = s.lys ∧ (s.releaseTarget target).mvs = s.mvs ∧
      (s.releaseTarget target).psd = s.psd ∧ (s.releaseTarget target).evj = s.evj ∧ (s.releaseTarget target).cld = s.cld ∧
      (s.releaseTarget target).orh = s.orh ∧ (s.releaseTarget target).clk = s.clk ∧
      (s.releaseTarget target).pending = s.pending := by
  unfold State.releaseTarget; split <;> simp


/-- `clearSlot` changes ttc alone. -/
@[simp] theorem State.clearSlot_frame (s : State) (k : Nat) :
    (s.clearSlot k).pins = s.pins ∧ (s.clearSlot k).liu = s.liu ∧ (s.clearSlot k).dtu = s.dtu ∧
      (s.clearSlot k).tbu = s.tbu ∧ (s.clearSlot k).lys = s.lys ∧ (s.clearSlot k).mvs = s.mvs ∧ (s.clearSlot k).psd = s.psd ∧
      (s.clearSlot k).evj = s.evj ∧ (s.clearSlot k).cld = s.cld ∧ (s.clearSlot k).orh = s.orh ∧ (s.clearSlot k).clk = s.clk ∧
      (s.clearSlot k).pending = s.pending := by
  unfold State.clearSlot; split <;> simp


/-- `orderOverlayClear` changes ttc, orh alone. -/
@[simp] theorem State.orderOverlayClear_frame (s : State) (m : Manner) (c : Capture) (k : Nat) :
    (s.orderOverlayClear m c k).pins = s.pins ∧ (s.orderOverlayClear m c k).liu = s.liu ∧
      (s.orderOverlayClear m c k).dtu = s.dtu ∧ (s.orderOverlayClear m c k).tbu = s.tbu ∧
      (s.orderOverlayClear m c k).lys = s.lys ∧ (s.orderOverlayClear m c k).mvs = s.mvs ∧
      (s.orderOverlayClear m c k).psd = s.psd ∧ (s.orderOverlayClear m c k).evj = s.evj ∧
      (s.orderOverlayClear m c k).cld = s.cld ∧ (s.orderOverlayClear m c k).clk = s.clk ∧
      (s.orderOverlayClear m c k).pending = s.pending := by
  unfold State.orderOverlayClear; split <;> simp


/-- `writeSlot` changes ttc alone. -/
@[simp] theorem State.writeSlot_frame (s : State) (k target : Nat) (action : OverlayAction) :
    (s.writeSlot k target action).pins = s.pins ∧ (s.writeSlot k target action).liu = s.liu ∧
      (s.writeSlot k target action).dtu = s.dtu ∧ (s.writeSlot k target action).tbu = s.tbu ∧
      (s.writeSlot k target action).lys = s.lys ∧ (s.writeSlot k target action).mvs = s.mvs ∧
      (s.writeSlot k target action).psd = s.psd ∧ (s.writeSlot k target action).evj = s.evj ∧
      (s.writeSlot k target action).cld = s.cld ∧ (s.writeSlot k target action).orh = s.orh ∧
      (s.writeSlot k target action).clk = s.clk ∧ (s.writeSlot k target action).pending = s.pending := by
  unfold State.writeSlot; (repeat' split) <;> simp


/-- `orderOverlayWrite` changes ttc, orh alone. -/
@[simp] theorem State.orderOverlayWrite_frame (s : State) (m : Manner) (c : Capture) (k target action : Nat) (train : TrainNumber) (point booked mask : Nat) :
    (s.orderOverlayWrite m c k target action train point booked mask).pins = s.pins ∧
      (s.orderOverlayWrite m c k target action train point booked mask).liu = s.liu ∧
      (s.orderOverlayWrite m c k target action train point booked mask).dtu = s.dtu ∧
      (s.orderOverlayWrite m c k target action train point booked mask).tbu = s.tbu ∧
      (s.orderOverlayWrite m c k target action train point booked mask).lys = s.lys ∧
      (s.orderOverlayWrite m c k target action train point booked mask).mvs = s.mvs ∧
      (s.orderOverlayWrite m c k target action train point booked mask).psd = s.psd ∧
      (s.orderOverlayWrite m c k target action train point booked mask).evj = s.evj ∧
      (s.orderOverlayWrite m c k target action train point booked mask).cld = s.cld ∧
      (s.orderOverlayWrite m c k target action train point booked mask).clk = s.clk ∧
      (s.orderOverlayWrite m c k target action train point booked mask).pending = s.pending := by
  unfold State.orderOverlayWrite; (repeat' split) <;> simp


/-- `orderTimetableWrite` changes ttc, orh alone. -/
@[simp] theorem State.orderTimetableWrite_frame (s : State) (m : Manner) (c : Capture) (first count : Nat) (entries : List RawEntry) :
    (s.orderTimetableWrite m c first count entries).pins = s.pins ∧
      (s.orderTimetableWrite m c first count entries).liu = s.liu ∧
      (s.orderTimetableWrite m c first count entries).dtu = s.dtu ∧
      (s.orderTimetableWrite m c first count entries).tbu = s.tbu ∧
      (s.orderTimetableWrite m c first count entries).lys = s.lys ∧
      (s.orderTimetableWrite m c first count entries).mvs = s.mvs ∧
      (s.orderTimetableWrite m c first count entries).psd = s.psd ∧
      (s.orderTimetableWrite m c first count entries).evj = s.evj ∧
      (s.orderTimetableWrite m c first count entries).cld = s.cld ∧
      (s.orderTimetableWrite m c first count entries).clk = s.clk ∧
      (s.orderTimetableWrite m c first count entries).pending = s.pending := by
  unfold State.orderTimetableWrite; (repeat' split) <;> simp


/-- `applyTimetable` changes ttc, evj alone. -/
@[simp] theorem State.applyTimetable_frame (s : State) :
    s.applyTimetable.pins = s.pins ∧ s.applyTimetable.liu = s.liu ∧ s.applyTimetable.dtu = s.dtu ∧
      s.applyTimetable.tbu = s.tbu ∧ s.applyTimetable.lys = s.lys ∧ s.applyTimetable.mvs = s.mvs ∧
      s.applyTimetable.psd = s.psd ∧ s.applyTimetable.cld = s.cld ∧ s.applyTimetable.orh = s.orh ∧
      s.applyTimetable.clk = s.clk ∧ s.applyTimetable.pending = s.pending := by
  unfold State.applyTimetable; split <;> simp


end Sys2Proof.Machine
end

