-- ==== Sys2Proof/Laws/FrameTimeBase.lean ====
section
/-! SUPPORT. What each shared operation of Machine/TimeBase.lean leaves unchanged, block by block. -/

namespace Sys2Proof.Machine

/-- `tick` changes tbu, clk alone. -/
@[simp] theorem State.tick_frame (s : State) :
    s.tick.pins = s.pins ∧ s.tick.liu = s.liu ∧ s.tick.dtu = s.dtu ∧ s.tick.lys = s.lys ∧ s.tick.mvs = s.mvs ∧
      s.tick.psd = s.psd ∧ s.tick.ttc = s.ttc ∧ s.tick.evj = s.evj ∧ s.tick.cld = s.cld ∧ s.tick.orh = s.orh ∧
      s.tick.pending = s.pending := by
  simp [State.tick]


/-- `noteAdjust` changes clk alone. -/
@[simp] theorem State.noteAdjust_frame (s : State) (direction : Int) :
    (s.noteAdjust direction).pins = s.pins ∧ (s.noteAdjust direction).liu = s.liu ∧ (s.noteAdjust direction).dtu = s.dtu ∧
      (s.noteAdjust direction).tbu = s.tbu ∧ (s.noteAdjust direction).lys = s.lys ∧ (s.noteAdjust direction).mvs = s.mvs ∧
      (s.noteAdjust direction).psd = s.psd ∧ (s.noteAdjust direction).ttc = s.ttc ∧ (s.noteAdjust direction).evj = s.evj ∧
      (s.noteAdjust direction).cld = s.cld ∧ (s.noteAdjust direction).orh = s.orh ∧
      (s.noteAdjust direction).pending = s.pending := by
  simp [State.noteAdjust]


/-- `announce` changes ttc, evj, orh, cld, clk alone. -/
@[simp] theorem State.announce_frame (s : State) (a : Announcement) :
    (s.announce a).pins = s.pins ∧ (s.announce a).liu = s.liu ∧ (s.announce a).dtu = s.dtu ∧ (s.announce a).tbu = s.tbu ∧
      (s.announce a).lys = s.lys ∧ (s.announce a).mvs = s.mvs ∧ (s.announce a).psd = s.psd ∧
      (s.announce a).pending = s.pending := by
  simp [State.announce]


/-- `applySeason` changes tbu, evj, orh alone. -/
@[simp] theorem State.applySeason_frame (s : State) (offset minute : Nat) :
    (s.applySeason offset minute).pins = s.pins ∧ (s.applySeason offset minute).liu = s.liu ∧
      (s.applySeason offset minute).dtu = s.dtu ∧ (s.applySeason offset minute).lys = s.lys ∧
      (s.applySeason offset minute).mvs = s.mvs ∧ (s.applySeason offset minute).psd = s.psd ∧
      (s.applySeason offset minute).ttc = s.ttc ∧ (s.applySeason offset minute).cld = s.cld ∧
      (s.applySeason offset minute).clk = s.clk ∧ (s.applySeason offset minute).pending = s.pending := by
  simp [State.applySeason]


/-- `applySeasonIfReached` changes tbu, evj, orh alone. -/
@[simp] theorem State.applySeasonIfReached_frame (s : State) :
    s.applySeasonIfReached.pins = s.pins ∧ s.applySeasonIfReached.liu = s.liu ∧ s.applySeasonIfReached.dtu = s.dtu ∧
      s.applySeasonIfReached.lys = s.lys ∧ s.applySeasonIfReached.mvs = s.mvs ∧ s.applySeasonIfReached.psd = s.psd ∧
      s.applySeasonIfReached.ttc = s.ttc ∧ s.applySeasonIfReached.cld = s.cld ∧ s.applySeasonIfReached.clk = s.clk ∧
      s.applySeasonIfReached.pending = s.pending := by
  unfold State.applySeasonIfReached; (repeat' split) <;> simp


/-- `takeSeason` changes tbu, evj, orh, ttc, cld, clk alone. -/
@[simp] theorem State.takeSeason_frame (s : State) :
    s.takeSeason.pins = s.pins ∧ s.takeSeason.liu = s.liu ∧ s.takeSeason.dtu = s.dtu ∧ s.takeSeason.lys = s.lys ∧
      s.takeSeason.mvs = s.mvs ∧ s.takeSeason.psd = s.psd ∧ s.takeSeason.pending = s.pending := by
  unfold State.takeSeason; split <;> simp


/-- `stepClock` changes tbu, evj, orh alone. -/
@[simp] theorem State.stepClock_frame (s : State) (n : Nat) (e : Int) (labelled : Bool) :
    (s.stepClock n e labelled).pins = s.pins ∧ (s.stepClock n e labelled).liu = s.liu ∧
      (s.stepClock n e labelled).dtu = s.dtu ∧ (s.stepClock n e labelled).lys = s.lys ∧
      (s.stepClock n e labelled).mvs = s.mvs ∧ (s.stepClock n e labelled).psd = s.psd ∧
      (s.stepClock n e labelled).ttc = s.ttc ∧ (s.stepClock n e labelled).cld = s.cld ∧
      (s.stepClock n e labelled).clk = s.clk ∧ (s.stepClock n e labelled).pending = s.pending := by
  simp [State.stepClock]


/-- `stepMark` changes tbu, evj, orh, ttc, cld, clk alone. -/
@[simp] theorem State.stepMark_frame (s : State) (n : Nat) (e : Int) (labelled : Bool) :
    (s.stepMark n e labelled).pins = s.pins ∧ (s.stepMark n e labelled).liu = s.liu ∧
      (s.stepMark n e labelled).dtu = s.dtu ∧ (s.stepMark n e labelled).lys = s.lys ∧ (s.stepMark n e labelled).mvs = s.mvs ∧
      (s.stepMark n e labelled).psd = s.psd ∧ (s.stepMark n e labelled).pending = s.pending := by
  simp [State.stepMark]


/-- `slewMark` changes tbu, evj alone. -/
@[simp] theorem State.slewMark_frame (s : State) (e : Int) :
    (s.slewMark e).pins = s.pins ∧ (s.slewMark e).liu = s.liu ∧ (s.slewMark e).dtu = s.dtu ∧ (s.slewMark e).lys = s.lys ∧
      (s.slewMark e).mvs = s.mvs ∧ (s.slewMark e).psd = s.psd ∧ (s.slewMark e).ttc = s.ttc ∧ (s.slewMark e).cld = s.cld ∧
      (s.slewMark e).orh = s.orh ∧ (s.slewMark e).clk = s.clk ∧ (s.slewMark e).pending = s.pending := by
  simp only [State.slewMark]; split <;> simp


/-- `rejectMark` changes tbu, evj alone. -/
@[simp] theorem State.rejectMark_frame (s : State) (n : Nat) (e : Int) (labelled : Bool) :
    (s.rejectMark n e labelled).pins = s.pins ∧ (s.rejectMark n e labelled).liu = s.liu ∧
      (s.rejectMark n e labelled).dtu = s.dtu ∧ (s.rejectMark n e labelled).lys = s.lys ∧
      (s.rejectMark n e labelled).mvs = s.mvs ∧ (s.rejectMark n e labelled).psd = s.psd ∧
      (s.rejectMark n e labelled).ttc = s.ttc ∧ (s.rejectMark n e labelled).cld = s.cld ∧
      (s.rejectMark n e labelled).orh = s.orh ∧ (s.rejectMark n e labelled).clk = s.clk ∧
      (s.rejectMark n e labelled).pending = s.pending := by
  simp [State.rejectMark]


/-- `actOnMark` changes tbu, evj, orh, ttc, cld, clk alone. -/
@[simp] theorem State.actOnMark_frame (s : State) (n : Nat) (labelled : Bool) :
    (s.actOnMark n labelled).pins = s.pins ∧ (s.actOnMark n labelled).liu = s.liu ∧ (s.actOnMark n labelled).dtu = s.dtu ∧
      (s.actOnMark n labelled).lys = s.lys ∧ (s.actOnMark n labelled).mvs = s.mvs ∧ (s.actOnMark n labelled).psd = s.psd ∧
      (s.actOnMark n labelled).pending = s.pending := by
  simp only [State.actOnMark]; (repeat' split) <;> simp


/-- `takeMark` changes tbu, evj, orh, ttc, cld, clk alone. -/
@[simp] theorem State.takeMark_frame (s : State) :
    s.takeMark.pins = s.pins ∧ s.takeMark.liu = s.liu ∧ s.takeMark.dtu = s.dtu ∧ s.takeMark.lys = s.lys ∧
      s.takeMark.mvs = s.mvs ∧ s.takeMark.psd = s.psd ∧ s.takeMark.pending = s.pending := by
  unfold State.takeMark; (repeat' split) <;> simp


/-- `takeHoldoverLimit` changes tbu, evj, orh alone. -/
@[simp] theorem State.takeHoldoverLimit_frame (s : State) :
    s.takeHoldoverLimit.pins = s.pins ∧ s.takeHoldoverLimit.liu = s.liu ∧ s.takeHoldoverLimit.dtu = s.dtu ∧
      s.takeHoldoverLimit.lys = s.lys ∧ s.takeHoldoverLimit.mvs = s.mvs ∧ s.takeHoldoverLimit.psd = s.psd ∧
      s.takeHoldoverLimit.ttc = s.ttc ∧ s.takeHoldoverLimit.cld = s.cld ∧ s.takeHoldoverLimit.clk = s.clk ∧
      s.takeHoldoverLimit.pending = s.pending := by
  unfold State.takeHoldoverLimit; split <;> simp


/-- `orderTimeMark` changes tbu, orh alone. -/
@[simp] theorem State.orderTimeMark_frame (s : State) (m : Manner) (c : Capture) (second : Nat) :
    (s.orderTimeMark m c second).pins = s.pins ∧ (s.orderTimeMark m c second).liu = s.liu ∧
      (s.orderTimeMark m c second).dtu = s.dtu ∧ (s.orderTimeMark m c second).lys = s.lys ∧
      (s.orderTimeMark m c second).mvs = s.mvs ∧ (s.orderTimeMark m c second).psd = s.psd ∧
      (s.orderTimeMark m c second).ttc = s.ttc ∧ (s.orderTimeMark m c second).evj = s.evj ∧
      (s.orderTimeMark m c second).cld = s.cld ∧ (s.orderTimeMark m c second).clk = s.clk ∧
      (s.orderTimeMark m c second).pending = s.pending := by
  unfold State.orderTimeMark; split <;> simp


/-- `setTime` changes tbu, evj, orh, ttc, cld, clk alone. -/
@[simp] theorem State.setTime_frame (s : State) (ms offset : Nat) :
    (s.setTime ms offset).pins = s.pins ∧ (s.setTime ms offset).liu = s.liu ∧ (s.setTime ms offset).dtu = s.dtu ∧
      (s.setTime ms offset).lys = s.lys ∧ (s.setTime ms offset).mvs = s.mvs ∧ (s.setTime ms offset).psd = s.psd ∧
      (s.setTime ms offset).pending = s.pending := by
  simp [State.setTime]


/-- `orderTimeSet` changes tbu, evj, orh, ttc, cld, clk alone. -/
@[simp] theorem State.orderTimeSet_frame (s : State) (m : Manner) (c : Capture) (ms offset : Nat) :
    (s.orderTimeSet m c ms offset).pins = s.pins ∧ (s.orderTimeSet m c ms offset).liu = s.liu ∧
      (s.orderTimeSet m c ms offset).dtu = s.dtu ∧ (s.orderTimeSet m c ms offset).lys = s.lys ∧
      (s.orderTimeSet m c ms offset).mvs = s.mvs ∧ (s.orderTimeSet m c ms offset).psd = s.psd ∧
      (s.orderTimeSet m c ms offset).pending = s.pending := by
  unfold State.orderTimeSet; split <;> simp


/-- `orderSeasonChange` changes tbu, evj, orh, ttc, cld, clk alone. -/
@[simp] theorem State.orderSeasonChange_frame (s : State) (m : Manner) (c : Capture) (offset minute : Nat) :
    (s.orderSeasonChange m c offset minute).pins = s.pins ∧ (s.orderSeasonChange m c offset minute).liu = s.liu ∧
      (s.orderSeasonChange m c offset minute).dtu = s.dtu ∧ (s.orderSeasonChange m c offset minute).lys = s.lys ∧
      (s.orderSeasonChange m c offset minute).mvs = s.mvs ∧ (s.orderSeasonChange m c offset minute).psd = s.psd ∧
      (s.orderSeasonChange m c offset minute).pending = s.pending := by
  unfold State.orderSeasonChange; split <;> simp


end Sys2Proof.Machine
end

