-- ==== Sys2Proof/Laws/FrameMovements.lean ====
section
/-! SUPPORT. What each shared operation of Machine/Movements.lean leaves unchanged, block by block. -/

namespace Sys2Proof.Machine

/-- `closeMovement` changes evj, orh, lys, mvs alone. -/
@[simp] theorem State.closeMovement_frame (s : State) (position : Nat) (r : Movement) (outcome : MovementOutcome) (reason : Option AbandonReason) (ending : Instant) (flags : Flags) :
    (s.closeMovement position r outcome reason ending flags).pins = s.pins ∧
      (s.closeMovement position r outcome reason ending flags).liu = s.liu ∧
      (s.closeMovement position r outcome reason ending flags).dtu = s.dtu ∧
      (s.closeMovement position r outcome reason ending flags).tbu = s.tbu ∧
      (s.closeMovement position r outcome reason ending flags).psd = s.psd ∧
      (s.closeMovement position r outcome reason ending flags).ttc = s.ttc ∧
      (s.closeMovement position r outcome reason ending flags).cld = s.cld ∧
      (s.closeMovement position r outcome reason ending flags).clk = s.clk ∧
      (s.closeMovement position r outcome reason ending flags).pending = s.pending := by
  unfold State.closeMovement; split <;> simp


/-- `closeAll` changes evj, orh, lys, mvs alone. -/
@[simp] theorem State.closeAll_frame (s : State) (reason : AbandonReason) (ending : Instant) :
    (s.closeAll reason ending).pins = s.pins ∧ (s.closeAll reason ending).liu = s.liu ∧
      (s.closeAll reason ending).dtu = s.dtu ∧ (s.closeAll reason ending).tbu = s.tbu ∧
      (s.closeAll reason ending).psd = s.psd ∧ (s.closeAll reason ending).ttc = s.ttc ∧
      (s.closeAll reason ending).cld = s.cld ∧ (s.closeAll reason ending).clk = s.clk ∧
      (s.closeAll reason ending).pending = s.pending := by
  refine ⟨?_, ?_, ?_, ?_, ?_, ?_, ?_, ?_, ?_⟩ <;> (unfold State.closeAll; exact foldl_keeps _ _ (fun a b => by (repeat' split) <;> simp) _ _)


/-- `unsupervised` changes evj, orh alone. -/
@[simp] theorem State.unsupervised_frame (s : State) (index : Nat) (e : LiveElement) (target : Nat) (arrival : Instant) (reason : UnsupervisedReason) :
    (s.unsupervised index e target arrival reason).pins = s.pins ∧
      (s.unsupervised index e target arrival reason).liu = s.liu ∧
      (s.unsupervised index e target arrival reason).dtu = s.dtu ∧
      (s.unsupervised index e target arrival reason).tbu = s.tbu ∧
      (s.unsupervised index e target arrival reason).lys = s.lys ∧
      (s.unsupervised index e target arrival reason).mvs = s.mvs ∧
      (s.unsupervised index e target arrival reason).psd = s.psd ∧
      (s.unsupervised index e target arrival reason).ttc = s.ttc ∧
      (s.unsupervised index e target arrival reason).cld = s.cld ∧
      (s.unsupervised index e target arrival reason).clk = s.clk ∧
      (s.unsupervised index e target arrival reason).pending = s.pending := by
  simp [State.unsupervised]


/-- `openMovement` changes evj, orh, lys, mvs alone. -/
@[simp] theorem State.openMovement_frame (s : State) (index : Nat) (e : LiveElement) (target : Nat) (arrival : Instant) :
    (s.openMovement index e target arrival).pins = s.pins ∧ (s.openMovement index e target arrival).liu = s.liu ∧
      (s.openMovement index e target arrival).dtu = s.dtu ∧ (s.openMovement index e target arrival).tbu = s.tbu ∧
      (s.openMovement index e target arrival).psd = s.psd ∧ (s.openMovement index e target arrival).ttc = s.ttc ∧
      (s.openMovement index e target arrival).cld = s.cld ∧ (s.openMovement index e target arrival).clk = s.clk ∧
      (s.openMovement index e target arrival).pending = s.pending := by
  unfold State.openMovement; (repeat' split) <;> simp


/-- `commandChange` changes evj, orh, lys, mvs alone. -/
@[simp] theorem State.commandChange_frame (s : State) (index : Nat) (target : Nat) (arrival : Instant) :
    (s.commandChange index target arrival).pins = s.pins ∧ (s.commandChange index target arrival).liu = s.liu ∧
      (s.commandChange index target arrival).dtu = s.dtu ∧ (s.commandChange index target arrival).tbu = s.tbu ∧
      (s.commandChange index target arrival).psd = s.psd ∧ (s.commandChange index target arrival).ttc = s.ttc ∧
      (s.commandChange index target arrival).cld = s.cld ∧ (s.commandChange index target arrival).clk = s.clk ∧
      (s.commandChange index target arrival).pending = s.pending := by
  unfold State.commandChange; (repeat' split) <;> simp


/-- `indicationToMvs` changes evj, orh, lys, mvs alone. -/
@[simp] theorem State.indicationToMvs_frame (s : State) (index : Nat) (code : Nat) (event : EventInstant) :
    (s.indicationToMvs index code event).pins = s.pins ∧ (s.indicationToMvs index code event).liu = s.liu ∧
      (s.indicationToMvs index code event).dtu = s.dtu ∧ (s.indicationToMvs index code event).tbu = s.tbu ∧
      (s.indicationToMvs index code event).psd = s.psd ∧ (s.indicationToMvs index code event).ttc = s.ttc ∧
      (s.indicationToMvs index code event).cld = s.cld ∧ (s.indicationToMvs index code event).clk = s.clk ∧
      (s.indicationToMvs index code event).pending = s.pending := by
  unfold State.indicationToMvs; (repeat' split) <;> simp


/-- `takeLimit` changes evj, orh, mvs alone. -/
@[simp] theorem State.takeLimit_frame (s : State) (position : Nat) (r : Movement) :
    (s.takeLimit position r).pins = s.pins ∧ (s.takeLimit position r).liu = s.liu ∧ (s.takeLimit position r).dtu = s.dtu ∧
      (s.takeLimit position r).tbu = s.tbu ∧ (s.takeLimit position r).lys = s.lys ∧ (s.takeLimit position r).psd = s.psd ∧
      (s.takeLimit position r).ttc = s.ttc ∧ (s.takeLimit position r).cld = s.cld ∧ (s.takeLimit position r).clk = s.clk ∧
      (s.takeLimit position r).pending = s.pending := by
  simp [State.takeLimit]


end Sys2Proof.Machine
end

