-- ==== Sys2Proof/Laws/FramePassings.lean ====
section
/-! SUPPORT. What each shared operation of Machine/Passings.lean leaves unchanged, block by block. -/

namespace Sys2Proof.Machine

/-- `bounceAt` changes psd, evj alone. -/
@[simp] theorem State.bounceAt_frame (s : State) (x : SectionEdge) (point : Nat) :
    (s.bounceAt x point).pins = s.pins ∧ (s.bounceAt x point).liu = s.liu ∧ (s.bounceAt x point).dtu = s.dtu ∧
      (s.bounceAt x point).tbu = s.tbu ∧ (s.bounceAt x point).lys = s.lys ∧ (s.bounceAt x point).mvs = s.mvs ∧
      (s.bounceAt x point).ttc = s.ttc ∧ (s.bounceAt x point).cld = s.cld ∧ (s.bounceAt x point).orh = s.orh ∧
      (s.bounceAt x point).clk = s.clk ∧ (s.bounceAt x point).pending = s.pending := by
  simp [State.bounceAt]


/-- `passingAt` changes psd, evj, orh, ttc alone. -/
@[simp] theorem State.passingAt_frame (s : State) (x : SectionEdge) (point : Nat) (p : LivePoint) :
    (s.passingAt x point p).pins = s.pins ∧ (s.passingAt x point p).liu = s.liu ∧ (s.passingAt x point p).dtu = s.dtu ∧
      (s.passingAt x point p).tbu = s.tbu ∧ (s.passingAt x point p).lys = s.lys ∧ (s.passingAt x point p).mvs = s.mvs ∧
      (s.passingAt x point p).cld = s.cld ∧ (s.passingAt x point p).clk = s.clk ∧
      (s.passingAt x point p).pending = s.pending := by
  unfold State.passingAt; split <;> simp


/-- `edgeAtPoint` changes psd, evj, orh, ttc alone. -/
@[simp] theorem State.edgeAtPoint_frame (s : State) (x : SectionEdge) (point : Nat) :
    (s.edgeAtPoint x point).pins = s.pins ∧ (s.edgeAtPoint x point).liu = s.liu ∧ (s.edgeAtPoint x point).dtu = s.dtu ∧
      (s.edgeAtPoint x point).tbu = s.tbu ∧ (s.edgeAtPoint x point).lys = s.lys ∧ (s.edgeAtPoint x point).mvs = s.mvs ∧
      (s.edgeAtPoint x point).cld = s.cld ∧ (s.edgeAtPoint x point).clk = s.clk ∧
      (s.edgeAtPoint x point).pending = s.pending := by
  unfold State.edgeAtPoint; (repeat' split) <;> simp


/-- `takeEdge` changes psd, evj, orh, ttc alone. -/
@[simp] theorem State.takeEdge_frame (s : State) (x : SectionEdge) :
    (s.takeEdge x).pins = s.pins ∧ (s.takeEdge x).liu = s.liu ∧ (s.takeEdge x).dtu = s.dtu ∧ (s.takeEdge x).tbu = s.tbu ∧
      (s.takeEdge x).lys = s.lys ∧ (s.takeEdge x).mvs = s.mvs ∧ (s.takeEdge x).cld = s.cld ∧ (s.takeEdge x).clk = s.clk ∧
      (s.takeEdge x).pending = s.pending := by
  simp [State.takeEdge, foldl_keeps]


/-- `dropExpectation` changes evj, orh alone. -/
@[simp] theorem State.dropExpectation_frame (s : State) (point address : Nat) (edge : Edge) (train : TrainNumber) (byApply : Bool) (date : Date) :
    (s.dropExpectation point address edge train byApply date).pins = s.pins ∧
      (s.dropExpectation point address edge train byApply date).liu = s.liu ∧
      (s.dropExpectation point address edge train byApply date).dtu = s.dtu ∧
      (s.dropExpectation point address edge train byApply date).tbu = s.tbu ∧
      (s.dropExpectation point address edge train byApply date).lys = s.lys ∧
      (s.dropExpectation point address edge train byApply date).mvs = s.mvs ∧
      (s.dropExpectation point address edge train byApply date).psd = s.psd ∧
      (s.dropExpectation point address edge train byApply date).ttc = s.ttc ∧
      (s.dropExpectation point address edge train byApply date).cld = s.cld ∧
      (s.dropExpectation point address edge train byApply date).clk = s.clk ∧
      (s.dropExpectation point address edge train byApply date).pending = s.pending := by
  simp [State.dropExpectation]


/-- `identTrain` changes psd, evj, orh alone. -/
@[simp] theorem State.identTrain_frame (s : State) (point : Nat) (p : LivePoint) (train : TrainNumber) (date : Date) :
    (s.identTrain point p train date).pins = s.pins ∧ (s.identTrain point p train date).liu = s.liu ∧
      (s.identTrain point p train date).dtu = s.dtu ∧ (s.identTrain point p train date).tbu = s.tbu ∧
      (s.identTrain point p train date).lys = s.lys ∧ (s.identTrain point p train date).mvs = s.mvs ∧
      (s.identTrain point p train date).ttc = s.ttc ∧ (s.identTrain point p train date).cld = s.cld ∧
      (s.identTrain point p train date).clk = s.clk ∧ (s.identTrain point p train date).pending = s.pending := by
  unfold State.identTrain; (repeat' split) <;> simp


/-- `orderTrainIdent` changes psd, evj, orh alone. -/
@[simp] theorem State.orderTrainIdent_frame (s : State) (m : Manner) (c : Capture) (point : Nat) (train : TrainNumber) :
    (s.orderTrainIdent m c point train).pins = s.pins ∧ (s.orderTrainIdent m c point train).liu = s.liu ∧
      (s.orderTrainIdent m c point train).dtu = s.dtu ∧ (s.orderTrainIdent m c point train).tbu = s.tbu ∧
      (s.orderTrainIdent m c point train).lys = s.lys ∧ (s.orderTrainIdent m c point train).mvs = s.mvs ∧
      (s.orderTrainIdent m c point train).ttc = s.ttc ∧ (s.orderTrainIdent m c point train).cld = s.cld ∧
      (s.orderTrainIdent m c point train).clk = s.clk ∧ (s.orderTrainIdent m c point train).pending = s.pending := by
  unfold State.orderTrainIdent; (repeat' split) <;> simp


/-- `orderTrainCancel` changes psd, orh alone. -/
@[simp] theorem State.orderTrainCancel_frame (s : State) (m : Manner) (c : Capture) (train : TrainNumber) (point : Nat) :
    (s.orderTrainCancel m c train point).pins = s.pins ∧ (s.orderTrainCancel m c train point).liu = s.liu ∧
      (s.orderTrainCancel m c train point).dtu = s.dtu ∧ (s.orderTrainCancel m c train point).tbu = s.tbu ∧
      (s.orderTrainCancel m c train point).lys = s.lys ∧ (s.orderTrainCancel m c train point).mvs = s.mvs ∧
      (s.orderTrainCancel m c train point).ttc = s.ttc ∧ (s.orderTrainCancel m c train point).evj = s.evj ∧
      (s.orderTrainCancel m c train point).cld = s.cld ∧ (s.orderTrainCancel m c train point).clk = s.clk ∧
      (s.orderTrainCancel m c train point).pending = s.pending := by
  unfold State.orderTrainCancel; (repeat' split) <;> simp


end Sys2Proof.Machine
end

