-- ==== Sys2Proof/Laws/FrameLayout.lean ====
section
/-! SUPPORT. What each shared operation of Machine/Layout.lean leaves unchanged, block by block. -/

namespace Sys2Proof.Machine

/-- `orderElementWrite` changes lys, orh alone. -/
@[simp] theorem State.orderElementWrite_frame (s : State) (m : Manner) (c : Capture) (index address kind limit cls used : Nat) :
    (s.orderElementWrite m c index address kind limit cls used).pins = s.pins ∧
      (s.orderElementWrite m c index address kind limit cls used).liu = s.liu ∧
      (s.orderElementWrite m c index address kind limit cls used).dtu = s.dtu ∧
      (s.orderElementWrite m c index address kind limit cls used).tbu = s.tbu ∧
      (s.orderElementWrite m c index address kind limit cls used).mvs = s.mvs ∧
      (s.orderElementWrite m c index address kind limit cls used).psd = s.psd ∧
      (s.orderElementWrite m c index address kind limit cls used).ttc = s.ttc ∧
      (s.orderElementWrite m c index address kind limit cls used).evj = s.evj ∧
      (s.orderElementWrite m c index address kind limit cls used).cld = s.cld ∧
      (s.orderElementWrite m c index address kind limit cls used).clk = s.clk ∧
      (s.orderElementWrite m c index address kind limit cls used).pending = s.pending := by
  unfold State.orderElementWrite; (repeat' split) <;> simp


/-- `orderPointWrite` changes lys, orh alone. -/
@[simp] theorem State.orderPointWrite_frame (s : State) (m : Manner) (c : Capture) (index sect edge signal threshold mode used : Nat) :
    (s.orderPointWrite m c index sect edge signal threshold mode used).pins = s.pins ∧
      (s.orderPointWrite m c index sect edge signal threshold mode used).liu = s.liu ∧
      (s.orderPointWrite m c index sect edge signal threshold mode used).dtu = s.dtu ∧
      (s.orderPointWrite m c index sect edge signal threshold mode used).tbu = s.tbu ∧
      (s.orderPointWrite m c index sect edge signal threshold mode used).mvs = s.mvs ∧
      (s.orderPointWrite m c index sect edge signal threshold mode used).psd = s.psd ∧
      (s.orderPointWrite m c index sect edge signal threshold mode used).ttc = s.ttc ∧
      (s.orderPointWrite m c index sect edge signal threshold mode used).evj = s.evj ∧
      (s.orderPointWrite m c index sect edge signal threshold mode used).cld = s.cld ∧
      (s.orderPointWrite m c index sect edge signal threshold mode used).clk = s.clk ∧
      (s.orderPointWrite m c index sect edge signal threshold mode used).pending = s.pending := by
  unfold State.orderPointWrite; (repeat' split) <;> simp


/-- `unknownAddress` changes lys, evj, orh alone. -/
@[simp] theorem State.unknownAddress_frame (s : State) (address : Nat) (command : Bool) (code : Nat) (date : Date) (flags : Flags) :
    (s.unknownAddress address command code date flags).pins = s.pins ∧
      (s.unknownAddress address command code date flags).liu = s.liu ∧
      (s.unknownAddress address command code date flags).dtu = s.dtu ∧
      (s.unknownAddress address command code date flags).tbu = s.tbu ∧
      (s.unknownAddress address command code date flags).mvs = s.mvs ∧
      (s.unknownAddress address command code date flags).psd = s.psd ∧
      (s.unknownAddress address command code date flags).ttc = s.ttc ∧
      (s.unknownAddress address command code date flags).cld = s.cld ∧
      (s.unknownAddress address command code date flags).clk = s.clk ∧
      (s.unknownAddress address command code date flags).pending = s.pending := by
  unfold State.unknownAddress; split <;> simp


/-- `writeIf` changes evj alone. -/
@[simp] theorem State.writeIf_frame (s : State) (asked : Bool) (body : RecordBody) (date : Date) (flags : Flags) :
    (s.writeIf asked body date flags).pins = s.pins ∧ (s.writeIf asked body date flags).liu = s.liu ∧
      (s.writeIf asked body date flags).dtu = s.dtu ∧ (s.writeIf asked body date flags).tbu = s.tbu ∧
      (s.writeIf asked body date flags).lys = s.lys ∧ (s.writeIf asked body date flags).mvs = s.mvs ∧
      (s.writeIf asked body date flags).psd = s.psd ∧ (s.writeIf asked body date flags).ttc = s.ttc ∧
      (s.writeIf asked body date flags).cld = s.cld ∧ (s.writeIf asked body date flags).orh = s.orh ∧
      (s.writeIf asked body date flags).clk = s.clk ∧ (s.writeIf asked body date flags).pending = s.pending := by
  unfold State.writeIf; split <;> simp


/-- `validCommand` changes lys, mvs, evj, orh alone. -/
@[simp] theorem State.validCommand_frame (s : State) (index : Nat) (e : LiveElement) (code : Nat) (arrival : Instant) :
    (s.validCommand index e code arrival).pins = s.pins ∧ (s.validCommand index e code arrival).liu = s.liu ∧
      (s.validCommand index e code arrival).dtu = s.dtu ∧ (s.validCommand index e code arrival).tbu = s.tbu ∧
      (s.validCommand index e code arrival).psd = s.psd ∧ (s.validCommand index e code arrival).ttc = s.ttc ∧
      (s.validCommand index e code arrival).cld = s.cld ∧ (s.validCommand index e code arrival).clk = s.clk ∧
      (s.validCommand index e code arrival).pending = s.pending := by
  unfold State.validCommand; (repeat' split) <;> simp


/-- `badCommand` changes lys, evj alone. -/
@[simp] theorem State.badCommand_frame (s : State) (index : Nat) (e : LiveElement) (code : Nat) (arrival : Instant) :
    (s.badCommand index e code arrival).pins = s.pins ∧ (s.badCommand index e code arrival).liu = s.liu ∧
      (s.badCommand index e code arrival).dtu = s.dtu ∧ (s.badCommand index e code arrival).tbu = s.tbu ∧
      (s.badCommand index e code arrival).mvs = s.mvs ∧ (s.badCommand index e code arrival).psd = s.psd ∧
      (s.badCommand index e code arrival).ttc = s.ttc ∧ (s.badCommand index e code arrival).cld = s.cld ∧
      (s.badCommand index e code arrival).orh = s.orh ∧ (s.badCommand index e code arrival).clk = s.clk ∧
      (s.badCommand index e code arrival).pending = s.pending := by
  simp [State.badCommand]


/-- `takeCommand` changes lys, mvs, evj, orh alone. -/
@[simp] theorem State.takeCommand_frame (s : State) (address code : Nat) (c : Capture) :
    (s.takeCommand address code c).pins = s.pins ∧ (s.takeCommand address code c).liu = s.liu ∧
      (s.takeCommand address code c).dtu = s.dtu ∧ (s.takeCommand address code c).tbu = s.tbu ∧
      (s.takeCommand address code c).psd = s.psd ∧ (s.takeCommand address code c).ttc = s.ttc ∧
      (s.takeCommand address code c).cld = s.cld ∧ (s.takeCommand address code c).clk = s.clk ∧
      (s.takeCommand address code c).pending = s.pending := by
  unfold State.takeCommand; (repeat' split) <;> simp


/-- `indicationRecord` changes evj alone. -/
@[simp] theorem State.indicationRecord_frame (s : State) (index : Nat) (e : LiveElement) (code : Nat) (event : EventInstant) :
    (s.indicationRecord index e code event).pins = s.pins ∧ (s.indicationRecord index e code event).liu = s.liu ∧
      (s.indicationRecord index e code event).dtu = s.dtu ∧ (s.indicationRecord index e code event).tbu = s.tbu ∧
      (s.indicationRecord index e code event).lys = s.lys ∧ (s.indicationRecord index e code event).mvs = s.mvs ∧
      (s.indicationRecord index e code event).psd = s.psd ∧ (s.indicationRecord index e code event).ttc = s.ttc ∧
      (s.indicationRecord index e code event).cld = s.cld ∧ (s.indicationRecord index e code event).orh = s.orh ∧
      (s.indicationRecord index e code event).clk = s.clk ∧ (s.indicationRecord index e code event).pending = s.pending := by
  unfold State.indicationRecord; split <;> simp


/-- `validIndication` changes lys, mvs, psd, ttc, evj, orh alone. -/
@[simp] theorem State.validIndication_frame (s : State) (index : Nat) (e : LiveElement) (code : Nat) (event : EventInstant) :
    (s.validIndication index e code event).pins = s.pins ∧ (s.validIndication index e code event).liu = s.liu ∧
      (s.validIndication index e code event).dtu = s.dtu ∧ (s.validIndication index e code event).tbu = s.tbu ∧
      (s.validIndication index e code event).cld = s.cld ∧ (s.validIndication index e code event).clk = s.clk ∧
      (s.validIndication index e code event).pending = s.pending := by
  unfold State.validIndication; (repeat' split) <;> simp


/-- `badIndication` changes lys, evj alone. -/
@[simp] theorem State.badIndication_frame (s : State) (index : Nat) (e : LiveElement) (code : Nat) (event : EventInstant) :
    (s.badIndication index e code event).pins = s.pins ∧ (s.badIndication index e code event).liu = s.liu ∧
      (s.badIndication index e code event).dtu = s.dtu ∧ (s.badIndication index e code event).tbu = s.tbu ∧
      (s.badIndication index e code event).mvs = s.mvs ∧ (s.badIndication index e code event).psd = s.psd ∧
      (s.badIndication index e code event).ttc = s.ttc ∧ (s.badIndication index e code event).cld = s.cld ∧
      (s.badIndication index e code event).orh = s.orh ∧ (s.badIndication index e code event).clk = s.clk ∧
      (s.badIndication index e code event).pending = s.pending := by
  unfold State.badIndication; split <;> simp


/-- `takeIndication` changes lys, mvs, psd, ttc, evj, orh alone. -/
@[simp] theorem State.takeIndication_frame (s : State) (address code : Nat) (age : Option Nat) (c : Capture) :
    (s.takeIndication address code age c).pins = s.pins ∧ (s.takeIndication address code age c).liu = s.liu ∧
      (s.takeIndication address code age c).dtu = s.dtu ∧ (s.takeIndication address code age c).tbu = s.tbu ∧
      (s.takeIndication address code age c).cld = s.cld ∧ (s.takeIndication address code age c).clk = s.clk ∧
      (s.takeIndication address code age c).pending = s.pending := by
  unfold State.takeIndication; (repeat' split) <;> simp


/-- `onElements` changes lys alone. -/
@[simp] theorem State.onElements_frame (s : State) (f : ElementState → ElementState) :
    (s.onElements f).pins = s.pins ∧ (s.onElements f).liu = s.liu ∧ (s.onElements f).dtu = s.dtu ∧
      (s.onElements f).tbu = s.tbu ∧ (s.onElements f).mvs = s.mvs ∧ (s.onElements f).psd = s.psd ∧
      (s.onElements f).ttc = s.ttc ∧ (s.onElements f).evj = s.evj ∧ (s.onElements f).cld = s.cld ∧
      (s.onElements f).orh = s.orh ∧ (s.onElements f).clk = s.clk ∧ (s.onElements f).pending = s.pending := by
  simp [State.onElements]


/-- `lineKnowledgeLost` changes lys, mvs, evj, orh alone. -/
@[simp] theorem State.lineKnowledgeLost_frame (s : State) (ending : Instant) :
    (s.lineKnowledgeLost ending).pins = s.pins ∧ (s.lineKnowledgeLost ending).liu = s.liu ∧
      (s.lineKnowledgeLost ending).dtu = s.dtu ∧ (s.lineKnowledgeLost ending).tbu = s.tbu ∧
      (s.lineKnowledgeLost ending).psd = s.psd ∧ (s.lineKnowledgeLost ending).ttc = s.ttc ∧
      (s.lineKnowledgeLost ending).cld = s.cld ∧ (s.lineKnowledgeLost ending).clk = s.clk ∧
      (s.lineKnowledgeLost ending).pending = s.pending := by
  simp [State.lineKnowledgeLost]


/-- `carryMovement` changes lys, mvs, evj, orh alone. -/
@[simp] theorem State.carryMovement_frame (s : State) (new : List Element) (ending : Instant) (position : Nat) :
    (s.carryMovement new ending position).pins = s.pins ∧ (s.carryMovement new ending position).liu = s.liu ∧
      (s.carryMovement new ending position).dtu = s.dtu ∧ (s.carryMovement new ending position).tbu = s.tbu ∧
      (s.carryMovement new ending position).psd = s.psd ∧ (s.carryMovement new ending position).ttc = s.ttc ∧
      (s.carryMovement new ending position).cld = s.cld ∧ (s.carryMovement new ending position).clk = s.clk ∧
      (s.carryMovement new ending position).pending = s.pending := by
  unfold State.carryMovement; (repeat' split) <;> simp


/-- `dropQueue` changes evj, orh alone. -/
@[simp] theorem State.dropQueue_frame (s : State) (oldElements : List Element) (point : Nat) (p : LivePoint) (date : Date) :
    (s.dropQueue oldElements point p date).pins = s.pins ∧ (s.dropQueue oldElements point p date).liu = s.liu ∧
      (s.dropQueue oldElements point p date).dtu = s.dtu ∧ (s.dropQueue oldElements point p date).tbu = s.tbu ∧
      (s.dropQueue oldElements point p date).lys = s.lys ∧ (s.dropQueue oldElements point p date).mvs = s.mvs ∧
      (s.dropQueue oldElements point p date).psd = s.psd ∧ (s.dropQueue oldElements point p date).ttc = s.ttc ∧
      (s.dropQueue oldElements point p date).cld = s.cld ∧ (s.dropQueue oldElements point p date).clk = s.clk ∧
      (s.dropQueue oldElements point p date).pending = s.pending := by
  simp [State.dropQueue, foldl_keeps]


/-- `dropQueues` changes evj, orh alone. -/
@[simp] theorem State.dropQueues_frame (s : State) (oldElements : List Element) (old : List LivePoint) (taken : List (Option Nat)) (date : Date) :
    (s.dropQueues oldElements old taken date).pins = s.pins ∧ (s.dropQueues oldElements old taken date).liu = s.liu ∧
      (s.dropQueues oldElements old taken date).dtu = s.dtu ∧ (s.dropQueues oldElements old taken date).tbu = s.tbu ∧
      (s.dropQueues oldElements old taken date).lys = s.lys ∧ (s.dropQueues oldElements old taken date).mvs = s.mvs ∧
      (s.dropQueues oldElements old taken date).psd = s.psd ∧ (s.dropQueues oldElements old taken date).ttc = s.ttc ∧
      (s.dropQueues oldElements old taken date).cld = s.cld ∧ (s.dropQueues oldElements old taken date).clk = s.clk ∧
      (s.dropQueues oldElements old taken date).pending = s.pending := by
  refine ⟨?_, ?_, ?_, ?_, ?_, ?_, ?_, ?_, ?_, ?_, ?_⟩ <;> (unfold State.dropQueues; exact foldl_keeps _ _ (fun a b => by (repeat' split) <;> simp) _ _)


/-- `applyLayout` changes lys, mvs, psd, evj, orh alone. -/
@[simp] theorem State.applyLayout_frame (s : State) (ending : Instant) :
    (s.applyLayout ending).pins = s.pins ∧ (s.applyLayout ending).liu = s.liu ∧ (s.applyLayout ending).dtu = s.dtu ∧
      (s.applyLayout ending).tbu = s.tbu ∧ (s.applyLayout ending).ttc = s.ttc ∧ (s.applyLayout ending).cld = s.cld ∧
      (s.applyLayout ending).clk = s.clk ∧ (s.applyLayout ending).pending = s.pending := by
  simp [State.applyLayout, foldl_keeps]


/-- `takeApply` changes lys, mvs, psd, ttc, evj, orh alone. -/
@[simp] theorem State.takeApply_frame (s : State) (scope : Scope) (trigger : ApplyTrigger) (ending : Instant) :
    (s.takeApply scope trigger ending).pins = s.pins ∧ (s.takeApply scope trigger ending).liu = s.liu ∧
      (s.takeApply scope trigger ending).dtu = s.dtu ∧ (s.takeApply scope trigger ending).tbu = s.tbu ∧
      (s.takeApply scope trigger ending).cld = s.cld ∧ (s.takeApply scope trigger ending).clk = s.clk ∧
      (s.takeApply scope trigger ending).pending = s.pending := by
  unfold State.takeApply; (repeat' split) <;> simp


/-- `takeArmed` changes lys, mvs, psd, ttc, evj, orh alone. -/
@[simp] theorem State.takeArmed_frame (s : State) (trigger : ApplyTrigger) (ending : Instant) :
    (s.takeArmed trigger ending).pins = s.pins ∧ (s.takeArmed trigger ending).liu = s.liu ∧
      (s.takeArmed trigger ending).dtu = s.dtu ∧ (s.takeArmed trigger ending).tbu = s.tbu ∧
      (s.takeArmed trigger ending).cld = s.cld ∧ (s.takeArmed trigger ending).clk = s.clk ∧
      (s.takeArmed trigger ending).pending = s.pending := by
  unfold State.takeArmed; split <;> simp


/-- `orderApply` changes lys, mvs, psd, ttc, evj, orh alone. -/
@[simp] theorem State.orderApply_frame (s : State) (m : Manner) (c : Capture) (code : Nat) :
    (s.orderApply m c code).pins = s.pins ∧ (s.orderApply m c code).liu = s.liu ∧ (s.orderApply m c code).dtu = s.dtu ∧
      (s.orderApply m c code).tbu = s.tbu ∧ (s.orderApply m c code).cld = s.cld ∧ (s.orderApply m c code).clk = s.clk ∧
      (s.orderApply m c code).pending = s.pending := by
  simp only [State.orderApply]; (repeat' split) <;> simp


end Sys2Proof.Machine
end

