-- ==== Sys2Proof/Laws/FrameLine.lean ====
section
/-! SUPPORT. What each shared operation of Machine/Line.lean leaves unchanged, block by block. -/

namespace Sys2Proof.Machine

/-- `truncate` changes liu, dtu alone. -/
@[simp] theorem State.truncate_frame (s : State) (p : Port) :
    (s.truncate p).pins = s.pins ∧ (s.truncate p).tbu = s.tbu ∧ (s.truncate p).lys = s.lys ∧ (s.truncate p).mvs = s.mvs ∧
      (s.truncate p).psd = s.psd ∧ (s.truncate p).ttc = s.ttc ∧ (s.truncate p).evj = s.evj ∧ (s.truncate p).cld = s.cld ∧
      (s.truncate p).orh = s.orh ∧ (s.truncate p).clk = s.clk ∧ (s.truncate p).pending = s.pending := by
  simp [State.truncate]


/-- `takeSilence` changes liu, dtu alone. -/
@[simp] theorem State.takeSilence_frame (s : State) (p : Port) :
    (s.takeSilence p).pins = s.pins ∧ (s.takeSilence p).tbu = s.tbu ∧ (s.takeSilence p).lys = s.lys ∧
      (s.takeSilence p).mvs = s.mvs ∧ (s.takeSilence p).psd = s.psd ∧ (s.takeSilence p).ttc = s.ttc ∧
      (s.takeSilence p).evj = s.evj ∧ (s.takeSilence p).cld = s.cld ∧ (s.takeSilence p).orh = s.orh ∧
      (s.takeSilence p).clk = s.clk ∧ (s.takeSilence p).pending = s.pending := by
  unfold State.takeSilence; split <;> simp


/-- `compareRound` changes evj alone. -/
@[simp] theorem State.compareRound_frame (s : State) (number : Nat) (date : Date) :
    (s.compareRound number date).pins = s.pins ∧ (s.compareRound number date).liu = s.liu ∧
      (s.compareRound number date).dtu = s.dtu ∧ (s.compareRound number date).tbu = s.tbu ∧
      (s.compareRound number date).lys = s.lys ∧ (s.compareRound number date).mvs = s.mvs ∧
      (s.compareRound number date).psd = s.psd ∧ (s.compareRound number date).ttc = s.ttc ∧
      (s.compareRound number date).cld = s.cld ∧ (s.compareRound number date).orh = s.orh ∧
      (s.compareRound number date).clk = s.clk ∧ (s.compareRound number date).pending = s.pending := by
  unfold State.compareRound; split <;> simp


/-- `returnLine` changes evj, orh, lys alone. -/
@[simp] theorem State.returnLine_frame (s : State) (number : Nat) (c : Capture) :
    (s.returnLine number c).pins = s.pins ∧ (s.returnLine number c).liu = s.liu ∧ (s.returnLine number c).dtu = s.dtu ∧
      (s.returnLine number c).tbu = s.tbu ∧ (s.returnLine number c).mvs = s.mvs ∧ (s.returnLine number c).psd = s.psd ∧
      (s.returnLine number c).ttc = s.ttc ∧ (s.returnLine number c).cld = s.cld ∧ (s.returnLine number c).clk = s.clk ∧
      (s.returnLine number c).pending = s.pending := by
  simp [State.returnLine]


/-- `judgeRound` changes evj, orh, lys alone. -/
@[simp] theorem State.judgeRound_frame (s : State) (number : Nat) (c : Capture) :
    (s.judgeRound number c).pins = s.pins ∧ (s.judgeRound number c).liu = s.liu ∧ (s.judgeRound number c).dtu = s.dtu ∧
      (s.judgeRound number c).tbu = s.tbu ∧ (s.judgeRound number c).mvs = s.mvs ∧ (s.judgeRound number c).psd = s.psd ∧
      (s.judgeRound number c).ttc = s.ttc ∧ (s.judgeRound number c).cld = s.cld ∧ (s.judgeRound number c).clk = s.clk ∧
      (s.judgeRound number c).pending = s.pending := by
  unfold State.judgeRound; split <;> simp


/-- `takeRoundOpen` changes liu, lys, mvs, psd, ttc, evj, orh alone. -/
@[simp] theorem State.takeRoundOpen_frame (s : State) (number : Nat) (c : Capture) :
    (s.takeRoundOpen number c).pins = s.pins ∧ (s.takeRoundOpen number c).dtu = s.dtu ∧
      (s.takeRoundOpen number c).tbu = s.tbu ∧ (s.takeRoundOpen number c).cld = s.cld ∧
      (s.takeRoundOpen number c).clk = s.clk ∧ (s.takeRoundOpen number c).pending = s.pending := by
  simp [State.takeRoundOpen]


/-- `takeRoundClose` changes liu alone. -/
@[simp] theorem State.takeRoundClose_frame (s : State) :
    s.takeRoundClose.pins = s.pins ∧ s.takeRoundClose.dtu = s.dtu ∧ s.takeRoundClose.tbu = s.tbu ∧
      s.takeRoundClose.lys = s.lys ∧ s.takeRoundClose.mvs = s.mvs ∧ s.takeRoundClose.psd = s.psd ∧
      s.takeRoundClose.ttc = s.ttc ∧ s.takeRoundClose.evj = s.evj ∧ s.takeRoundClose.cld = s.cld ∧
      s.takeRoundClose.orh = s.orh ∧ s.takeRoundClose.clk = s.clk ∧ s.takeRoundClose.pending = s.pending := by
  unfold State.takeRoundClose; split <;> simp


/-- `takeLineReset` changes liu, lys, mvs, evj, orh alone. -/
@[simp] theorem State.takeLineReset_frame (s : State) (c : Capture) :
    (s.takeLineReset c).pins = s.pins ∧ (s.takeLineReset c).dtu = s.dtu ∧ (s.takeLineReset c).tbu = s.tbu ∧
      (s.takeLineReset c).psd = s.psd ∧ (s.takeLineReset c).ttc = s.ttc ∧ (s.takeLineReset c).cld = s.cld ∧
      (s.takeLineReset c).clk = s.clk ∧ (s.takeLineReset c).pending = s.pending := by
  simp [State.takeLineReset]


/-- `loseLine` changes liu, lys, mvs, psd, ttc, evj, orh alone. -/
@[simp] theorem State.loseLine_frame (s : State) :
    s.loseLine.pins = s.pins ∧ s.loseLine.dtu = s.dtu ∧ s.loseLine.tbu = s.tbu ∧ s.loseLine.cld = s.cld ∧
      s.loseLine.clk = s.clk ∧ s.loseLine.pending = s.pending := by
  simp [State.loseLine]


/-- `takeLoss` changes liu, lys, mvs, psd, ttc, evj, orh alone. -/
@[simp] theorem State.takeLoss_frame (s : State) :
    s.takeLoss.pins = s.pins ∧ s.takeLoss.dtu = s.dtu ∧ s.takeLoss.tbu = s.tbu ∧ s.takeLoss.cld = s.cld ∧
      s.takeLoss.clk = s.clk ∧ s.takeLoss.pending = s.pending := by
  unfold State.takeLoss; split <;> simp


end Sys2Proof.Machine
end

