-- ==== Sys2Proof/Laws/FrameTurn.lean ====
section
/-! SUPPORT. What each shared operation of Machine/Turn.lean leaves unchanged, block by block. -/

namespace Sys2Proof.Machine

/-- `startReport` changes liu, orh alone. -/
@[simp] theorem State.startReport_frame (s : State) (allotment sent : Nat) (r : Report) (rest : List Report) :
    (s.startReport allotment sent r rest).pins = s.pins ∧ (s.startReport allotment sent r rest).dtu = s.dtu ∧
      (s.startReport allotment sent r rest).tbu = s.tbu ∧ (s.startReport allotment sent r rest).lys = s.lys ∧
      (s.startReport allotment sent r rest).mvs = s.mvs ∧ (s.startReport allotment sent r rest).psd = s.psd ∧
      (s.startReport allotment sent r rest).ttc = s.ttc ∧ (s.startReport allotment sent r rest).evj = s.evj ∧
      (s.startReport allotment sent r rest).cld = s.cld ∧ (s.startReport allotment sent r rest).clk = s.clk ∧
      (s.startReport allotment sent r rest).pending = s.pending := by
  simp [State.startReport]


/-- `startPartTelegram` changes liu, orh alone. -/
@[simp] theorem State.startPartTelegram_frame (s : State) (allotment sent : Nat) :
    (s.startPartTelegram allotment sent).pins = s.pins ∧ (s.startPartTelegram allotment sent).dtu = s.dtu ∧
      (s.startPartTelegram allotment sent).tbu = s.tbu ∧ (s.startPartTelegram allotment sent).lys = s.lys ∧
      (s.startPartTelegram allotment sent).mvs = s.mvs ∧ (s.startPartTelegram allotment sent).psd = s.psd ∧
      (s.startPartTelegram allotment sent).ttc = s.ttc ∧ (s.startPartTelegram allotment sent).evj = s.evj ∧
      (s.startPartTelegram allotment sent).cld = s.cld ∧ (s.startPartTelegram allotment sent).clk = s.clk ∧
      (s.startPartTelegram allotment sent).pending = s.pending := by
  unfold State.startPartTelegram; (repeat' split) <;> simp


/-- `closeSpentTurn` changes liu alone. -/
@[simp] theorem State.closeSpentTurn_frame (s : State) :
    s.closeSpentTurn.pins = s.pins ∧ s.closeSpentTurn.dtu = s.dtu ∧ s.closeSpentTurn.tbu = s.tbu ∧
      s.closeSpentTurn.lys = s.lys ∧ s.closeSpentTurn.mvs = s.mvs ∧ s.closeSpentTurn.psd = s.psd ∧
      s.closeSpentTurn.ttc = s.ttc ∧ s.closeSpentTurn.evj = s.evj ∧ s.closeSpentTurn.cld = s.cld ∧
      s.closeSpentTurn.orh = s.orh ∧ s.closeSpentTurn.clk = s.clk ∧ s.closeSpentTurn.pending = s.pending := by
  unfold State.closeSpentTurn; (repeat' split) <;> simp


/-- `endPartTelegram` changes liu, orh alone. -/
@[simp] theorem State.endPartTelegram_frame (s : State) :
    s.endPartTelegram.pins = s.pins ∧ s.endPartTelegram.dtu = s.dtu ∧ s.endPartTelegram.tbu = s.tbu ∧
      s.endPartTelegram.lys = s.lys ∧ s.endPartTelegram.mvs = s.mvs ∧ s.endPartTelegram.psd = s.psd ∧
      s.endPartTelegram.ttc = s.ttc ∧ s.endPartTelegram.evj = s.evj ∧ s.endPartTelegram.cld = s.cld ∧
      s.endPartTelegram.clk = s.clk ∧ s.endPartTelegram.pending = s.pending := by
  unfold State.endPartTelegram; (repeat' split) <;> simp


end Sys2Proof.Machine
end

