-- ==== Sys2Proof/Laws/FrameOrders.lean ====
section
/-! SUPPORT. What each shared operation of Machine/Orders.lean leaves unchanged, block by block. -/

namespace Sys2Proof.Machine

/-- `takeUp` changes tbu, liu, lys, mvs, psd, ttc, evj, orh alone. -/
@[simp] theorem State.takeUp_frame (s : State) (parameter : Nat) :
    (s.takeUp parameter).pins = s.pins ∧ (s.takeUp parameter).dtu = s.dtu ∧ (s.takeUp parameter).cld = s.cld ∧
      (s.takeUp parameter).clk = s.clk ∧ (s.takeUp parameter).pending = s.pending := by
  unfold State.takeUp; (repeat' split) <;> simp


/-- `setParameter` changes tbu, liu, lys, mvs, psd, ttc, evj, orh alone. -/
@[simp] theorem State.setParameter_frame (s : State) (parameter : Nat) (value : Int) (date : Date) :
    (s.setParameter parameter value date).pins = s.pins ∧ (s.setParameter parameter value date).dtu = s.dtu ∧
      (s.setParameter parameter value date).cld = s.cld ∧ (s.setParameter parameter value date).clk = s.clk ∧
      (s.setParameter parameter value date).pending = s.pending := by
  simp [State.setParameter]


/-- `orderConfigWrite` changes tbu, liu, lys, mvs, psd, ttc, evj, orh alone. -/
@[simp] theorem State.orderConfigWrite_frame (s : State) (m : Manner) (c : Capture) (parameter : Nat) (value : Int) :
    (s.orderConfigWrite m c parameter value).pins = s.pins ∧ (s.orderConfigWrite m c parameter value).dtu = s.dtu ∧
      (s.orderConfigWrite m c parameter value).cld = s.cld ∧ (s.orderConfigWrite m c parameter value).clk = s.clk ∧
      (s.orderConfigWrite m c parameter value).pending = s.pending := by
  unfold State.orderConfigWrite; split <;> simp


/-- `orderJournalRead` changes evj, orh alone. -/
@[simp] theorem State.orderJournalRead_frame (s : State) (m : Manner) (c : Capture) (start n : Nat) :
    (s.orderJournalRead m c start n).pins = s.pins ∧ (s.orderJournalRead m c start n).liu = s.liu ∧
      (s.orderJournalRead m c start n).dtu = s.dtu ∧ (s.orderJournalRead m c start n).tbu = s.tbu ∧
      (s.orderJournalRead m c start n).lys = s.lys ∧ (s.orderJournalRead m c start n).mvs = s.mvs ∧
      (s.orderJournalRead m c start n).psd = s.psd ∧ (s.orderJournalRead m c start n).ttc = s.ttc ∧
      (s.orderJournalRead m c start n).cld = s.cld ∧ (s.orderJournalRead m c start n).clk = s.clk ∧
      (s.orderJournalRead m c start n).pending = s.pending := by
  unfold State.orderJournalRead State.reading; cases m
  · by_cases h : s.orh.slot.isSome = true <;> simp [h]
  · simp


/-- `orderTableRead` changes orh alone. -/
@[simp] theorem State.orderTableRead_frame (s : State) (m : Manner) (c : Capture) (table selector index : Nat) :
    (s.orderTableRead m c table selector index).pins = s.pins ∧ (s.orderTableRead m c table selector index).liu = s.liu ∧
      (s.orderTableRead m c table selector index).dtu = s.dtu ∧ (s.orderTableRead m c table selector index).tbu = s.tbu ∧
      (s.orderTableRead m c table selector index).lys = s.lys ∧ (s.orderTableRead m c table selector index).mvs = s.mvs ∧
      (s.orderTableRead m c table selector index).psd = s.psd ∧ (s.orderTableRead m c table selector index).ttc = s.ttc ∧
      (s.orderTableRead m c table selector index).evj = s.evj ∧ (s.orderTableRead m c table selector index).cld = s.cld ∧
      (s.orderTableRead m c table selector index).clk = s.clk ∧
      (s.orderTableRead m c table selector index).pending = s.pending := by
  unfold State.orderTableRead State.reading; cases m
  · by_cases h : s.orh.slot.isSome = true
    · simp [h]
    · simp only [h]; cases s.readEntry table selector index <;> simp
  · simp


/-- `orderStatusRead` changes orh alone. -/
@[simp] theorem State.orderStatusRead_frame (s : State) (m : Manner) (c : Capture) :
    (s.orderStatusRead m c).pins = s.pins ∧ (s.orderStatusRead m c).liu = s.liu ∧ (s.orderStatusRead m c).dtu = s.dtu ∧
      (s.orderStatusRead m c).tbu = s.tbu ∧ (s.orderStatusRead m c).lys = s.lys ∧ (s.orderStatusRead m c).mvs = s.mvs ∧
      (s.orderStatusRead m c).psd = s.psd ∧ (s.orderStatusRead m c).ttc = s.ttc ∧ (s.orderStatusRead m c).evj = s.evj ∧
      (s.orderStatusRead m c).cld = s.cld ∧ (s.orderStatusRead m c).clk = s.clk ∧
      (s.orderStatusRead m c).pending = s.pending := by
  unfold State.orderStatusRead State.reading; cases m
  · by_cases h : s.orh.slot.isSome = true <;> simp [h]
  · simp


/-- `restartField` changes lys, mvs, psd, evj, orh alone. -/
@[simp] theorem State.restartField_frame (s : State) (ending : Instant) :
    (s.restartField ending).pins = s.pins ∧ (s.restartField ending).liu = s.liu ∧ (s.restartField ending).dtu = s.dtu ∧
      (s.restartField ending).tbu = s.tbu ∧ (s.restartField ending).ttc = s.ttc ∧ (s.restartField ending).cld = s.cld ∧
      (s.restartField ending).clk = s.clk ∧ (s.restartField ending).pending = s.pending := by
  simp [State.restartField]


/-- `restartOrders` changes liu, orh alone. -/
@[simp] theorem State.restartOrders_frame (s : State) :
    s.restartOrders.pins = s.pins ∧ s.restartOrders.dtu = s.dtu ∧ s.restartOrders.tbu = s.tbu ∧
      s.restartOrders.lys = s.lys ∧ s.restartOrders.mvs = s.mvs ∧ s.restartOrders.psd = s.psd ∧ s.restartOrders.ttc = s.ttc ∧
      s.restartOrders.evj = s.evj ∧ s.restartOrders.cld = s.cld ∧ s.restartOrders.clk = s.clk ∧
      s.restartOrders.pending = s.pending := by
  simp [State.restartOrders]


/-- `warmRestart` changes liu, lys, mvs, psd, evj, orh alone. -/
@[simp] theorem State.warmRestart_frame (s : State) (c : Capture) :
    (s.warmRestart c).pins = s.pins ∧ (s.warmRestart c).dtu = s.dtu ∧ (s.warmRestart c).tbu = s.tbu ∧
      (s.warmRestart c).ttc = s.ttc ∧ (s.warmRestart c).cld = s.cld ∧ (s.warmRestart c).clk = s.clk ∧
      (s.warmRestart c).pending = s.pending := by
  simp [State.warmRestart]


/-- `orderRestart` changes liu, lys, mvs, psd, evj, orh alone. -/
@[simp] theorem State.orderRestart_frame (s : State) (m : Manner) (c : Capture) :
    (s.orderRestart m c).pins = s.pins ∧ (s.orderRestart m c).dtu = s.dtu ∧ (s.orderRestart m c).tbu = s.tbu ∧
      (s.orderRestart m c).ttc = s.ttc ∧ (s.orderRestart m c).cld = s.cld ∧ (s.orderRestart m c).clk = s.clk ∧
      (s.orderRestart m c).pending = s.pending := by
  unfold State.orderRestart; split <;> simp


end Sys2Proof.Machine
end

