-- ==== Sys2Proof/Laws/FrameTelegram.lean ====
section
/-! SUPPORT. What each shared operation of Machine/Telegram.lean leaves unchanged, block by block. -/

namespace Sys2Proof.Machine

/-- `takeTimetableWrite` changes ttc, orh alone. -/
@[simp] theorem State.takeTimetableWrite_frame (s : State) (m : Manner) (c : Capture) (ps : List Byte) :
    (s.takeTimetableWrite m c ps).pins = s.pins ∧ (s.takeTimetableWrite m c ps).liu = s.liu ∧
      (s.takeTimetableWrite m c ps).dtu = s.dtu ∧ (s.takeTimetableWrite m c ps).tbu = s.tbu ∧
      (s.takeTimetableWrite m c ps).lys = s.lys ∧ (s.takeTimetableWrite m c ps).mvs = s.mvs ∧
      (s.takeTimetableWrite m c ps).psd = s.psd ∧ (s.takeTimetableWrite m c ps).evj = s.evj ∧
      (s.takeTimetableWrite m c ps).cld = s.cld ∧ (s.takeTimetableWrite m c ps).clk = s.clk ∧
      (s.takeTimetableWrite m c ps).pending = s.pending := by
  simp only [State.takeTimetableWrite]; split
  · simp
  · split
    · unfold State.sized; split <;> simp
    · simp


/-- `takeClockLineSet` changes cld, evj, orh alone. -/
@[simp] theorem State.takeClockLineSet_frame (s : State) (m : Manner) (c : Capture) (ps : List Byte) :
    (s.takeClockLineSet m c ps).pins = s.pins ∧ (s.takeClockLineSet m c ps).liu = s.liu ∧
      (s.takeClockLineSet m c ps).dtu = s.dtu ∧ (s.takeClockLineSet m c ps).tbu = s.tbu ∧
      (s.takeClockLineSet m c ps).lys = s.lys ∧ (s.takeClockLineSet m c ps).mvs = s.mvs ∧
      (s.takeClockLineSet m c ps).psd = s.psd ∧ (s.takeClockLineSet m c ps).ttc = s.ttc ∧
      (s.takeClockLineSet m c ps).clk = s.clk ∧ (s.takeClockLineSet m c ps).pending = s.pending := by
  unfold State.takeClockLineSet; split <;> simp


/-- `takeOrder` changes tbu, liu, lys, mvs, psd, ttc, evj, orh, cld, clk alone. -/
@[simp] theorem State.takeOrder_frame (s : State) (m : Manner) (c : Capture) (code : Nat) (ps : List Byte) :
    (s.takeOrder m c code ps).pins = s.pins ∧ (s.takeOrder m c code ps).dtu = s.dtu ∧
      (s.takeOrder m c code ps).pending = s.pending := by
  unfold State.takeOrder; split <;> first | (unfold State.sized; split <;> simp) | simp


/-- `takeOrderPayload` changes tbu, liu, lys, mvs, psd, ttc, evj, orh, cld, clk alone. -/
@[simp] theorem State.takeOrderPayload_frame (s : State) (m : Manner) (c : Capture) (payload : List Byte) :
    (s.takeOrderPayload m c payload).pins = s.pins ∧ (s.takeOrderPayload m c payload).dtu = s.dtu ∧
      (s.takeOrderPayload m c payload).pending = s.pending := by
  unfold State.takeOrderPayload; split <;> simp


/-- `handOn` changes tbu, liu, lys, mvs, psd, ttc, evj, orh, cld, clk alone. -/
@[simp] theorem State.handOn_frame (s : State) (p : Port) (address : Nat) (payload : List Byte) (c : Capture) (reading : Reading) :
    (s.handOn p address payload c reading).pins = s.pins ∧ (s.handOn p address payload c reading).dtu = s.dtu ∧
      (s.handOn p address payload c reading).pending = s.pending := by
  unfold State.handOn; split <;> simp


/-- `takeTelegram` changes tbu, liu, lys, mvs, psd, ttc, evj, orh, cld, clk alone. -/
@[simp] theorem State.takeTelegram_frame (s : State) (p : Port) (kind address : Nat) (payload : List Byte) (check : Nat) (c : Capture) :
    (s.takeTelegram p kind address payload check c).pins = s.pins ∧
      (s.takeTelegram p kind address payload check c).dtu = s.dtu ∧
      (s.takeTelegram p kind address payload check c).pending = s.pending := by
  unfold State.takeTelegram; split <;> simp


/-- `beginTelegram` changes liu, dtu alone. -/
@[simp] theorem State.beginTelegram_frame (s : State) (p : Port) (b : Byte) :
    (s.beginTelegram p b).pins = s.pins ∧ (s.beginTelegram p b).tbu = s.tbu ∧ (s.beginTelegram p b).lys = s.lys ∧
      (s.beginTelegram p b).mvs = s.mvs ∧ (s.beginTelegram p b).psd = s.psd ∧ (s.beginTelegram p b).ttc = s.ttc ∧
      (s.beginTelegram p b).evj = s.evj ∧ (s.beginTelegram p b).cld = s.cld ∧ (s.beginTelegram p b).orh = s.orh ∧
      (s.beginTelegram p b).clk = s.clk ∧ (s.beginTelegram p b).pending = s.pending := by
  simp [State.beginTelegram]


/-- `relayOn` changes liu alone. -/
@[simp] theorem State.relayOn_frame (s : State) (p : Port) (b : Byte) :
    (s.relayOn p b).pins = s.pins ∧ (s.relayOn p b).dtu = s.dtu ∧ (s.relayOn p b).tbu = s.tbu ∧
      (s.relayOn p b).lys = s.lys ∧ (s.relayOn p b).mvs = s.mvs ∧ (s.relayOn p b).psd = s.psd ∧ (s.relayOn p b).ttc = s.ttc ∧
      (s.relayOn p b).evj = s.evj ∧ (s.relayOn p b).cld = s.cld ∧ (s.relayOn p b).orh = s.orh ∧ (s.relayOn p b).clk = s.clk ∧
      (s.relayOn p b).pending = s.pending := by
  unfold State.relayOn; split <;> simp


/-- `releaseLag` changes liu alone. -/
@[simp] theorem State.releaseLag_frame (s : State) (p : Port) (kindByte b : Byte) :
    (s.releaseLag p kindByte b).pins = s.pins ∧ (s.releaseLag p kindByte b).dtu = s.dtu ∧
      (s.releaseLag p kindByte b).tbu = s.tbu ∧ (s.releaseLag p kindByte b).lys = s.lys ∧
      (s.releaseLag p kindByte b).mvs = s.mvs ∧ (s.releaseLag p kindByte b).psd = s.psd ∧
      (s.releaseLag p kindByte b).ttc = s.ttc ∧ (s.releaseLag p kindByte b).evj = s.evj ∧
      (s.releaseLag p kindByte b).cld = s.cld ∧ (s.releaseLag p kindByte b).orh = s.orh ∧
      (s.releaseLag p kindByte b).clk = s.clk ∧ (s.releaseLag p kindByte b).pending = s.pending := by
  simp only [State.releaseLag]; split <;> simp


/-- `takeLength` changes liu, dtu alone. -/
@[simp] theorem State.takeLength_frame (s : State) (p : Port) (b : Byte) :
    (s.takeLength p b).pins = s.pins ∧ (s.takeLength p b).tbu = s.tbu ∧ (s.takeLength p b).lys = s.lys ∧
      (s.takeLength p b).mvs = s.mvs ∧ (s.takeLength p b).psd = s.psd ∧ (s.takeLength p b).ttc = s.ttc ∧
      (s.takeLength p b).evj = s.evj ∧ (s.takeLength p b).cld = s.cld ∧ (s.takeLength p b).orh = s.orh ∧
      (s.takeLength p b).clk = s.clk ∧ (s.takeLength p b).pending = s.pending := by
  unfold State.takeLength; split <;> simp


/-- `takeHeader` changes liu, dtu alone. -/
@[simp] theorem State.takeHeader_frame (s : State) (p : Port) (b : Byte) :
    (s.takeHeader p b).pins = s.pins ∧ (s.takeHeader p b).tbu = s.tbu ∧ (s.takeHeader p b).lys = s.lys ∧
      (s.takeHeader p b).mvs = s.mvs ∧ (s.takeHeader p b).psd = s.psd ∧ (s.takeHeader p b).ttc = s.ttc ∧
      (s.takeHeader p b).evj = s.evj ∧ (s.takeHeader p b).cld = s.cld ∧ (s.takeHeader p b).orh = s.orh ∧
      (s.takeHeader p b).clk = s.clk ∧ (s.takeHeader p b).pending = s.pending := by
  unfold State.takeHeader; split <;> simp


/-- `takeFrame` changes tbu, liu, lys, mvs, psd, ttc, evj, orh, cld, clk alone. -/
@[simp] theorem State.takeFrame_frame (s : State) (p : Port) (frame : List Byte) (c : Capture) :
    (s.takeFrame p frame c).pins = s.pins ∧ (s.takeFrame p frame c).dtu = s.dtu ∧
      (s.takeFrame p frame c).pending = s.pending := by
  simp [State.takeFrame]


/-- `takeBody` changes tbu, liu, dtu, lys, mvs, psd, ttc, evj, orh, cld, clk alone. -/
@[simp] theorem State.takeBody_frame (s : State) (p : Port) (b : Byte) :
    (s.takeBody p b).pins = s.pins ∧ (s.takeBody p b).pending = s.pending := by
  unfold State.takeBody; split <;> simp


/-- `takeByte` changes tbu, liu, dtu, lys, mvs, psd, ttc, evj, orh, cld, clk alone. -/
@[simp] theorem State.takeByte_frame (s : State) (p : Port) (b : Byte) :
    (s.takeByte p b).pins = s.pins ∧ (s.takeByte p b).pending = s.pending := by
  unfold State.takeByte; (repeat' split) <;> simp


end Sys2Proof.Machine
end

