-- ==== Sys2Proof/Laws/FrameClock.lean ====
section
/-! SUPPORT. What each shared operation of Machine/Clock.lean leaves unchanged, block by block. -/

namespace Sys2Proof.Machine

/-- `countChoice` changes clk alone. -/
@[simp] theorem State.countChoice_frame (s : State) :
    s.countChoice.pins = s.pins ∧ s.countChoice.liu = s.liu ∧ s.countChoice.dtu = s.dtu ∧ s.countChoice.tbu = s.tbu ∧
      s.countChoice.lys = s.lys ∧ s.countChoice.mvs = s.mvs ∧ s.countChoice.psd = s.psd ∧ s.countChoice.ttc = s.ttc ∧
      s.countChoice.evj = s.evj ∧ s.countChoice.cld = s.cld ∧ s.countChoice.orh = s.orh ∧ s.countChoice.pending = s.pending := by
  unfold State.countChoice; split <;> simp


end Sys2Proof.Machine
end

