-- ==== Sys2Proof/Laws/Ops.lean ====
section
/-! SUPPORT. What each shared operation of Machine/Ops.lean does, said once: the port, the journal, the report queue, the reply slot, and the relay. -/

namespace Sys2Proof.Machine

/-! ### A port -/

@[simp] theorem State.onRx_rx (s : State) (p : Port) (f : Receiver → Receiver) : (s.onRx p f).rx p = f (s.rx p) := by
  cases p <;> rfl

@[simp] theorem State.setCapture_capture (s : State) (p : Port) (c : Option Capture) : (s.setCapture p c).capture p = c := by
  cases p <;> rfl

/-- A released port stands in IDLE with nothing held. -/
@[simp] theorem State.release_rx (s : State) (p : Port) : (s.release p).rx p = {} := by cases p <;> rfl

/-- A released port holds no capture. -/
@[simp] theorem State.release_capture (s : State) (p : Port) : (s.release p).capture p = none := by cases p <;> rfl

/-- What releasing the I-port leaves of the line unit. -/
theorem State.release_i_liu (s : State) : (s.release .i).liu = { s.liu with rxI := {} } := rfl

/-- What releasing the F-port leaves of the line unit. -/
theorem State.release_f_liu (s : State) : (s.release .f).liu = { s.liu with rxF := {} } := rfl

@[simp] theorem State.release_lineState (s : State) (p : Port) : (s.release p).liu.lineState = s.liu.lineState := by cases p <;> rfl
@[simp] theorem State.release_phase (s : State) (p : Port) : (s.release p).liu.phase = s.liu.phase := by cases p <;> rfl
@[simp] theorem State.release_round (s : State) (p : Port) : (s.release p).liu.round = s.liu.round := by cases p <;> rfl
@[simp] theorem State.release_node (s : State) (p : Port) : (s.release p).liu.node = s.liu.node := by cases p <;> rfl

/-- The quality class depends on the time base alone (R26). -/
theorem State.quality_congr {s t : State} (h : s.tbu = t.tbu) : s.quality = t.quality := by
  unfold State.quality; rw [h]

/-- The date of an instant depends on the time base alone (R24). -/
theorem State.now_congr {s t : State} (h : s.tbu = t.tbu) : s.now = t.now := by
  unfold State.now; rw [h, State.quality_congr h]

/-! ### The journal -/

/-- What offering a record can do (R151, R152): refuse a MINOR one and count it, or store it. -/
theorem Evj.offer_cases (e : Evj) (body : RecordBody) (date : Date) (flags : Flags) :
    (body.cls = .minor ∧ minorThreshold ≤ e.unread ∧
      e.offer body date flags = { e with minorRefusals := min (e.minorRefusals + 1) maxSeq }) ∨
    ((body.cls ≠ .minor ∨ e.unread < minorThreshold) ∧ e.offer body date flags = e.store body date flags) := by
  unfold Evj.offer
  split
  · rename_i h; exact .inl ⟨h.1, h.2, rfl⟩
  · rename_i h; exact .inr ⟨by rw [not_and_or, not_le] at h; exact h, rfl⟩

/-- A record that is not MINOR is stored (R152). -/
@[simp] theorem Evj.offer_of_not_minor {e : Evj} {body : RecordBody} {date : Date} {flags : Flags} (h : body.cls ≠ .minor) :
    e.offer body date flags = e.store body date flags := by simp [Evj.offer, h]

/-- The new record is the newest (R148). -/
theorem Evj.store_ring (e : Evj) (body : RecordBody) (date : Date) (flags : Flags) :
    (e.store body date flags).ring =
      { seq := e.next, body := body, date := date, flags := flags } :: e.ring.take 16383 := by
  simp [Evj.store, ringSize, List.take_succ_cons]

/-- The next sequence number moves to its successor (R149). -/
@[simp] theorem Evj.store_next (e : Evj) (body : RecordBody) (date : Date) (flags : Flags) :
    (e.store body date flags).next = succSeq e.next := rfl

@[simp] theorem Evj.store_minorRefusals (e : Evj) (body : RecordBody) (date : Date) (flags : Flags) :
    (e.store body date flags).minorRefusals = e.minorRefusals := rfl

@[simp] theorem State.write_evj (s : State) (body : RecordBody) (date : Date) (flags : Flags) :
    (s.write body date flags).evj = s.evj.offer body date flags := rfl

@[simp] theorem State.raise_orh (s : State) (r : Report) : (s.raise r).orh = s.orh.raise r := rfl

@[simp] theorem State.writeReport_evj (s : State) (body : RecordBody) (date : Date) (kind : ReportKind) (flags : Flags) :
    (s.writeReport body date kind flags).evj = s.evj.offer body date flags := rfl

@[simp] theorem State.writeReport_orh (s : State) (body : RecordBody) (date : Date) (kind : ReportKind) (flags : Flags) :
    (s.writeReport body date kind flags).orh =
      s.orh.raise { kind := kind, priority := kind.priority, seq := s.evj.next, date := date, flags := flags
                    summary := .ofRecord body } := rfl

/-! ### The report queue -/

/-- What a report that reaches the queue can do (R197): be admitted; take the place of the last, against a full queue; or be discarded. -/
theorem Orh.raise_cases (o : Orh) (r : Report) :
    (o.reports.length < queueSize ∧ o.raise r = { o with reports := enqueue o.reports r }) ∨
    (∃ last, queueSize ≤ o.reports.length ∧ o.reports.getLast? = some last ∧ r.priority < last.priority ∧
      o.raise r = { o with reports := enqueue o.reports.dropLast r, discarded := countUp o.discarded }) ∨
    (queueSize ≤ o.reports.length ∧ (∀ last, o.reports.getLast? = some last → last.priority ≤ r.priority) ∧
      o.raise r = { o with discarded := countUp o.discarded }) := by
  unfold Orh.raise
  by_cases h : o.reports.length < queueSize
  · exact .inl ⟨h, by rw [if_pos h]⟩
  · rw [if_neg h]
    cases hl : o.reports.getLast? with
    | none => exact .inr (.inr ⟨not_lt.mp h, by simp, rfl⟩)
    | some last =>
      by_cases hp : r.priority < last.priority
      · exact .inr (.inl ⟨last, not_lt.mp h, rfl, hp, by simp [hp]⟩)
      · refine .inr (.inr ⟨not_lt.mp h, ?_, by simp [hp]⟩)
        rintro _ ⟨⟩
        exact not_lt.mp hp

@[simp] theorem Orh.raise_slot (o : Orh) (r : Report) : (o.raise r).slot = o.slot := by
  obtain ⟨-, h⟩ | ⟨_, -, -, -, h⟩ | ⟨-, -, h⟩ := o.raise_cases r <;> rw [h]

@[simp] theorem Orh.raise_params (o : Orh) (r : Report) : (o.raise r).params = o.params := by
  obtain ⟨-, h⟩ | ⟨_, -, -, -, h⟩ | ⟨-, -, h⟩ := o.raise_cases r <;> rw [h]

/-- An admitted report is one more in the queue. -/
@[simp] theorem enqueue_length (q : List Report) (r : Report) : (enqueue q r).length = q.length + 1 := by
  unfold enqueue
  rw [List.length_append, List.length_cons, ← Nat.add_assoc, ← List.length_append, List.takeWhile_append_dropWhile]

/-! ### The reply slot -/

/-- What a reply can do (R187, R188, R189): nothing for a broadcast order, fill an EMPTY slot, or give the reply in a FULL one OVERRUN. -/
theorem State.answer_cases (s : State) (m : Manner) (code : Option Nat) (arrival : Date) (content : ReplyContent) :
    (m = .broadcast ∧ s.answer m code arrival content = s) ∨
    (m = .unicast ∧ s.orh.slot = none ∧ s.answer m code arrival content =
      s.onOrh fun o => { o with slot := some { code := code, arrival := arrival, content := content, sent := 0, overrun := false } }) ∨
    (∃ r, m = .unicast ∧ s.orh.slot = some r ∧ s.answer m code arrival content =
      s.onOrh fun o => { o with slot := some { r with overrun := true } }) := by
  cases m with
  | broadcast => exact .inl ⟨rfl, rfl⟩
  | unicast =>
    cases h : s.orh.slot with
    | none => exact .inr (.inl ⟨rfl, rfl, by simp [State.answer, State.onOrh, h]⟩)
    | some r => exact .inr (.inr ⟨r, rfl, rfl, by simp [State.answer, State.onOrh, h]⟩)

@[simp] theorem State.answer_broadcast (s : State) (code : Option Nat) (arrival : Date) (content : ReplyContent) :
    s.answer .broadcast code arrival content = s := rfl

@[simp] theorem State.refuse_broadcast (s : State) (code : Nat) (arrival : Date) (reason : RefusalReason) :
    s.refuse .broadcast code arrival reason = s := rfl

@[simp] theorem State.answer_params (s : State) (m : Manner) (code : Option Nat) (arrival : Date) (content : ReplyContent) :
    (s.answer m code arrival content).orh.params = s.orh.params := by
  obtain ⟨-, h⟩ | ⟨-, -, h⟩ | ⟨_, -, -, h⟩ := s.answer_cases m code arrival content <;> rw [h] <;> rfl

@[simp] theorem State.answer_reports (s : State) (m : Manner) (code : Option Nat) (arrival : Date) (content : ReplyContent) :
    (s.answer m code arrival content).orh.reports = s.orh.reports := by
  obtain ⟨-, h⟩ | ⟨-, -, h⟩ | ⟨_, -, -, h⟩ := s.answer_cases m code arrival content <;> rw [h] <;> rfl

@[simp] theorem State.refuse_params (s : State) (m : Manner) (code : Nat) (arrival : Date) (reason : RefusalReason) :
    (s.refuse m code arrival reason).orh.params = s.orh.params := State.answer_params ..

/-! ### The relay -/

/-- What an upstream byte given to the hold buffer can do (R7). -/
theorem Liu.hold_cases (l : Liu) (b : Byte) :
    (l.holdBuffer.length < holdSize ∧ l.hold b = { l with holdBuffer := l.holdBuffer ++ [b] }) ∨
    (holdSize ≤ l.holdBuffer.length ∧ l.hold b = l.cutTelegram) := by
  unfold Liu.hold
  split
  · rename_i h; exact .inl ⟨h, rfl⟩
  · rename_i h; exact .inr ⟨not_lt.mp h, rfl⟩

/-- What an upstream byte released to the I-port can do (R7). -/
theorem Liu.relayUp_cases (l : Liu) (b : Byte) :
    (l.tx = .idle ∧ l.holdBuffer = [] ∧ l.relayUp b = { l with tx := .relaying [b] }) ∨
    (∃ direct, l.tx = .relaying direct ∧ l.holdBuffer = [] ∧ l.relayUp b = { l with tx := .relaying (direct ++ [b]) }) ∨
    (((∃ bytes ofSlot, l.tx = .part bytes ofSlot) ∨ l.holdBuffer ≠ []) ∧ l.relayUp b = l.hold b) := by
  unfold Liu.relayUp
  cases ht : l.tx <;> cases hh : l.holdBuffer <;> simp

/-- A downstream byte goes out of the F-port (R5). -/
@[simp] theorem Liu.relay_i (l : Liu) (b : Byte) : l.relay .i b = { l with fOut := l.fOut ++ [b] } := rfl

@[simp] theorem Liu.relay_f (l : Liu) (b : Byte) : l.relay .f b = l.relayUp b := rfl

/-- Downstream bytes go out of the F-port in order (R5). -/
theorem Liu.relayAll_i (l : Liu) (bs : List Byte) : l.relayAll .i bs = { l with fOut := l.fOut ++ bs } := by
  unfold Liu.relayAll
  induction bs generalizing l with
  | nil => simp
  | cons b bs ih => rw [List.foldl_cons, ih]; simp

/-- A free transmitter takes upstream bytes in order (R7). -/
theorem Liu.relayAll_f_of_idle (l : Liu) (b : Byte) (bs : List Byte) (ht : l.tx = .idle) (hh : l.holdBuffer = []) :
    l.relayAll .f (b :: bs) = { l with tx := .relaying (b :: bs) } := by
  have key : ∀ (l : Liu) (d bs : List Byte), l.tx = .relaying d → l.holdBuffer = [] →
      bs.foldl (fun l b => l.relay .f b) l = { l with tx := .relaying (d ++ bs) } := by
    intro l d bs
    induction bs generalizing l d with
    | nil => intro h _; simp [← h]
    | cons b bs ih =>
      intro h h'
      have : l.relay .f b = { l with tx := .relaying (d ++ [b]) } := by simp [Liu.relayUp, h, h']
      rw [List.foldl_cons, this, ih { l with tx := .relaying (d ++ [b]) } (d ++ [b]) rfl h']
      simp
  unfold Liu.relayAll
  have : l.relay .f b = { l with tx := .relaying [b] } := by simp [Liu.relayUp, ht, hh]
  rw [List.foldl_cons, this, key { l with tx := .relaying [b] } [b] bs rfl hh]
  simp

end Sys2Proof.Machine
end

