-- ==== Sys2Proof/Laws/Journal.lean ====
section
/-! SUPPORT. What each shared operation that writes does to the journal: it stores new records after the old ones, numbered on, and at most so many. -/

namespace Sys2Proof.Machine

/-! ### Numbers and growth -/

/-- The second of two runs of numbers begins where the first ends. -/
theorem numbersFrom_append (n next : Nat) (numbers : List Nat) (k : Nat)
    (h : numbers ++ [next] = numbersFrom n (numbers.length + 1)) :
    numbers ++ numbersFrom next (k + 1) = numbersFrom n (numbers.length + k + 1) := by
  induction numbers generalizing n with
  | nil =>
    obtain rfl : next = n := by simpa [numbersFrom] using h
    simp
  | cons x numbers ih =>
    obtain ⟨rfl, h⟩ : x = n ∧ numbers ++ [next] = numbersFrom (if n = 4294967295 then 1 else n + 1) (numbers.length + 1) := by
      simpa [numbersFrom] using h
    rw [List.cons_append, ih _ h, List.length_cons, show numbers.length + 1 + k + 1 = (numbers.length + k + 1) + 1 by omega]
    rfl

/-- Nothing stored. -/
theorem Evj.Grown.refl {e : Evj} (h : e.stored ≤ 16384) : e.Grown e [] where
  ring := (List.take_of_length_le h).symm
  numbers := rfl

/-- Records stored, and then more. -/
theorem Evj.Grown.trans {a b c : Evj} {xs ys : List Record} (h : a.Grown b xs) (h' : b.Grown c ys) : a.Grown c (ys ++ xs) where
  ring := by
    rw [h'.ring, h.ring, List.append_assoc, List.take_append, List.take_append (l₁ := ys), List.take_take]
    congr 2
    omega
  numbers := by
    have h1 := numbersFrom_append a.next b.next (xs.reverse.map (·.seq)) ys.length (by simpa using h.numbers)
    rw [List.reverse_append, List.map_append, List.append_assoc, h'.numbers, h1]
    congr 1
    simp only [List.length_map, List.length_reverse, List.length_append]
    omega

/-- One record stored. -/
theorem Evj.Grown.store (e : Evj) (body : RecordBody) (date : Date) (flags : Flags) :
    e.Grown (e.store body date flags) [{ seq := e.next, body := body, date := date, flags := flags }] where
  ring := rfl
  numbers := rfl

/-- The ring keeps within its size. -/
theorem Evj.Grown.stored_le {a b : Evj} {xs : List Record} (h : a.Grown b xs) : b.stored ≤ 16384 := by
  rw [Evj.stored, h.ring]
  exact List.length_take_le ..

/-- At most `n` records stored, from a ring within its size. -/
structure Evj.Wrote (old new : Evj) (n : Nat) : Prop where
  grown : old.stored ≤ 16384 → ∃ more, old.Grown new more ∧ more.length ≤ n

theorem Evj.Wrote.refl (e : Evj) (n : Nat) : e.Wrote e n := ⟨fun h => ⟨[], .refl h, Nat.zero_le n⟩⟩

theorem Evj.Wrote.of_eq {a b : Evj} (h : b = a) (n : Nat) : a.Wrote b n := h ▸ .refl _ n

theorem Evj.Wrote.trans {a b c : Evj} {m n : Nat} (h : a.Wrote b m) (h' : b.Wrote c n) : a.Wrote c (m + n) := ⟨fun ha => by
  obtain ⟨xs, hx, hm⟩ := h.grown ha
  obtain ⟨ys, hy, hn⟩ := h'.grown hx.stored_le
  exact ⟨ys ++ xs, hx.trans hy, by rw [List.length_append]; omega⟩⟩

theorem Evj.Wrote.mono {a b : Evj} {m n : Nat} (h : a.Wrote b m) (hmn : m ≤ n) : a.Wrote b n := ⟨fun ha => by
  obtain ⟨more, hg, hl⟩ := h.grown ha
  exact ⟨more, hg, hl.trans hmn⟩⟩

theorem Evj.Wrote.store (e : Evj) (body : RecordBody) (date : Date) (flags : Flags) : e.Wrote (e.store body date flags) 1 :=
  ⟨fun _ => ⟨_, .store e body date flags, le_refl 1⟩⟩

theorem Evj.Wrote.offer (e : Evj) (body : RecordBody) (date : Date) (flags : Flags) : e.Wrote (e.offer body date flags) 1 := by
  obtain ⟨-, -, h⟩ | ⟨-, h⟩ := e.offer_cases body date flags <;> rw [h]
  · exact ⟨fun he => ⟨[], ⟨(List.take_of_length_le he).symm, rfl⟩, Nat.zero_le 1⟩⟩
  · exact .store ..

/-- A fold writes what its steps write. -/
theorem foldl_wrote {β : Type} (f : State → β → State) (g : β → Nat)
    (h : ∀ (s : State) (b : β), s.evj.Wrote (f s b).evj (g b)) (l : List β) (s : State) :
    s.evj.Wrote (l.foldl f s).evj (l.map g).sum := by
  induction l generalizing s with
  | nil => exact .refl ..
  | cons b l ih => exact (h s b).trans (ih _)

/-- A fold whose steps write at most one record each. -/
theorem foldl_wrote_one {β : Type} (f : State → β → State) (h : ∀ (s : State) (b : β), s.evj.Wrote (f s b).evj 1) (l : List β)
    (s : State) : s.evj.Wrote (l.foldl f s).evj l.length := by
  simpa using foldl_wrote f (fun _ => 1) h l s

theorem State.write_wrote (s : State) (body : RecordBody) (date : Date) (flags : Flags) :
    s.evj.Wrote (s.write body date flags).evj 1 := Evj.Wrote.offer ..

theorem State.writeReport_wrote (s : State) (body : RecordBody) (date : Date) (kind : ReportKind) (flags : Flags) :
    s.evj.Wrote (s.writeReport body date kind flags).evj 1 := Evj.Wrote.offer ..

theorem State.writeIf_wrote (s : State) (asked : Bool) (body : RecordBody) (date : Date) (flags : Flags) :
    s.evj.Wrote (s.writeIf asked body date flags).evj 1 := by
  unfold State.writeIf
  split
  · exact s.write_wrote ..
  · exact .refl ..

/-! ### Movements -/

theorem State.closeMovement_wrote (s : State) (position : Nat) (r : Movement) (outcome : MovementOutcome)
    (reason : Option AbandonReason) (ending : Instant) (flags : Flags) :
    s.evj.Wrote (s.closeMovement position r outcome reason ending flags).evj 1 := by
  simp only [State.closeMovement, State.onMvs_evj, State.onElement_frame]
  split
  · exact s.writeReport_wrote ..
  · exact s.write_wrote ..

theorem State.closeAll_wrote (s : State) (reason : AbandonReason) (ending : Instant) :
    s.evj.Wrote (s.closeAll reason ending).evj 64 := by
  refine (foldl_wrote_one _ (fun s position => ?_) (List.range 64) s).mono (by simp)
  split
  · exact s.closeMovement_wrote ..
  · exact .refl ..

theorem State.openMovement_wrote (s : State) (index : Nat) (e : LiveElement) (target : Nat) (arrival : Instant) :
    s.evj.Wrote (s.openMovement index e target arrival).evj 1 := by
  unfold State.openMovement
  split
  · exact .refl ..
  · exact s.writeReport_wrote ..
  · split
    · exact .of_eq (by simp) 1
    · exact s.writeReport_wrote ..

/-- A command change writes at most the MOVEMENT END of what it supersedes and a MOVEMENT UNSUPERVISED. -/
theorem State.commandChange_wrote (s : State) (index target : Nat) (arrival : Instant) :
    s.evj.Wrote (s.commandChange index target arrival).evj 2 := by
  unfold State.commandChange
  split
  · rename_i e _
    dsimp only
    split
    · rename_i position r _
      exact (s.closeMovement_wrote position r .superseded none arrival {}).trans (State.openMovement_wrote ..)
    · exact (s.openMovement_wrote index e target arrival).mono (by omega)
  · exact .refl ..

theorem State.indicationToMvs_wrote (s : State) (index code : Nat) (event : EventInstant) :
    s.evj.Wrote (s.indicationToMvs index code event).evj 1 := by
  unfold State.indicationToMvs
  split
  · split
    · split
      · exact .refl ..
      · exact .of_eq (by simp) 1
      · dsimp only
        split
        · simpa using s.closeMovement_wrote ..
        · exact s.closeMovement_wrote ..
    · exact .refl ..
  · exact .refl ..

/-! ### The timetable -/

theorem State.judgePassing_wrote (s : State) (x : PassingItems) : s.evj.Wrote (s.judgePassing x).evj 1 := by
  unfold State.judgePassing
  split
  · exact s.writeReport_wrote ..
  · split
    · simp only [State.matchPassing, apply_ite State.evj, State.raise_frame, State.onTtc_evj, ite_self]
      exact s.write_wrote ..
    · exact s.writeReport_wrote ..

theorem State.missEntry_wrote (s : State) (w : PlaneName) (day : Int) (i : Nat) (slot : Option Nat) (e : TimetableEntry) :
    s.evj.Wrote (s.missEntry w day i slot e).evj 1 := State.writeReport_wrote (s.onTtc _) ..

/-- The base cursor writes at most one MISSED record an entry. -/
theorem State.sweepBase_wrote (s : State) (w : PlaneName) (fuel : Nat) : s.evj.Wrote (s.sweepBase w fuel).evj fuel := by
  induction fuel generalizing s with
  | zero => exact .refl ..
  | succ fuel ih =>
    unfold State.sweepBase
    split
    · exact .refl ..
    · split
      · exact .refl ..
      · split
        · dsimp only
          split
          · exact Nat.add_comm 1 fuel ▸ (State.missEntry_wrote (s.onTtc _) ..).trans (ih _)
          · exact (ih (s.onTtc _)).mono (by omega)
        · exact .refl ..

theorem State.scanSlot_wrote (s : State) (k : Nat) (w : PlaneName) : s.evj.Wrote (s.scanSlot k w).evj 1 := by
  unfold State.scanSlot
  split
  · split
    · dsimp only
      split
      · exact s.missEntry_wrote ..
      · exact .refl ..
    · exact .refl ..
  · exact .refl ..

/-- A scan of the slots writes at most one MISSED record for a slot and a plane. -/
theorem State.scanSlots_wrote (s : State) (planes : List PlaneName) :
    s.evj.Wrote (s.scanSlots planes).evj (64 * planes.length) :=
  (foldl_wrote _ (fun _ => planes.length) (fun s k => foldl_wrote_one _ (fun s w => s.scanSlot_wrote k w) planes s) (List.range 64)
    s).mono (by rw [List.map_const', List.sum_replicate, List.length_range]; exact le_refl _)

theorem State.missEntry_entries (s : State) (w : PlaneName) (day : Int) (i : Nat) (slot : Option Nat) (e : TimetableEntry) :
    (s.missEntry w day i slot e).ttc.entries = s.ttc.entries := rfl

theorem State.sweepBase_entries (s : State) (w : PlaneName) (fuel : Nat) : (s.sweepBase w fuel).ttc.entries = s.ttc.entries := by
  induction fuel generalizing s with
  | zero => rfl
  | succ fuel ih =>
    unfold State.sweepBase
    split
    · rfl
    · split
      · rfl
      · split
        · dsimp only
          split <;> exact ih _
        · rfl

theorem State.scanSlot_entries (s : State) (k : Nat) (w : PlaneName) : (s.scanSlot k w).ttc.entries = s.ttc.entries := by
  unfold State.scanSlot
  split
  · split
    · dsimp only
      split <;> rfl
    · rfl
  · rfl

theorem State.scanSlots_entries (s : State) (planes : List PlaneName) : (s.scanSlots planes).ttc.entries = s.ttc.entries :=
  foldl_keeps (·.ttc.entries) _ (fun s k => foldl_keeps (·.ttc.entries) _ (fun s w => s.scanSlot_entries k w) planes s) _ s

/-- A sweep keeps the timetable bank. -/
theorem State.sweepPlanes_entries (s : State) : s.sweepPlanes.ttc.entries = s.ttc.entries := by
  rw [State.sweepPlanes, State.scanSlots_entries, State.sweepBase_entries, State.sweepBase_entries]

theorem State.sweepPlanes_wrote (s : State) : s.evj.Wrote s.sweepPlanes.evj (2 * s.ttc.entries.length + 128) :=
  (((s.sweepBase_wrote .previous s.ttc.entries.length).trans (State.sweepBase_wrote _ .current s.ttc.entries.length)).trans
    (State.scanSlots_wrote _ [.previous, .current])).mono (by simp; omega)

theorem State.rollOverIfDue_wrote (s : State) : s.evj.Wrote s.rollOverIfDue.evj (s.ttc.entries.length + 64) := by
  unfold State.rollOverIfDue
  split
  · split
    · exact ((State.sweepBase_wrote (s.onTtc _) .current s.ttc.entries.length).trans (State.scanSlots_wrote _ [.current])).mono
        (by simp)
    · exact .refl ..
  · exact .refl ..

/-- A sweep event writes at most one MISSED record for each entry of three planes, and for each slot and plane. -/
theorem State.sweepEvent_wrote (s : State) : s.evj.Wrote s.sweepEvent.evj (3 * s.ttc.entries.length + 192) := by
  unfold State.sweepEvent
  split
  · exact (s.sweepPlanes_wrote.trans (State.rollOverIfDue_wrote _)).mono (by rw [State.sweepPlanes_entries]; omega)
  · exact .refl ..

theorem State.remakePlanes_wrote (s : State) (cause : ResetCause) : s.evj.Wrote (s.remakePlanes cause).evj 1 :=
  State.write_wrote (s.onTtc _) ..

theorem State.announceToTtc_wrote (s : State) (a : Announcement) :
    s.evj.Wrote (s.announceToTtc a).evj (3 * s.ttc.entries.length + 192) := by
  unfold State.announceToTtc
  split
  · split
    · exact (s.remakePlanes_wrote _).mono (by omega)
    · exact .refl ..
  · split
    · split
      · exact (s.remakePlanes_wrote _).mono (by omega)
      · exact s.sweepEvent_wrote
    · split
      · exact (s.remakePlanes_wrote _).mono (by omega)
      · exact s.sweepEvent_wrote
    · exact s.sweepEvent_wrote

theorem State.applyTimetable_wrote (s : State) : s.evj.Wrote s.applyTimetable.evj 1 := by
  unfold State.applyTimetable
  dsimp only
  split
  · exact .refl ..
  · exact State.remakePlanes_wrote (s.onTtc _) .apply

/-! ### Passings -/

theorem State.edgeAtPoint_wrote (s : State) (x : SectionEdge) (point : Nat) : s.evj.Wrote (s.edgeAtPoint x point).evj 1 := by
  unfold State.edgeAtPoint
  split
  · split
    · split
      · simpa [State.bounceAt] using Evj.Wrote.offer s.evj _ x.event.date x.event.flags
      · unfold State.passingAt
        dsimp only
        split
        · simpa using State.judgePassing_wrote (s.onPoint point (PointRecord.passed x)) _
        · simpa using Evj.Wrote.offer s.evj _ x.event.date x.event.flags
    · exact .refl ..
  · exact .refl ..

/-- An edge writes at most one record a timing point. -/
theorem State.takeEdge_wrote (s : State) (x : SectionEdge) : s.evj.Wrote (s.takeEdge x).evj s.psd.points.length :=
  (foldl_wrote_one _ (fun s point => s.edgeAtPoint_wrote x point) (List.range s.psd.points.length) s).mono (by simp)

/-! ### An APPLY -/

theorem State.carryMovement_wrote (s : State) (new : List Element) (ending : Instant) (position : Nat) :
    s.evj.Wrote (s.carryMovement new ending position).evj 1 := by
  unfold State.carryMovement
  split
  · split
    · exact .of_eq (by simp) 1
    · exact s.closeMovement_wrote ..
  · exact .refl ..

theorem State.dropQueue_wrote (s : State) (oldElements : List Element) (point : Nat) (p : LivePoint) (date : Date) :
    s.evj.Wrote (s.dropQueue oldElements point p date).evj p.record.queue.length :=
  foldl_wrote_one _ (fun s _ => s.writeReport_wrote ..) _ s

/-- Dropping the queues writes at most one record for each number they hold. -/
theorem State.dropQueues_wrote (s : State) (oldElements : List Element) (old : List LivePoint) (taken : List (Option Nat))
    (date : Date) :
    s.evj.Wrote (s.dropQueues oldElements old taken date).evj (old.map fun p => p.record.queue.length).sum := by
  refine (foldl_wrote _ (fun j => ((old[j]?).map fun p => p.record.queue.length).getD 0) (fun s j => ?_) (List.range old.length)
    s).mono (le_of_eq ?_)
  · split
    · rename_i p h
      split
      · exact .refl ..
      · simpa [h] using s.dropQueue_wrote oldElements j p date
    · exact .refl ..
  · congr 1
    apply List.ext_getElem <;> simp
    intro i h
    simp [h]

/-- A LAYOUT apply writes at most a MOVEMENT END for each position and a record for each number queued. -/
theorem State.applyLayout_wrote (s : State) (ending : Instant) :
    s.evj.Wrote (s.applyLayout ending).evj (64 + (s.psd.points.map fun p => p.record.queue.length).sum) := by
  unfold State.applyLayout
  extract_lets newElements newPoints oldElements oldPoints matched s1 s2 s3
  have h : s.evj.Wrote s1.evj (List.range 64).length :=
    foldl_wrote_one _ (fun s position => s.carryMovement_wrote newElements ending position) _ s
  rw [List.length_range] at h
  clear_value s1
  exact h.trans (s3.dropQueues_wrote ..)

theorem State.takeApply_wrote (s : State) (scope : Scope) (trigger : ApplyTrigger) (ending : Instant) :
    s.evj.Wrote (s.takeApply scope trigger ending).evj (1 + (64 + (s.psd.points.map fun p => p.record.queue.length).sum) + 1) := by
  have h1 := s.writeReport_wrote (s.applyRecord scope trigger) ending.date .applyDone {}
  have h2 := State.applyLayout_wrote (s.writeReport (s.applyRecord scope trigger) ending.date .applyDone) ending
  simp only [State.writeReport_frame] at h2
  simp only [State.takeApply, State.onLys_evj]
  cases scope with
  | layout => exact (h1.trans h2).mono (Nat.le_succ _)
  | timetable =>
    exact (h1.trans (State.applyTimetable_wrote (s.writeReport (s.applyRecord .timetable trigger) ending.date .applyDone))).mono
      (by omega)
  | both => exact (h1.trans h2).trans (State.applyTimetable_wrote _)

theorem State.takeArmed_wrote (s : State) (trigger : ApplyTrigger) (ending : Instant) :
    s.evj.Wrote (s.takeArmed trigger ending).evj (66 + (s.psd.points.map fun p => p.record.queue.length).sum) := by
  unfold State.takeArmed
  split
  · exact (s.takeApply_wrote ..).mono (by omega)
  · exact .refl ..

/-! ### Clock lines -/

theorem State.evaluateLine_wrote (s : State) (l : ClockLineName) (atBoundary : Bool) :
    s.evj.Wrote (s.evaluateLine l atBoundary).evj 1 := by
  simp only [State.evaluateLine, State.startLine_frame]
  split
  · exact .of_eq (by simp) 1
  · simpa using Evj.Wrote.offer s.evj ..

theorem State.applySet_wrote (s : State) (l : ClockLineName) (set : ClockSet) : s.evj.Wrote (s.applySet l set).evj 1 := by
  cases set <;> simpa [State.applySet] using Evj.Wrote.offer s.evj ..

theorem State.applyPendingSet_wrote (s : State) (l : ClockLineName) : s.evj.Wrote (s.applyPendingSet l).evj 1 := by
  unfold State.applyPendingSet
  split
  · simpa using State.applySet_wrote (s.onLine l fun x => { x with pendingSet := none }) l _
  · exact .refl ..

theorem State.takeSet_wrote (s : State) (l : ClockLineName) (set : ClockSet) : s.evj.Wrote (s.takeSet l set).evj 1 := by
  unfold State.takeSet
  split
  · exact .of_eq (by simp) 1
  · exact s.applySet_wrote l set

/-- A completed impulse writes at most its own record and that of the set held. -/
theorem State.completeImpulse_wrote (s : State) (l : ClockLineName) (impulse : Impulse) (sense : Sense) :
    s.evj.Wrote (s.completeImpulse l impulse sense).evj 2 := by
  have hok : ∀ t : State, t.evj.Wrote (t.normalOk l).evj 2 := fun t => by
    unfold State.normalOk
    dsimp only
    split
    · simpa using (State.applyPendingSet_wrote (t.onLine l ClockLine.stepped) l).mono (Nat.le_succ 1)
    · simpa using (State.evaluateLine_wrote (t.onLine l ClockLine.stepped) l _).mono (Nat.le_succ 1)
  have hfailed : ∀ (sense : Sense) (t : State), t.evj.Wrote (t.normalFailed l sense).evj 2 := fun sense t => by
    simpa [State.normalFailed] using (State.writeReport_wrote (t.onLine l _) ..).trans (State.applyPendingSet_wrote _ l)
  have hprobe : ∀ t : State, t.evj.Wrote (t.probeOk l).evj 2 := fun t => by
    unfold State.probeOk
    dsimp only
    split
    · simpa using (State.writeReport_wrote (t.onLine l _) ..).trans (State.applyPendingSet_wrote _ l)
    · simpa using (Evj.Wrote.offer t.evj _ _ _).mono (Nat.le_succ 1)
  have hprobeFailed : ∀ t : State, t.evj.Wrote (t.probeFailed l).evj 2 := fun t => by
    simpa [State.probeFailed] using (State.applyPendingSet_wrote (t.onLine l _) l).mono (Nat.le_succ 1)
  obtain ⟨kind, _⟩ := impulse
  cases kind <;> cases sense
  all_goals simp only [State.completeImpulse]
  · simpa using hok (s.onLine l _)
  · simpa using hfailed .openCircuit (s.onLine l _)
  · simpa using hfailed .shortCircuit (s.onLine l _)
  · simpa using hprobe (s.onLine l _)
  · simpa using hprobeFailed (s.onLine l _)
  · simpa using hprobeFailed (s.onLine l _)

theorem State.announceToLine_wrote (s : State) (l : ClockLineName) : s.evj.Wrote (s.announceToLine l).evj 1 := by
  unfold State.announceToLine
  split
  · exact s.evaluateLine_wrote ..
  · exact .refl ..

theorem State.announceToLines_wrote (s : State) : s.evj.Wrote s.announceToLines.evj 2 := by
  unfold State.announceToLines
  split
  · dsimp only
    split <;> exact (State.announceToLine_wrote (s.onClk _) _).trans (State.announceToLine_wrote ..)
  · exact (s.announceToLine_wrote .a).trans (State.announceToLine_wrote ..)

/-! ### What takes the most -/

/-- A time change announcement writes at most what a sweep event and the two lines do. -/
theorem State.announce_wrote (s : State) (a : Announcement) : s.evj.Wrote (s.announce a).evj (3 * s.ttc.entries.length + 192 + 2) :=
  (s.announceToTtc_wrote a).trans (State.announceToLines_wrote _)

theorem State.applySeasonIfReached_wrote (s : State) : s.evj.Wrote s.applySeasonIfReached.evj 1 := by
  unfold State.applySeasonIfReached
  split
  · split
    · exact State.writeReport_wrote (s.onTbu _) ..
    · exact .refl ..
  · exact .refl ..

/-- A STEP writes at most the TIME STEP and SEASON records and what its announcement does. -/
theorem State.stepMark_wrote (s : State) (n : Nat) (e : Int) (labelled : Bool) :
    s.evj.Wrote (s.stepMark n e labelled).evj (1 + 1 + (3 * s.ttc.entries.length + 192 + 2)) := by
  have h : s.evj.Wrote (s.stepClock n e labelled).evj (1 + 1) :=
    (State.writeReport_wrote (s.onTbu fun t => t.stepped n) ..).trans (State.applySeasonIfReached_wrote _)
  have hTtc : (s.stepClock n e labelled).ttc = s.ttc := by simp [State.stepClock]
  exact hTtc ▸ h.trans (State.announce_wrote (s.stepClock n e labelled) _)

theorem State.lineKnowledgeLost_wrote (s : State) (ending : Instant) : s.evj.Wrote (s.lineKnowledgeLost ending).evj 64 :=
  State.closeAll_wrote (s.onElements _) .line ending

/-- The loss of the line writes at most its record, the MOVEMENT END of every movement, and what an armed APPLY does. -/
theorem State.loseLine_wrote (s : State) :
    s.evj.Wrote s.loseLine.evj (1 + 64 + (66 + (s.psd.points.map fun p => p.record.queue.length).sum)) := by
  unfold State.loseLine
  extract_lets s1 s2
  have h : s.evj.Wrote (s2.lineKnowledgeLost s.nowInstant).evj (1 + 64) :=
    (s1.writeReport_wrote ..).trans (s2.lineKnowledgeLost_wrote s.nowInstant)
  have hPsd : (s2.lineKnowledgeLost s.nowInstant).psd = s.psd := by simp [s2, s1]
  exact hPsd ▸ h.trans (State.takeArmed_wrote ..)

/-- A valid indication writes at most its own record, a MOVEMENT END, and one record a timing point. -/
theorem State.validIndication_wrote (s : State) (index : Nat) (e : LiveElement) (code : Nat) (event : EventInstant) :
    s.evj.Wrote (s.validIndication index e code event).evj (1 + 1 + s.psd.points.length) := by
  have h1 : s.evj.Wrote ((s.onElement index fun x => x.indicated e.entry.kind code event).indicationRecord index e code event).evj 1 := by
    unfold State.indicationRecord
    split <;> simpa using State.writeIf_wrote (s.onElement index fun x => x.indicated e.entry.kind code event) ..
  unfold State.validIndication
  extract_lets s1 s2
  have h2 : s.evj.Wrote s2.evj (1 + 1) ∧ s2.psd = s.psd := by
    simp only [s2]
    split
    · exact ⟨h1.trans (s1.indicationToMvs_wrote ..), by simp [s1]⟩
    · exact ⟨h1.mono (by omega), by simp [s1]⟩
  split
  · exact h2.2 ▸ h2.1.trans (s2.takeEdge_wrote _)
  · exact h2.1.mono (by omega)

end Sys2Proof.Machine
end

