-- ==== Sys2Proof/Laws/PerInstr.lean ====
section
/-! SUPPORT. A family stated per command: the table gives no row any bits, so no word spells the command (Decode.lean). -/

namespace Sys2Proof.Laws.NoWordSpells

/-- No word of any width spells the command. -/
def Statement (i : Instr) : Prop := ∀ nbits w, decodeTableWord nbits w ≠ some i

theorem byteArrival (port : Port) (b : Byte) : Statement (.byteArrival port b) := nofun
theorem lineSilent (port : Port) : Statement (.lineSilent port) := nofun
theorem telegramNotInterpreted (port : Port) (kind : Nat) (address : Nat) (payload : List Byte) (check : Nat) :
    Statement (.telegramNotInterpreted port kind address payload check) := nofun
theorem roundOpen (number : Nat) : Statement (.roundOpen number) := nofun
theorem roundClose : Statement .roundClose := nofun
theorem lineReset : Statement .lineReset := nofun
theorem lossExpiry : Statement .lossExpiry := nofun
theorem partTelegramStart : Statement .partTelegramStart := nofun
theorem partTelegramEnd : Statement .partTelegramEnd := nofun
theorem command (address : Nat) (code : Nat) : Statement (.command address code) := nofun
theorem indication (address : Nat) (code : Nat) (age : Option Nat) : Statement (.indication address code age) := nofun
theorem mark : Statement .mark := nofun
theorem trimCarry : Statement .trimCarry := nofun
theorem slewTick : Statement .slewTick := nofun
theorem season : Statement .season := nofun
theorem holdoverExpiry : Statement .holdoverExpiry := nofun
theorem holdoverLimit : Statement .holdoverLimit := nofun
theorem sweep : Statement .sweep := nofun
theorem limitExpiry (position : Nat) : Statement (.limitExpiry position) := nofun
theorem abandonExpiry (position : Nat) : Statement (.abandonExpiry position) := nofun
theorem intervalBoundary (line : ClockLineName) : Statement (.intervalBoundary line) := nofun
theorem spacingExpiry (line : ClockLineName) : Statement (.spacingExpiry line) := nofun
theorem impulseCompletion (line : ClockLineName) (sense : Sense) : Statement (.impulseCompletion line sense) := nofun
theorem probeExpiry (line : ClockLineName) : Statement (.probeExpiry line) := nofun
theorem timeMark (manner : Manner) (second : Nat) : Statement (.timeMark manner second) := nofun
theorem timeSet (manner : Manner) (ms : Nat) (offset : Nat) : Statement (.timeSet manner ms offset) := nofun
theorem seasonChange (manner : Manner) (offset : Nat) (minute : Nat) : Statement (.seasonChange manner offset minute) := nofun
theorem configWrite (manner : Manner) (parameter : Nat) (value : Int) : Statement (.configWrite manner parameter value) := nofun
theorem elementWrite (manner : Manner) (index : Nat) (address : Nat) (kind : Nat) (limit : Nat) (cls : Nat) (used : Nat) :
    Statement (.elementWrite manner index address kind limit cls used) := nofun
theorem pointWrite (manner : Manner) (index : Nat) (sect : Nat) (edge : Nat) (signal : Nat) (threshold : Nat) (mode : Nat) (used : Nat) :
    Statement (.pointWrite manner index sect edge signal threshold mode used) := nofun
theorem timetableWrite (manner : Manner) (first : Nat) (count : Nat) (entries : List RawEntry) :
    Statement (.timetableWrite manner first count entries) := nofun
theorem apply (manner : Manner) (scope : Nat) : Statement (.apply manner scope) := nofun
theorem overlayWrite (manner : Manner) (slot : Nat) (target : Nat) (action : Nat) (train : TrainNumber) (point : Nat) (booked : Nat) (mask : Nat) :
    Statement (.overlayWrite manner slot target action train point booked mask) := nofun
theorem overlayClear (manner : Manner) (slot : Nat) : Statement (.overlayClear manner slot) := nofun
theorem trainIdent (manner : Manner) (point : Nat) (train : TrainNumber) : Statement (.trainIdent manner point train) := nofun
theorem trainCancel (manner : Manner) (train : TrainNumber) (point : Nat) : Statement (.trainCancel manner train point) := nofun
theorem journalRead (manner : Manner) (start : Nat) (count : Nat) : Statement (.journalRead manner start count) := nofun
theorem tableRead (manner : Manner) (table : Nat) (selector : Nat) (index : Nat) : Statement (.tableRead manner table selector index) := nofun
theorem statusRead (manner : Manner) : Statement (.statusRead manner) := nofun
theorem clockLineSetRun (manner : Manner) (line : Nat) (interval : Nat) (shown : Nat) (polarity : Nat) :
    Statement (.clockLineSetRun manner line interval shown polarity) := nofun
theorem clockLineSetStop (manner : Manner) (line : Nat) : Statement (.clockLineSetStop manner line) := nofun
theorem restart (manner : Manner) : Statement (.restart manner) := nofun
theorem orderRefusedForm (manner : Manner) (payload : List Byte) : Statement (.orderRefusedForm manner payload) := nofun
theorem powerOn (straps : Nat) (rate : LineRate) : Statement (.powerOn straps rate) := nofun
theorem relayedByteSent : Statement .relayedByteSent := nofun

end Sys2Proof.Laws.NoWordSpells
end

