-- ==== Sys2Proof/Laws/TimeBase.lean ====
section
/-! SUPPORT. What the operations do to the time base: ST never falls in its advance (R21), RT is moved by none, and T by a SLEW alone (R19, R22). -/

namespace Sys2Proof.Machine

@[simp] theorem Tbu.learn_rt (t : Tbu) (e : Int) : (t.learn e).rt = t.rt := by unfold Tbu.learn; split <;> rfl
@[simp] theorem Tbu.slewCounts_rt (t : Tbu) (e : Int) : (t.slewCounts e).rt = t.rt := by
  simp only [Tbu.slewCounts]; (repeat' split) <;> rfl
@[simp] theorem Tbu.slewCounts_trim (t : Tbu) (e : Int) : (t.slewCounts e).trim = t.trim := by
  simp only [Tbu.slewCounts]; (repeat' split) <;> rfl
@[simp] theorem Tbu.slewed_rt (t : Tbu) (e : Int) : (t.slewed e).rt = t.rt := by simp [Tbu.slewed]
@[simp] theorem Tbu.set_rt (t : Tbu) (st season : Nat) : (t.set st season).rt = t.rt := rfl
@[simp] theorem Tbu.set_trim (t : Tbu) (st season : Nat) : (t.set st season).trim = t.trim := rfl
@[simp] theorem Tbu.stepped_rt (t : Tbu) (n : Nat) : (t.stepped n).rt = t.rt := rfl
@[simp] theorem Tbu.stepped_trim (t : Tbu) (n : Nat) : (t.stepped n).trim = t.trim := rfl

/-! ### ST's advance -/

/-- What an adjustment can do to a count of ST (R20, R21): a gain, a skip, or a skip lost. -/
theorem State.adjusted_cases (s : State) (direction : Int) (st : Nat) :
    (0 < direction ∧ s.adjusted direction st = stUp st) ∨
    (direction ≤ 0 ∧ s.clk.stReached ≤ s.clk.stMark ∧ s.adjusted direction st = st) ∨
    (direction ≤ 0 ∧ s.clk.stMark < s.clk.stReached ∧ s.adjusted direction st = st - 1) := by
  unfold State.adjusted State.skipLost stDown
  split
  · exact .inl ⟨‹_›, rfl⟩
  · rename_i h
    split <;> rename_i h' <;> simp only [decide_eq_true_eq, not_le] at h'
    · exact .inr (.inl ⟨by omega, h', rfl⟩)
    · exact .inr (.inr ⟨by omega, h', rfl⟩)

/-- A gain raises ST by at most 1 and never lowers it (R20). -/
theorem stUp_bounds (st : Nat) : st ≤ stUp st ∧ stUp st ≤ st + 1 := by unfold stUp; split <;> omega

/-- ST never falls in its advance (R21): an adjustment does not take what it has reached below what it began at. -/
theorem State.adjusted_reached (s : State) (direction : Int) (h : s.clk.stMark ≤ s.clk.stReached) :
    s.clk.stMark ≤ s.adjusted direction s.clk.stReached := by
  have := stUp_bounds s.clk.stReached
  obtain ⟨-, h1⟩ | ⟨-, -, h1⟩ | ⟨-, _, h1⟩ := s.adjusted_cases direction s.clk.stReached <;> omega

/-! ### RT -/

@[simp] theorem State.applySeason_rt (s : State) (offset minute : Nat) :
    (s.applySeason offset minute).tbu.rt = s.tbu.rt := by
  simp [State.applySeason]

@[simp] theorem State.applySeasonIfReached_rt (s : State) :
    s.applySeasonIfReached.tbu.rt = s.tbu.rt := by
  simp only [State.applySeasonIfReached]; (repeat' split) <;> simp

@[simp] theorem State.takeSeason_rt (s : State) :
    s.takeSeason.tbu.rt = s.tbu.rt := by
  unfold State.takeSeason; split <;> simp

@[simp] theorem State.stepClock_rt (s : State) (n : Nat) (e : Int) (labelled : Bool) :
    (s.stepClock n e labelled).tbu.rt = s.tbu.rt := by
  simp [State.stepClock]

@[simp] theorem State.stepMark_rt (s : State) (n : Nat) (e : Int) (labelled : Bool) :
    (s.stepMark n e labelled).tbu.rt = s.tbu.rt := by
  simp [State.stepMark]

@[simp] theorem State.slewMark_rt (s : State) (e : Int) :
    (s.slewMark e).tbu.rt = s.tbu.rt := by
  simp only [State.slewMark]; split <;> simp

@[simp] theorem State.rejectMark_rt (s : State) (n : Nat) (e : Int) (labelled : Bool) :
    (s.rejectMark n e labelled).tbu.rt = s.tbu.rt := by
  simp [State.rejectMark]

@[simp] theorem State.actOnMark_rt (s : State) (n : Nat) (labelled : Bool) :
    (s.actOnMark n labelled).tbu.rt = s.tbu.rt := by
  simp only [State.actOnMark]; (repeat' split) <;> simp

@[simp] theorem State.takeMark_rt (s : State) :
    s.takeMark.tbu.rt = s.tbu.rt := by
  simp only [State.takeMark]; (repeat' split) <;> simp

@[simp] theorem State.takeHoldoverLimit_rt (s : State) :
    s.takeHoldoverLimit.tbu.rt = s.tbu.rt := by
  unfold State.takeHoldoverLimit; split <;> simp

@[simp] theorem State.orderTimeMark_rt (s : State) (m : Manner) (c : Capture) (second : Nat) :
    (s.orderTimeMark m c second).tbu.rt = s.tbu.rt := by
  unfold State.orderTimeMark; split <;> simp

@[simp] theorem State.setTime_rt (s : State) (ms offset : Nat) :
    (s.setTime ms offset).tbu.rt = s.tbu.rt := by
  simp [State.setTime]

@[simp] theorem State.orderTimeSet_rt (s : State) (m : Manner) (c : Capture) (ms offset : Nat) :
    (s.orderTimeSet m c ms offset).tbu.rt = s.tbu.rt := by
  unfold State.orderTimeSet; split <;> simp

@[simp] theorem State.orderSeasonChange_rt (s : State) (m : Manner) (c : Capture) (offset minute : Nat) :
    (s.orderSeasonChange m c offset minute).tbu.rt = s.tbu.rt := by
  unfold State.orderSeasonChange; split <;> simp

@[simp] theorem State.takeUp_rt (s : State) (parameter : Nat) :
    (s.takeUp parameter).tbu.rt = s.tbu.rt := by
  simp only [State.takeUp]; (repeat' split) <;> simp

@[simp] theorem State.setParameter_rt (s : State) (parameter : Nat) (value : Int) (date : Date) :
    (s.setParameter parameter value date).tbu.rt = s.tbu.rt := by
  simp [State.setParameter]

@[simp] theorem State.orderConfigWrite_rt (s : State) (m : Manner) (c : Capture) (parameter : Nat) (value : Int) :
    (s.orderConfigWrite m c parameter value).tbu.rt = s.tbu.rt := by
  unfold State.orderConfigWrite; split <;> simp

@[simp] theorem State.takeOrder_rt (s : State) (m : Manner) (c : Capture) (code : Nat) (ps : List Byte) :
    (s.takeOrder m c code ps).tbu.rt = s.tbu.rt := by
  unfold State.takeOrder; split <;> first | (unfold State.sized; split <;> simp) | simp

@[simp] theorem State.takeOrderPayload_rt (s : State) (m : Manner) (c : Capture) (payload : List Byte) :
    (s.takeOrderPayload m c payload).tbu.rt = s.tbu.rt := by
  unfold State.takeOrderPayload; split <;> simp

@[simp] theorem State.handOn_rt (s : State) (p : Port) (address : Nat) (payload : List Byte) (c : Capture) (reading : Reading) :
    (s.handOn p address payload c reading).tbu.rt = s.tbu.rt := by
  unfold State.handOn; split <;> simp

@[simp] theorem State.takeTelegram_rt (s : State) (p : Port) (kind address : Nat) (payload : List Byte) (check : Nat) (c : Capture) :
    (s.takeTelegram p kind address payload check c).tbu.rt = s.tbu.rt := by
  unfold State.takeTelegram; split <;> simp

@[simp] theorem State.takeFrame_rt (s : State) (p : Port) (frame : List Byte) (c : Capture) :
    (s.takeFrame p frame c).tbu.rt = s.tbu.rt := by
  simp [State.takeFrame]

@[simp] theorem State.takeBody_rt (s : State) (p : Port) (b : Byte) :
    (s.takeBody p b).tbu.rt = s.tbu.rt := by
  unfold State.takeBody; split <;> simp

@[simp] theorem State.takeByte_rt (s : State) (p : Port) (b : Byte) :
    (s.takeByte p b).tbu.rt = s.tbu.rt := by
  simp only [State.takeByte]; (repeat' split) <;> simp

/-! ### T -/

@[simp] theorem State.applySeason_trim (s : State) (offset minute : Nat) :
    (s.applySeason offset minute).tbu.trim = s.tbu.trim := by
  simp [State.applySeason]

@[simp] theorem State.applySeasonIfReached_trim (s : State) :
    s.applySeasonIfReached.tbu.trim = s.tbu.trim := by
  simp only [State.applySeasonIfReached]; (repeat' split) <;> simp

@[simp] theorem State.takeSeason_trim (s : State) :
    s.takeSeason.tbu.trim = s.tbu.trim := by
  unfold State.takeSeason; split <;> simp

@[simp] theorem State.stepClock_trim (s : State) (n : Nat) (e : Int) (labelled : Bool) :
    (s.stepClock n e labelled).tbu.trim = s.tbu.trim := by
  simp [State.stepClock]

@[simp] theorem State.stepMark_trim (s : State) (n : Nat) (e : Int) (labelled : Bool) :
    (s.stepMark n e labelled).tbu.trim = s.tbu.trim := by
  simp [State.stepMark]

@[simp] theorem State.rejectMark_trim (s : State) (n : Nat) (e : Int) (labelled : Bool) :
    (s.rejectMark n e labelled).tbu.trim = s.tbu.trim := by
  simp [State.rejectMark]

@[simp] theorem State.takeHoldoverLimit_trim (s : State) :
    s.takeHoldoverLimit.tbu.trim = s.tbu.trim := by
  unfold State.takeHoldoverLimit; split <;> simp

@[simp] theorem State.orderTimeMark_trim (s : State) (m : Manner) (c : Capture) (second : Nat) :
    (s.orderTimeMark m c second).tbu.trim = s.tbu.trim := by
  unfold State.orderTimeMark; split <;> simp

@[simp] theorem State.setTime_trim (s : State) (ms offset : Nat) :
    (s.setTime ms offset).tbu.trim = s.tbu.trim := by
  simp [State.setTime]

@[simp] theorem State.orderTimeSet_trim (s : State) (m : Manner) (c : Capture) (ms offset : Nat) :
    (s.orderTimeSet m c ms offset).tbu.trim = s.tbu.trim := by
  unfold State.orderTimeSet; split <;> simp

@[simp] theorem State.orderSeasonChange_trim (s : State) (m : Manner) (c : Capture) (offset minute : Nat) :
    (s.orderSeasonChange m c offset minute).tbu.trim = s.tbu.trim := by
  unfold State.orderSeasonChange; split <;> simp

@[simp] theorem State.takeUp_trim (s : State) (parameter : Nat) :
    (s.takeUp parameter).tbu.trim = s.tbu.trim := by
  simp only [State.takeUp]; (repeat' split) <;> simp

@[simp] theorem State.setParameter_trim (s : State) (parameter : Nat) (value : Int) (date : Date) :
    (s.setParameter parameter value date).tbu.trim = s.tbu.trim := by
  simp [State.setParameter]

@[simp] theorem State.orderConfigWrite_trim (s : State) (m : Manner) (c : Capture) (parameter : Nat) (value : Int) :
    (s.orderConfigWrite m c parameter value).tbu.trim = s.tbu.trim := by
  unfold State.orderConfigWrite; split <;> simp

@[simp] theorem State.takeOrder_trim (s : State) (m : Manner) (c : Capture) (code : Nat) (ps : List Byte) :
    (s.takeOrder m c code ps).tbu.trim = s.tbu.trim := by
  unfold State.takeOrder; split <;> first | (unfold State.sized; split <;> simp) | simp

@[simp] theorem State.takeOrderPayload_trim (s : State) (m : Manner) (c : Capture) (payload : List Byte) :
    (s.takeOrderPayload m c payload).tbu.trim = s.tbu.trim := by
  unfold State.takeOrderPayload; split <;> simp

@[simp] theorem State.handOn_trim (s : State) (p : Port) (address : Nat) (payload : List Byte) (c : Capture) (reading : Reading) :
    (s.handOn p address payload c reading).tbu.trim = s.tbu.trim := by
  unfold State.handOn; split <;> simp

@[simp] theorem State.takeTelegram_trim (s : State) (p : Port) (kind address : Nat) (payload : List Byte) (check : Nat) (c : Capture) :
    (s.takeTelegram p kind address payload check c).tbu.trim = s.tbu.trim := by
  unfold State.takeTelegram; split <;> simp

@[simp] theorem State.takeFrame_trim (s : State) (p : Port) (frame : List Byte) (c : Capture) :
    (s.takeFrame p frame c).tbu.trim = s.tbu.trim := by
  simp [State.takeFrame]

@[simp] theorem State.takeBody_trim (s : State) (p : Port) (b : Byte) :
    (s.takeBody p b).tbu.trim = s.tbu.trim := by
  unfold State.takeBody; split <;> simp

@[simp] theorem State.takeByte_trim (s : State) (p : Port) (b : Byte) :
    (s.takeByte p b).tbu.trim = s.tbu.trim := by
  simp only [State.takeByte]; (repeat' split) <;> simp

end Sys2Proof.Machine
end

