-- ==== Sys2Proof/Tests/Slice0.lean ====
section
/-! SUPPORT. The model's own tests: an ill-formed term for each check of WellFormed; one small step or two per command, the expected values worked by
hand from the rule named; and, for each obligation with hypotheses, states and operands that meet them (each clause, at a bound where it has one). -/

namespace Sys2Proof.Tests

open Sys2Proof.Machine

-- One theorem after another: elaborated all at once, the tests need a thread each, and with it too much memory.
set_option Elab.async false

/-! ### States -/

/-- The next state of a command. -/
def after (c : Instr) (s : State) : State :=
  match exec c s with
  | .next t => t
  | .fault _ => s
  | .refused _ => s

/-- A point, a signal, a section and an OTHER element at addresses 1 to 4. -/
def elements : List LiveElement :=
  [{ entry := { address := 1, kind := .point, limit := 6000, cls := .changes }, state := {} },
   { entry := { address := 2, kind := .signal, limit := 1000, cls := .changes }, state := {} },
   { entry := { address := 3, kind := .sect, limit := 0, cls := .nothing }, state := {} },
   { entry := { address := 4, kind := .other, limit := 0, cls := .all }, state := {} }]

/-- A timing point of the section, for passings into it. -/
def timingPoint : TimingPoint := { sect := 2, edge := .occupy, signal := none, threshold := 0, mode := .each }

/-- Train 1A01. -/
def train : TrainNumber := 0x31413031#32

/-- A running part with this layout, 10 s after power-on. -/
def field : State :=
  { State.reset with
    liu := { State.reset.liu with lineState := .running, lossExpiry := some 11000000, lastOpenRt := some 9000000, phase := .opened
                                  round := some 7 }
    tbu := { State.reset.tbu with rt := 10000000, st := 10000000 }
    lys := { State.reset.lys with elements := elements }
    psd := { points := [{ entry := timingPoint, record := {} }] } }

def onTbu (f : Tbu → Tbu) : State := { field with tbu := f field.tbu }
def onLiu (f : Liu → Liu) : State := { field with liu := f field.liu }
def onOrh (f : Orh → Orh) : State := { field with orh := f field.orh }
def onLineA (f : ClockLine → ClockLine) (s : State := field) : State := { s with cld := { s.cld with a := f s.cld.a } }

/-- The state with another state record of element `i`. -/
def onElement (i : Nat) (f : ElementState → ElementState) (s : State := field) : State := s.onElement i f

/-! ### Well-formedness: each check refuses an ill-formed term -/

theorem wf_telegram_kind : (Instr.telegramNotInterpreted .i 16 0 [] 0).wf = false := by decide
theorem wf_telegram_address : (Instr.telegramNotInterpreted .i 0 4096 [] 0).wf = false := by decide
theorem wf_telegram_length : (Instr.telegramNotInterpreted .i 0 0 (List.replicate 59 0#8) 0).wf = false := by decide
theorem wf_telegram_check : (Instr.telegramNotInterpreted .i 0 0 [] 65536).wf = false := by decide
theorem wf_roundOpen : (Instr.roundOpen 256).wf = false := by decide
theorem wf_command_low : (Instr.command 0 1).wf = false := by decide
theorem wf_command_high : (Instr.command 4096 1).wf = false := by decide
theorem wf_command_code : (Instr.command 1 256).wf = false := by decide
theorem wf_indication_low : (Instr.indication 0 1 none).wf = false := by decide
theorem wf_indication_high : (Instr.indication 4096 1 none).wf = false := by decide
theorem wf_indication_code : (Instr.indication 1 256 none).wf = false := by decide
theorem wf_indication_age : (Instr.indication 1 1 (some 65536)).wf = false := by decide
theorem wf_limitExpiry : (Instr.limitExpiry 64).wf = false := by decide
theorem wf_abandonExpiry : (Instr.abandonExpiry 64).wf = false := by decide
theorem wf_timeMark : (Instr.timeMark .unicast (256 ^ 5)).wf = false := by decide
theorem wf_timeSet_ms : (Instr.timeSet .unicast (256 ^ 6) 0).wf = false := by decide
theorem wf_timeSet_offset : (Instr.timeSet .unicast 0 256).wf = false := by decide
theorem wf_seasonChange_offset : (Instr.seasonChange .unicast 256 0).wf = false := by decide
theorem wf_seasonChange_minute : (Instr.seasonChange .unicast 0 (256 ^ 4)).wf = false := by decide
theorem wf_configWrite_parameter : (Instr.configWrite .unicast 256 0).wf = false := by decide
theorem wf_configWrite_low : (Instr.configWrite .unicast 1 (-2147483649)).wf = false := by decide
theorem wf_configWrite_high : (Instr.configWrite .unicast 1 2147483648).wf = false := by decide
theorem wf_elementWrite : ((List.range 6).map fun k => (Instr.elementWrite .unicast (if k = 0 then 65536 else 0)
    (if k = 1 then 65536 else 0) (if k = 2 then 256 else 0) (if k = 3 then 65536 else 0) (if k = 4 then 256 else 0)
    (if k = 5 then 256 else 0)).wf) = List.replicate 6 false := by decide
theorem wf_pointWrite : ((List.range 7).map fun k => (Instr.pointWrite .unicast (if k = 0 then 256 else 0)
    (if k = 1 then 65536 else 0) (if k = 2 then 256 else 0) (if k = 3 then 65536 else 0) (if k = 4 then 256 else 0)
    (if k = 5 then 256 else 0) (if k = 6 then 256 else 0)).wf) = List.replicate 7 false := by decide
theorem wf_timetableWrite_first : (Instr.timetableWrite .unicast 65536 0 []).wf = false := by decide
theorem wf_timetableWrite_count : (Instr.timetableWrite .unicast 0 256 []).wf = false := by decide
theorem wf_timetableWrite_length : (Instr.timetableWrite .unicast 0 1 []).wf = false := by decide
theorem wf_timetableWrite_entry : ((List.range 5).map fun k => (Instr.timetableWrite .unicast 0 1
    [{ train := 0#32, point := if k = 0 then 256 else 0, kind := if k = 1 then 256 else 0, booked := if k = 2 then 65536 else 0
       mask := if k = 3 then 256 else 0, used := if k = 4 then 256 else 0 }]).wf) = List.replicate 5 false := by decide
theorem wf_apply : (Instr.apply .unicast 256).wf = false := by decide
theorem wf_overlayWrite : ((List.range 6).map fun k => (Instr.overlayWrite .unicast (if k = 0 then 256 else 0)
    (if k = 1 then 65536 else 0) (if k = 2 then 256 else 0) 0#32 (if k = 3 then 256 else 0) (if k = 4 then 65536 else 0)
    (if k = 5 then 256 else 0)).wf) = List.replicate 6 false := by decide
theorem wf_overlayClear : (Instr.overlayClear .unicast 256).wf = false := by decide
theorem wf_trainIdent : (Instr.trainIdent .unicast 256 0#32).wf = false := by decide
theorem wf_trainCancel : (Instr.trainCancel .unicast 0#32 65536).wf = false := by decide
theorem wf_journalRead_start : (Instr.journalRead .unicast (256 ^ 4) 0).wf = false := by decide
theorem wf_journalRead_count : (Instr.journalRead .unicast 0 256).wf = false := by decide
theorem wf_tableRead : ((List.range 3).map fun k => (Instr.tableRead .unicast (if k = 0 then 256 else 0)
    (if k = 1 then 256 else 0) (if k = 2 then 65536 else 0)).wf) = List.replicate 3 false := by decide
theorem wf_clockLineSetRun : ((List.range 4).map fun k => (Instr.clockLineSetRun .unicast (if k = 0 then 256 else 0)
    (if k = 1 then 256 else 0) (if k = 2 then 65536 else 0) (if k = 3 then 256 else 0)).wf) = List.replicate 4 false := by decide
theorem wf_clockLineSetStop : (Instr.clockLineSetStop .unicast 256).wf = false := by decide
theorem wf_orderRefusedForm : (Instr.orderRefusedForm .unicast (List.replicate 59 0#8)).wf = false := by decide
theorem wf_powerOn : (Instr.powerOn 16 .r57600).wf = false := by decide

/-! ### The frame (R203 note) -/

/-- The check over the nine characters 1 to 9 is 29B1h. -/
theorem test_check_of_123456789 :
    crc [0x31#8, 0x32#8, 0x33#8, 0x34#8, 0x35#8, 0x36#8, 0x37#8, 0x38#8, 0x39#8] = 0x29B1#16 := by decide +kernel

/-- A ROUND CLOSE is 0D2h, 20h, 00h, 00h, 4Ah, 5Ah. -/
theorem test_round_close_bytes : telegram 2 0 [] = [0xD2#8, 0x20#8, 0x00#8, 0x00#8, 0x4A#8, 0x5A#8] := by decide +kernel

/-! ### The commands -/

/-- R2: a start byte takes the receiver to HEADER; R5: it waits in the lag stage. -/
theorem test_byteArrival : (after (.byteArrival .i 0xD2#8) field).liu.rxI =
    { state := .header, lag := [0xD2#8], frame := [], remaining := 0, consumed := false, cut := false } := by decide +kernel

/-- R4: a length byte of 59 makes the telegram LENGTH, counted. -/
theorem test_lengthByte : (after (.byteArrival .i 59#8)
    (onLiu fun l => { l with rxI := { state := .header, lag := [], frame := [0x30#8, 1#8] } })).liu.errorsI = 1 := by decide +kernel

/-- R2: silence in HEADER is TRUNCATED, and the lag stage goes out. -/
theorem test_lineSilent : (after (.lineSilent .i)
    (onLiu fun l => { l with rxI := { state := .header, lag := [0xD2#8, 0x30#8], frame := [0x30#8] } })).liu.fOut = [0xD2#8, 0x30#8] := by decide +kernel

/-- R3: a ROUND CLOSE with address 1 is FORM. -/
theorem test_telegramForm : (after (.telegramNotInterpreted .i 2 1 [] (telegramCheck 2 1 [])) field).liu.errorsI = 1 := by decide +kernel

/-- R3: a REPLY passing the I-port is not interpreted, and no error. -/
theorem test_telegramOther : (after (.telegramNotInterpreted .i 9 5 [] (telegramCheck 9 5 [])) field).liu.errorsI = 0 := by decide +kernel

/-- R9: after round 7, round 9 is a gap: 8 expected. -/
theorem test_roundOpen_gap : ((after (.roundOpen 9) field).evj.ring.head?).map (·.body) = some (.roundGap 8 9) := by decide +kernel

/-- R12: the loss expiry is the arrival plus 2,000 ms. -/
theorem test_roundOpen_expiry : (after (.roundOpen 8) field).liu.lossExpiry = some 12000000 := by decide +kernel

/-- R10, R15: the turn opens with the default allotment 2. -/
theorem test_roundClose : (after .roundClose field).liu.turn = .opened 2 0 := by decide +kernel

/-- R71: a line reset makes a section UNKNOWN since the reset. -/
theorem test_lineReset : ((after .lineReset (onElement 2 fun x => { x with sectionState := .clear })).lys.elements[2]?).map
    (fun e => (e.state.sectionState, e.state.sectionSince)) = some (.unknown, 10000000) := by decide +kernel

/-- R13: the loss of the line keeps the round number, with round phase NONE. -/
theorem test_lossExpiry : (fun s : State => (s.liu.lineState, s.liu.phase, s.liu.round))
    (after .lossExpiry (onTbu fun t => { t with rt := 11000000 })) = (.lost, .none, some 7) := by decide +kernel

/-- R16: with no reply and no report the turn ends. -/
theorem test_partTelegramStart : (after .partTelegramStart (onLiu fun l => { l with phase := .closed, turn := .opened 2 0 })).liu.turn =
    .closed := by decide +kernel

/-- R7: after a part telegram the held bytes follow. -/
theorem test_partTelegramEnd : (after .partTelegramEnd (onLiu fun l => { l with
    phase := .closed, turn := .opened 2 1, tx := .part [1#8, 2#8] false, holdBuffer := [3#8] })).liu.tx = .relaying [] := by decide +kernel

/-- R83: a command to REVERSE of a point that shows nothing opens a record in COMMANDED. -/
theorem test_command : ((after (.command 1 2) field).mvs.at? 0).map (fun r => (r.phase, r.target, r.limitExpiry)) =
    some (.commanded, 2, 16000000) := by decide +kernel

/-- R68: a bad code of a point changes no command. -/
theorem test_command_bad : ((after (.command 1 3) field).lys.elements[0]?).map (fun e => (e.state.lastCommand, e.state.lastBadCommand)) =
    some (none, some 3) := by decide +kernel

/-- R66, R118: a first indication, CLEAR or DISTURBED, of a section that is UNKNOWN sets its since instant to the event RT. -/
theorem test_indication : ([0, 2].map fun code => ((after (.indication 3 code (some 1000)) field).lys.elements[2]?).map
    fun e => (e.state.sectionState, e.state.sectionSince)) = [some (.clear, 9000000), some (.unknown, 9000000)] := by decide +kernel

/-- R84, R91, R92: a signal that shows its target while CLEARING has proved proceed. -/
theorem test_indication_proves : ((after (.indication 2 5 none) (after (.command 2 5) field)).lys.elements[1]?).map
    (fun e => (e.state.proceedProven.map (·.rt), e.state.movement)) = some (some 10000000, none) := by decide +kernel

/-- R29, R32: at ST 9,999,700 the nearest second is 10, so e is -300 and P becomes 300. -/
theorem test_mark_slews : (after .mark (onTbu fun t => { t with
    st := 9999700, timeState := .acquire, holdoverExpiry := some 12000000 })).tbu.slew = 300 := by decide +kernel

/-- R35: in LOCKED after an accepted mark with a small slew, T falls by 25 e = 25 × 4. -/
theorem test_mark_learns : (after .mark (onTbu fun t => { t with
    st := 10000004, timeState := .locked, trim := 250, prevAccepted := true, prevSlew := 0, holdoverExpiry := some 12000000 })).tbu.trim =
    150 := by decide +kernel

/-- R22: the carry takes 100,000,000 and, with T negative, ST skips one. -/
theorem test_trimCarry : (fun t : Tbu => (t.st, t.accumulator))
    (after .trimCarry { onTbu (fun t => { t with trim := -5000, accumulator := 100000007 }) with
      clk := { stMark := 9999999, stReached := 10000000 } }).tbu = (9999999, 7) := by decide +kernel

/-- R20, R21: where ST has not risen in the microsecond the skip is lost. -/
theorem test_trimCarry_lost : (fun t : Tbu => (t.st, t.accumulator))
    (after .trimCarry { onTbu (fun t => { t with st := 5662310399999999, trim := -1, accumulator := 100000000 }) with
      clk := { stMark := 5662310399999999, stReached := 5662310399999999 } }).tbu = (5662310399999999, 0) := by decide +kernel

/-- R23: a slew tick gains one, and P moves toward zero. -/
theorem test_slewTick : (fun t : Tbu => (t.st, t.slew, t.slewPhase))
    (after .slewTick (onTbu fun t => { t with slew := 2, slewPhase := 1000 })).tbu = (10000001, 1, 0) := by decide +kernel

/-- R20: at the last microsecond of day 65,535 a gain is lost, and P is worked. -/
theorem test_slewTick_end : (fun t : Tbu => (t.st, t.slew))
    (after .slewTick (onTbu fun t => { t with st := 5662310399999999, slew := 1, slewPhase := 1000 })).tbu = (5662310399999999, 0) := by
  decide +kernel

/-- R25: ST has reached minute 0, and S takes the offset. -/
theorem test_season : (after .season (onTbu fun t => { t with scheduled := some (60, 0) })).tbu.season = 60 := by decide +kernel

/-- R36: the holdover entry is the RT of the expiry. -/
theorem test_holdoverExpiry : (fun t : Tbu => (t.timeState, t.holdoverEntry))
    (after .holdoverExpiry (onTbu fun t => { t with timeState := .locked, holdoverExpiry := some 10000000 })).tbu =
    (.holdover, some 10000000) := by decide +kernel

/-- R37: 240 min of 60,000,000 µs after the entry. -/
theorem test_holdoverLimit : (after .holdoverLimit (onTbu fun t => { t with
    rt := 14400000000, timeState := .holdover, holdoverEntry := some 0 })).tbu.timeState = .free := by decide +kernel

/-- An entry booked at the timetable day's start, 02:00, on any day. -/
def entry : TimetableEntry := { train := train, point := 0, kind := 0, booked := 0, mask := 127 }

/-- The planes of day 0 with the entry PENDING in both, at a civil time in whole s of day 0. -/
def planesAt (seconds : Nat) : State :=
  { field with
    tbu := { field.tbu with st := seconds * 1000000, timeState := .free }
    clk := { field.clk with stMark := seconds * 1000000 - 1, stReached := seconds * 1000000 }
    ttc := { field.ttc with
      entries := [entry], active := true
      planes := some { current := { day := 0, cursor := 0, status := [.pending] }
                       previous := { day := -1, cursor := 0, status := [.pending] } } } }

/-- R135, R127: at 04:00:01 the window of 02:00 with a late limit of 120 min has closed. -/
theorem test_sweep : ((after .sweep (planesAt 14401)).ttc.planes).map (fun p => (p.current.status, p.current.cursor)) =
    some ([.missed], 1) := by decide +kernel

/-- At 04:00:00 it has not. -/
theorem test_sweep_open : ((after .sweep (planesAt 14400)).ttc.planes).map (fun p => (p.current.status, p.current.cursor)) =
    some ([.pending], 0) := by decide +kernel

/-- A point with a record in MOVING to 2 at position 0, whose loss was indicated 1 s after its start. -/
def moving : State :=
  { onElement 0 (fun x => { x with lastCommand := some 2, lastIndicated := some 0, movement := some 0 }) with
    mvs := { table := some { element := 0, address := 1, kind := .point, target := 2, phase := .moving
                             start := { rt := 4000000, date := { ms := 4000, season := 0, quality := .u } }, limit := 6000
                             limitExpiry := 10000000, abandonExpiry := 28000000, overdue := false, loss := some 5000000 } ::
                      List.replicate 63 none } }

/-- A record #n. -/
def record (n : Nat) : Record := { seq := n, body := .lineReset, date := ⟨0, 0, .u⟩, flags := {} }

/-- Records 2 to 4, record 2 read. -/
def journal : Evj := { ring := [record 4, record 3, record 2], next := 5, readMark := 2, minorRefusals := 0 }

theorem journal_sound : journal.Sound where
  storedPos := by decide
  storedMax := by decide
  nextPos := by decide
  nextMax := by decide
  consecutive := ⟨rfl, rfl, rfl, trivial⟩
  readMark := .inr ⟨record 2, by simp [journal], rfl⟩
  minorRefusals := by decide

/-- R93: reached at RT 10,000,000. -/
theorem test_limitExpiry : ((after (.limitExpiry 0) moving).mvs.at? 0).map (·.overdue) = some true := by decide +kernel

/-- R95: reached at RT 28,000,000, 4 limits after the start. -/
theorem test_abandonExpiry :
    (after (.abandonExpiry 0) { moving with tbu := { moving.tbu with rt := 28000000 } }).mvs.at? 0 = none := by decide +kernel

/-- Line A in RUN of 60 s, its clocks showing 0, at the boundary of minute 1. -/
def boundary : State :=
  onLineA (fun l => { l with state := .run, interval := some 60, shown := some 0, polarity := some .positive })
    { field with
      tbu := { field.tbu with st := 60000000, timeState := .free }, clk := { field.clk with stMark := 59999999, stReached := 60000000 } }

/-- R171: an impulse of 500 ms. -/
theorem test_intervalBoundary : ((after (.intervalBoundary .a) boundary).cld.a.flight).map (fun i => (i.kind, i.polarity, i.endRt)) =
    some (.normal, .positive, 10500000) := by decide +kernel

/-- R171: an impulse wanted starts at its spacing expiry. -/
theorem test_spacingExpiry : (after (.spacingExpiry .a) (onLineA fun l => { l with
    state := .catchUp, interval := some 60, shown := some 0, polarity := some .negative, wanted := true
    spacing := some 10000000 })).cld.a.flight.isSome = true := by decide +kernel

/-- R166: line A is driven in the polarity of its impulse in flight, and line B is not. -/
theorem test_output : (fun s : State => (s.output .a, s.output .b)) (after (.intervalBoundary .a) boundary) = (some .positive, none) := by
  decide +kernel

/-- Line A with an impulse whose end is reached. -/
def impulse (kind : ImpulseKind) (state : LineRun) : State :=
  onLineA (fun l => { l with state := state, flight := some { kind := kind, polarity := .positive, startRt := 9500000, endRt := 10000000 } })
    boundary

/-- R174: the shown position rises, and the polarity flips. -/
theorem test_impulseCompletion : (fun l : ClockLine => (l.shown, l.polarity, l.state))
    (after (.impulseCompletion .a .ok) (impulse .normal .run)).cld.a = (some 1, some .negative, .run) := by decide +kernel

/-- R175: OPEN brings FAULT, with a probe due 60 s on. -/
theorem test_impulseCompletion_open : (fun l : ClockLine => (l.shown, l.state, l.probe))
    (after (.impulseCompletion .a .openCircuit) (impulse .normal .run)).cld.a = (some 0, .fault, some 70000000) := by decide +kernel

/-- R176: the probe impulse. -/
theorem test_probeExpiry : ((after (.probeExpiry .a) (onLineA (fun l => { l with state := .fault, probe := some 10000000 }) boundary)).cld.a.flight).map
    (·.kind) = some .probe := by decide +kernel

/-- R39: the label with the RT of the order. -/
theorem test_timeMark : (after (.timeMark .unicast 11) field).tbu.label = some (11, 10000000) := by decide +kernel

/-- R40: ST in µs, and FREE. -/
theorem test_timeSet : (fun t : Tbu => (t.st, t.season, t.timeState)) (after (.timeSet .unicast 86400000 60) field).tbu =
    (86400000000, 60, .free) := by decide +kernel

/-- R41: an instant after ST waits. -/
theorem test_seasonChange : (after (.seasonChange .unicast 60 1) field).tbu.scheduled = some (60, 1) := by decide +kernel

/-- R190: the lock window written as 6,000 is taken as 5,000. -/
theorem test_configWrite : (after (.configWrite .unicast 2 6000) field).orh.params.lockWindow = 5000 := by decide +kernel

/-- R190: a T2 below its T1 of 60 is stored as that T1. -/
theorem test_configWrite_t2 : (after (.configWrite .unicast 12 10) field).orh.params.value 12 = 60 := by decide +kernel

/-- R59: a point's limit of 100 ms is stored as 500. -/
theorem test_elementWrite : (after (.elementWrite .unicast 5 9 0 100 1 1) field).lys.stagingElements =
    [(5, { address := 9, kind := .point, limit := 500, cls := .changes })] := by decide +kernel

/-- R61. -/
theorem test_pointWrite : (after (.pointWrite .unicast 0 2 1 65535 3 0 1) field).lys.stagingPoints =
    [(0, { sect := 2, edge := .clear, signal := none, threshold := 3, mode := .exception })] := by decide +kernel

/-- R123. -/
theorem test_timetableWrite : (after (.timetableWrite .unicast 8191 1 [⟨train, 0, 0, 0, 127, 1⟩]) field).ttc.staging = [(8191, entry)] := by
  decide +kernel

/-- The field's layout in the staging banks. -/
def staged : State :=
  { field with lys := { field.lys with stagingElements := indexed 0 (elements.map fun e => e.entry), stagingPoints := [(0, timingPoint)] } }

/-- R73: a layout that passes is armed. -/
theorem test_apply : (after (.apply .unicast 1) staged).lys.armed = some .layout := by decide +kernel

/-- R72: an unused entry before a used one fails PREFIX. -/
theorem test_apply_prefix :
    State.validate { staged with lys := { staged.lys with
      stagingElements := [(1, { address := 1, kind := .point, limit := 6000, cls := .changes })] } } .layout = some ⟨.element, 1, .prefixRule⟩ := by decide +kernel

/-- R145: a CANCEL of entry 0 in slot 63. -/
theorem test_overlayWrite : (after (.overlayWrite .unicast 63 0 1 0#32 0 0 0) (planesAt 7200)).ttc.slot 63 =
    some { target := 0, action := .cancel } := by decide +kernel

/-- R144: cleared again after its window, the entry becomes VOID. -/
theorem test_overlayClear : ((after (.overlayClear .unicast 63) { planesAt 14401 with
    ttc := { (planesAt 14401).ttc with overlay := List.replicate 63 none ++ [some { target := 0, action := .cancel }] } }).ttc.planes).map
    (·.current.status) = some [.void] := by decide +kernel

/-- R107. -/
theorem test_trainIdent : ((after (.trainIdent .unicast 0 train) field).psd.points.map (·.record.queue)) = [[train]] := by decide +kernel

/-- The field with train 1A01 expected at its timing point. -/
def expecting : State := after (.trainIdent .unicast 0 train) field

/-- R110, at every point. -/
theorem test_trainCancel : ((after (.trainCancel .unicast train 65535) expecting).psd.points.map (·.record.queue)) = [[]] := by decide +kernel

/-- R157, R158: from record 1, the oldest, the read mark stays. -/
theorem test_journalRead : ((after (.journalRead .unicast 1 3) field).orh.slot).map (·.content.telegrams) = some 2 := by decide +kernel

/-- R192: element 0 of the active bank. -/
theorem test_tableRead : ((after (.tableRead .unicast 2 0 0) field).orh.slot).map (·.content) =
    some (.table 2 0 0 (.element (some { address := 1, kind := .point, limit := 6000, cls := .changes }))) := by decide +kernel

/-- R193, R188: a STATUS reply has two telegrams. -/
theorem test_statusRead : ((after (.statusRead .unicast) field).orh.slot).map (·.content.telegrams) = some 2 := by decide +kernel

/-- R178: set at the position the clocks should show, the line is in RUN. -/
theorem test_clockLineSetRun : (after (.clockLineSetRun .unicast 0 60 1 0) { boundary with cld := {} }).cld.a.state = .run := by
  decide +kernel

/-- R179. -/
theorem test_clockLineSetStop : (after (.clockLineSetStop .unicast 0) boundary).cld.a.state = .stopped := by decide +kernel

/-- R194: the expectation queues are emptied. -/
theorem test_restart : ((after (.restart .unicast) expecting).psd.points.map (·.record.queue)) = [[]] := by decide +kernel

/-- R163, R209: with nothing armed the scope is absent, all ones. -/
theorem test_restart_absentScope : (RecordBody.restartOrder none 0 0 0 false).fields[1]? = some [0xFF#8] := by decide +kernel

/-- R185: an unknown code. -/
theorem test_orderRefusedForm : ((after (.orderRefusedForm .unicast [0x13#8]) field).orh.slot).map (·.content) =
    some (.refusal .unknown) := by decide +kernel

/-- R1, R147: the node address, and the RESTART (POWER) record #1 alone. -/
theorem test_powerOn : (fun s : State => (s.liu.node, s.evj.ring.map (·.seq))) (after (.powerOn 15 .r230400) field) = (4079, [1]) := by
  decide +kernel

/-- R7. -/
theorem test_relayedByteSent : (after .relayedByteSent (onLiu fun l => { l with tx := .relaying [9#8] })).liu.iOut = [9#8] := by
  decide +kernel

/-- Entry 1: an empty queue lets a microsecond pass. -/
theorem test_idle : (match step State.reset with | .next t => (t.tbu.rt, t.tbu.st) | _ => (0, 0)) = (1, 1) := by decide +kernel

/-- The queue is first in, first out. -/
theorem test_queue : (match step { field with pending := [.roundClose, .lineReset] } with | .next t => t.pending | _ => []) =
    [.lineReset] := by decide +kernel

/-! ### Witnesses: the step -/

theorem witness_StepTakesFrontCommand :
    ({ field with pending := [.mark, .roundClose] } : State).pending = .mark :: [.roundClose] := rfl

/-- Nothing due 10 s after power-on; a holdover expiry due just at its RT. -/
theorem witness_EmptyQueueLetsTimeRun :
    (field.pending = [] ∧ field.dueCommand = none) ∧
    (let s := onTbu fun t => { t with timeState := .locked, holdoverExpiry := some 10000000 }
     s.pending = [] ∧ s.dueCommand = some .holdoverExpiry) := by decide +kernel

/-- Each event of the time base, the line and the sweep at the instant it comes due. -/
theorem witness_EmptyQueueLetsTimeRun_due :
    (onTbu fun t => { t with accumulator := 100000000 }).tbu.accumulator = 100000000 ∧
    (let t := (onTbu fun t => { t with accumulator := 99999999, slewPhase := 1000, slew := -1 }).tbu
     t.accumulator < 100000000 ∧ 1000 ≤ t.slewPhase ∧ t.slew ≠ 0) ∧
    (let s := onTbu fun t => { t with slewPhase := 999, slew := 1, timeState := .locked, holdoverExpiry := some 10000000 }
     s.tbu.accumulator < 100000000 ∧ s.tbu.slewPhase < 1000 ∧ s.dueEvents ≠ []) ∧
    (let t := (onTbu fun t => { t with st := 60000000, scheduled := some (60, 1) }).tbu
     t.scheduled = some (60, 1) ∧ 1 * 60000000 ≤ t.st) ∧
    (let t := (onTbu fun t => { t with timeState := .acquire, holdoverExpiry := some 10000000 }).tbu
     t.timeState = .acquire ∧ t.holdoverExpiry = some 10000000 ∧ 10000000 ≤ t.rt) ∧
    (let s := onTbu fun t => { t with rt := 14400000005, timeState := .holdover, holdoverEntry := some 5 }
     s.tbu.timeState = .holdover ∧ s.tbu.holdoverEntry = some 5 ∧ 5 + s.orh.params.holdoverLimit * 60000000 ≤ s.tbu.rt) ∧
    (let s := onTbu fun t => { t with rt := 11000000 }
     s.liu.lineState = .running ∧ s.liu.lossExpiry = some 11000000 ∧ 11000000 ≤ s.tbu.rt) ∧
    (let s := planesAt 14401
     s.ttc.planes ≠ none ∧ s.clk.stMark / 1000000 < s.clk.stReached / 1000000 ∧ s.clk.sweepTaken = false) ∧
    (let s := onLiu fun l => { l with turn := .opened 2 0 }
     s.liu.turn ≠ .closed ∧ s.liu.tx = .idle ∧ s.liu.holdBuffer = [] ∧ s.liu.rxF.state = .idle) := by decide +kernel

/-- Each event of a clock line at the instant it comes due. -/
theorem witness_EmptyQueueLetsTimeRun_clockLine :
    ((boundary.line .a).interval = some 60 ∧ boundary.clk.stMark / (60 * 1000000) < boundary.clk.stReached / (60 * 1000000) ∧
      boundary.boundaryTaken .a = false) ∧
    (let s := onLineA fun l => { l with state := .catchUp, wanted := true, spacing := some 10000000 }
     (s.line .a).state = .catchUp ∧ (s.line .a).wanted = true ∧ (s.line .a).flight = none ∧ (s.line .a).spacing = some 10000000 ∧
       10000000 ≤ s.tbu.rt) ∧
    (((impulse .normal .run).line .a).flight.map (·.endRt) = some 10000000 ∧ 10000000 ≤ (impulse .normal .run).tbu.rt) ∧
    (let s := onLineA fun l => { l with state := .fault, probe := some 10000000 }
     (s.line .a).state = .fault ∧ (s.line .a).flight = none ∧ (s.line .a).probe = some 10000000 ∧ 10000000 ≤ s.tbu.rt) := by
  decide +kernel

/-- Both expiries of a movement at the instant they come due. -/
theorem witness_EmptyQueueLetsTimeRun_movement :
    (∃ r, 0 < 64 ∧ moving.mvs.at? 0 = some r ∧ r.overdue = false ∧ r.limitExpiry ≤ moving.tbu.rt) ∧
    (let s : State := { moving with tbu := { moving.tbu with rt := 28000000 } }
     ∃ r, 0 < 64 ∧ s.mvs.at? 0 = some r ∧ r.abandonExpiry ≤ s.tbu.rt) :=
  ⟨⟨_, by decide, rfl, rfl, by decide +kernel⟩, _, by decide, rfl, by decide +kernel⟩

/-- One short of each bound. -/
theorem witness_EventsNotDueDoNothing :
    (onTbu fun t => { t with rt := 10999999 }).lossDue = false ∧ field.partStartDue = false ∧
    (onTbu fun t => { t with accumulator := 99999999 }).tbu.accumulator < 100000000 ∧
    (onTbu fun t => { t with slewPhase := 999, slew := 5 }).tbu.slewPhase < 1000 ∧
    (onTbu fun t => { t with timeState := .locked, holdoverExpiry := some 10000001 }).holdoverExpiryDue = false ∧
    (onTbu fun t => { t with rt := 14399999999, timeState := .holdover, holdoverEntry := some 0 }).holdoverLimitDue = false ∧
    ({ planesAt 14401 with clk := { stMark := 14401000000, stReached := 14401999999 } } : State).sweepDue = false ∧
    ({ moving with tbu := { moving.tbu with rt := 9999999 } } : State).limitDue 0 = false ∧
    ({ moving with tbu := { moving.tbu with rt := 27999999 } } : State).abandonDue 0 = false ∧
    ({ boundary with clk := { stMark := 60000000, stReached := 119999999 } } : State).boundaryDue .a = false ∧
    ((onLineA fun l => { l with state := .run, wanted := true, spacing := some 10000001 }).line .a).mayStart field.tbu.rt = false ∧
    (onLineA fun l => { l with state := .fault, probe := some 10000001 }).probeDue .a = false := by decide +kernel

/-- A change scheduled one microsecond on. -/
theorem witness_EventsNotDueDoNothing_season :
    ∀ offset minute, (onTbu fun t => { t with st := 59999999, scheduled := some (60, 1) }).tbu.scheduled = some (offset, minute) →
      (onTbu fun t => { t with st := 59999999, scheduled := some (60, 1) }).tbu.st < minute * 60000000 := by
  rintro offset minute ⟨⟩
  decide

theorem witness_FixedQuantitiesHaveOneCause :
    (∃ t, exec .roundClose field = .next t) ∧ Instr.roundClose ≠ .mark ∧ ∀ straps rate, Instr.roundClose ≠ .powerOn straps rate :=
  ⟨⟨_, rfl⟩, by decide, nofun⟩

/-- A ring that is empty but for its first record, and a full one. -/
theorem witness_StoredRecordsNeverChange :
    ((∃ t, exec .lineReset field = .next t) ∧ (∀ straps rate, Instr.lineReset ≠ .powerOn straps rate) ∧ field.evj.stored ≤ 16384) ∧
    (let s : State := { field with evj := { journal with ring := List.replicate 16384 (record 4) } }
     (∃ t, exec .lineReset s = .next t) ∧ s.evj.stored = 16384) :=
  ⟨⟨⟨_, rfl⟩, nofun, by decide⟩, ⟨_, rfl⟩, List.length_replicate⟩

/-! ### Witnesses: the line -/

/-- The port with its receiver so. -/
def rxI (r : Receiver) : State := onLiu fun l => { l with rxI := r }
def rxF (r : Receiver) : State := onLiu fun l => { l with rxF := r }

theorem witness_ReceiverFollowsItsTable :
    (0xD1#8 : Byte) ≠ 0xD2#8 ∧ field.liu.rxI.state = .idle ∧ (rxI { state := .noise }).liu.rxI.state = .noise ∧
    (rxF { state := .noise }).liu.rxF.state = .noise ∧ field.liu.rxF.state = .idle ∧
    (let r : Receiver := { state := .header, frame := [0x30#8, 1#8] }
     r.state = .header ∧ r.frame = [0x30#8, 1#8] ∧ r.consumed = false ∧ 59 ≤ (59#8 : Byte).toNat) ∧
    (rxI { state := .header }).liu.rxI.state = .header ∧ (rxI { state := .body }).liu.rxI.state = .body ∧
    (rxI { state := .skip }).liu.rxI.state = .skip := by decide +kernel

/-- The F-port, with the transmitter idle or sending relayed bytes, and nothing held. -/
theorem witness_ReceiverFollowsItsTable_upstream :
    (field.liu.holdBuffer = [] ∧ field.liu.tx = .idle) ∧
    (let s := onLiu fun l => { l with tx := .relaying [7#8] }
     s.liu.holdBuffer = [] ∧ s.liu.tx = .relaying [7#8]) ∧
    (let r := (rxF { state := .header, frame := [0x40#8, 1#8] }).liu.rxF
     r.state = .header ∧ r.frame = [0x40#8, 1#8] ∧ r.consumed = false ∧ 59 ≤ (59#8 : Byte).toNat) ∧
    ((rxF { state := .skip }).liu.rxF.state = .skip ∧ (rxF { state := .skip }).liu.rxF.consumed = false) ∧
    (rxF { state := .header, lag := [0xD2#8, 0x40#8] }).liu.rxF.state = .header ∧ (rxF { state := .body }).liu.rxF.state = .body := by
  decide +kernel

/-- The longest telegram, of the greatest kind and address, at either port. -/
theorem witness_TelegramBytesAreTheirRow :
    let payload : List Byte := List.replicate 58 0#8
    let atI : State := { field with pending := (telegram 15 4095 payload).map (.byteArrival .i) }
    let atF : State := { field with pending := (telegram 15 4095 payload).map (.byteArrival .f) }
    15 < 16 ∧ 4095 < 4096 ∧ payload.length ≤ 58 ∧ (atI.liu.rxI.state = .idle ∨ atI.liu.rxI.state = .noise) ∧
    atI.pending = (telegram 15 4095 payload).map (.byteArrival .i) ∧ (atF.liu.rxF.state = .idle ∨ atF.liu.rxF.state = .noise) ∧
    atF.liu.tx = .idle ∧ atF.liu.holdBuffer = [] ∧ atF.pending = (telegram 15 4095 payload).map (.byteArrival .f) :=
  ⟨by decide, by decide, by decide, .inl rfl, rfl, .inl rfl, rfl, rfl, rfl⟩

/-- A wrong check; a ROUND OPEN to address 1, a ROUND CLOSE with a payload, a COMMAND to address 0, a LINE RESET to address 1; an ORDER for
another node, and a REPLY; upstream, INDICATIONs to address 0 and of 2 bytes, and a REPLY. -/
theorem witness_TelegramNotTakenIsCountedOrIgnored :
    (0 : Nat) ≠ telegramCheck 2 0 [] ∧ telegramCheck 1 1 [7#8] = telegramCheck 1 1 [7#8] ∧
    ((1 = 1 ∧ (1 ≠ 0 ∨ [7#8].length ≠ 1)) ∧ (2 = 2 ∧ (0 ≠ 0 ∨ [7#8].length ≠ 0)) ∧ (3 = 3 ∧ (0 = 0 ∨ [7#8].length ≠ 1)) ∧
      (5 = 5 ∧ (1 ≠ 0 ∨ ([] : List Byte).length ≠ 0))) ∧
    (8 = 8 ∧ 4094 ≠ field.liu.node ∧ 4094 ≠ 4095) ∧ 9 ∉ [1, 2, 3, 5, 8] ∧
    ((4 = 4 ∧ 0 = 0) ∧ (4 = 4 ∧ [7#8, 7#8].length ≠ 1 ∧ [7#8, 7#8].length ≠ 3)) ∧ 9 ≠ 4 := by decide +kernel

theorem witness_UpstreamBytesLeaveInOrder :
    (let s := onLiu fun l => { l with tx := .relaying [9#8] }
     s.liu.tx = .relaying (9#8 :: []) ∧ s.liu.holdBuffer = []) ∧
    (let s := onLiu fun l => { l with tx := .relaying [], holdBuffer := [9#8, 8#8] }
     s.liu.tx = .relaying [] ∧ s.liu.holdBuffer = 9#8 :: [8#8]) ∧
    (let s := onLiu fun l => { l with
        rxF := { state := .body, remaining := 2 }, tx := .part [1#8] true, holdBuffer := List.replicate 128 0#8 }
     s.liu.rxF.state = .body ∧ 2 ≤ s.liu.rxF.remaining ∧ s.liu.rxF.consumed = false ∧ s.liu.tx = .part [1#8] true ∧
       128 ≤ s.liu.holdBuffer.length) := by decide +kernel

/-- Room for one byte while a part telegram is sent, and a buffer that drains, at each place of the receiver; and none held, with the
transmitter idle or sending relayed bytes. -/
theorem witness_UpstreamBytesLeaveInOrder_held :
    (let s := fun (r : Receiver) => onLiu fun l => { l with rxF := r, tx := .part [1#8] false, holdBuffer := List.replicate 127 0#8 }
     (s {}).liu.holdBuffer.length < 128 ∧ (s {}).liu.tx = .part [1#8] false ∧ (0xD1#8 : Byte) ≠ 0xD2#8 ∧ (s {}).liu.rxF.state = .idle ∧
       (s { state := .noise }).liu.rxF.state = .noise ∧
       (s { state := .skip }).liu.rxF.state = .skip ∧ (s { state := .skip }).liu.rxF.consumed = false) ∧
    (let s := onLiu fun l => { l with rxF := { state := .body, remaining := 2 }, tx := .relaying [], holdBuffer := [5#8] }
     s.liu.holdBuffer.length < 128 ∧ s.liu.holdBuffer ≠ [] ∧ s.liu.rxF.state = .body ∧ 2 ≤ s.liu.rxF.remaining ∧
       s.liu.rxF.consumed = false) ∧
    (let s := rxF { state := .body, remaining := 2 }
     s.liu.holdBuffer = [] ∧ s.liu.tx = .idle ∧ s.liu.rxF.state = .body ∧ 2 ≤ s.liu.rxF.remaining ∧ s.liu.rxF.consumed = false) ∧
    (let s := onLiu fun l => { l with rxF := { state := .body, remaining := 2 }, tx := .relaying [7#8] }
     s.liu.holdBuffer = [] ∧ s.liu.tx = .relaying [7#8]) := by decide +kernel

/-- In STARTING; in RUNNING, with no number, with 255 before 0, and with a gap; in LOST. -/
theorem witness_RoundOpenBeginsRound :
    State.reset.lys.armed = none ∧ State.reset.liu.lineState = .starting ∧
    (let s := onLiu fun l => { l with round := none }
     s.lys.armed = none ∧ s.liu.lineState = .running ∧ s.liu.round = none) ∧
    (let s := onLiu fun l => { l with round := some 255 }
     s.lys.armed = none ∧ s.liu.lineState = .running ∧ ∃ n, s.liu.round = some n ∧ 0 = (n + 1) % 256) ∧
    (field.lys.armed = none ∧ field.liu.lineState = .running ∧ field.liu.round = some 7 ∧ 9 ≠ (7 + 1) % 256) ∧
    (let s := onLiu fun l => { l with lineState := .lost, lossExpiry := none, lostRt := some 5000000 }
     s.lys.armed = none ∧ s.liu.lineState = .lost ∧ s.liu.lostRt = some 5000000) :=
  ⟨rfl, rfl, ⟨rfl, rfl, rfl⟩, ⟨rfl, rfl, 255, rfl, rfl⟩, ⟨rfl, rfl, rfl, by decide⟩, rfl, rfl, rfl⟩

theorem witness_RoundCloseOpensTurn :
    field.liu.phase = .opened ∧ (onLiu fun l => { l with phase := .closed }).liu.phase ≠ .opened ∧ State.reset.liu.phase ≠ .opened := by
  decide +kernel

/-- Every position but 0 is FREE. -/
theorem moving_at (k : Nat) (r : Movement) (h : moving.mvs.at? k = some r) :
    k = 0 ∧ r.element = 0 ∧ r.address = 1 ∧ r.kind = .point := by
  cases k with
  | zero => simp only [Mvs.at?, moving, List.getElem?_cons_zero, Option.join_some, Option.some.injEq] at h; subst h; exact ⟨rfl, rfl, rfl, rfl⟩
  | succ k =>
    simp only [Mvs.at?, moving, List.getElem?_cons_succ, List.getElem?_replicate] at h
    split at h <;> cases h

theorem moving_sound : moving.MovementsSound where
  positions := by decide
  records k r h := by
    obtain ⟨rfl, h1, h2, h3⟩ := moving_at k r h
    rw [h1, h2, h3]
    exact ⟨_, rfl, rfl, rfl, rfl, rfl⟩
  links i e k h hk := by
    match i, h with
    | 0, h => cases h; cases hk; exact ⟨_, rfl, rfl⟩
    | 1, h => cases h; cases hk
    | 2, h => cases h; cases hk
    | 3, h => cases h; cases hk

theorem moving_layout_sound : moving.LayoutSound where
  rising := by decide +kernel
  addresses := by decide +kernel
  links p hp := by
    obtain rfl := List.mem_singleton.mp hp
    exact ⟨⟨_, rfl, rfl⟩, nofun⟩
  booked := by decide +kernel
  entries := by decide +kernel
  slots k _ _ _ _ _ h := by
    simp only [Ttc.slot, moving, onElement, State.onElement, State.onLys, field, State.reset, State.atPowerOn, List.getElem?_replicate] at h
    split at h <;> cases h
  staging := nofun
  unknown := by decide +kernel
  armed := nofun

/-- An open movement; and a loss expiry reached just now. -/
theorem witness_ResetAndLossForgetTheField :
    moving.MovementsSound ∧ moving.lys.armed = none ∧
    (let s : State := { moving with tbu := { moving.tbu with rt := 11000000 } }
     s.MovementsSound ∧ s.lys.armed = none ∧ s.lossDue = true) :=
  ⟨moving_sound, rfl, ⟨moving_sound.positions, moving_sound.records, moving_sound.links⟩, rfl, by decide +kernel⟩

/-- A turn with its allotment unspent, or spent. -/
def turn (sent : Nat) (tx : Transmitter) (o : Orh → Orh) : State :=
  { field with liu := { field.liu with phase := .closed, turn := .opened 2 sent, tx := tx }, orh := o field.orh }

/-- A reply of a refusal, and one of two telegrams. -/
def refused : Reply := { code := some 0x10, arrival := ⟨0, 0, .u⟩, content := .refusal .range, sent := 0, overrun := false }
def tableReply : Reply := { refused with content := .table 12 0 0 (.clockLine {}) }

/-- A report. -/
def report (priority : Nat) : Report :=
  { kind := .missed, priority := priority, seq := 1, date := ⟨0, 0, .u⟩, flags := {}, summary := .ofRecord .lineReset }

theorem witness_PartTelegramsServeReplyThenReport :
    (let s := turn 1 .idle fun o => { o with slot := some refused, reports := [report 2] }
     s.liu.turn = .opened 2 1 ∧ s.liu.tx = .idle ∧ s.liu.holdBuffer = [] ∧ (s.liu.rxF.state = .idle ∨ s.liu.rxF.state = .noise) ∧
       s.orh.slot = some refused) ∧
    (let s := turn 1 .idle fun o => { o with reports := [report 2] }
     s.orh.slot = none ∧ 1 < 2 ∧ s.orh.reports = report 2 :: []) ∧
    (let s := turn 2 .idle fun o => { o with reports := [report 2] }
     s.orh.slot = none ∧ 2 ≤ 2) ∧
    (let s := turn 0 .idle id
     s.orh.slot = none ∧ s.orh.reports = []) ∧
    (turn 2 (.part [1#8] false) id).liu.tx = .part [1#8] false ∧
    (let s := turn 1 (.part [1#8] true) fun o => { o with slot := some tableReply }
     s.liu.tx = .part [1#8] true ∧ s.orh.slot = some tableReply ∧ tableReply.sent + 1 < tableReply.content.telegrams) ∧
    (let s := turn 1 (.part [1#8] true) fun o => { o with slot := some refused }
     s.liu.tx = .part [1#8] true ∧ s.orh.slot = some refused ∧ refused.content.telegrams ≤ refused.sent + 1) := by decide +kernel

/-! ### Witnesses: the time base and dating -/

/-- No label, and one a microsecond too old; and STEPs: by a label of the last second just young enough, in UNSET; by one microsecond beyond the step
limit, labelled in FREE and, with the label just too old, in ACQUIRE and HOLDOVER; and one that reaches a seasonal change. -/
theorem witness_MarkIgnoredOrStepped :
    (State.reset.tbu.timeState = .unset ∧ State.reset.tbu.label = none) ∧
    (let s := onTbu fun t => { t with timeState := .free, label := some (11, 7999999) }
     s.tbu.timeState = .free ∧ ∃ n taken, s.tbu.label = some (n, taken) ∧ 2000000 < s.tbu.rt - taken) ∧
    (let s := onTbu fun t => { t with label := some (5662310399, 8000000) }
     s.tbu.timeState = .unset ∧ s.MarkAgainst 5662310399 true ∧ s.tbu.scheduled = none ∧ s.ttc.planes = none ∧ s.ttc.active = false ∧
       s.cld.a.state = .stopped ∧ s.cld.b.state = .stopped) ∧
    (let s := onTbu fun t => { t with st := 9899999, timeState := .free, label := some (10, 8000000) }
     s.MarkAgainst 10 true ∧ s.orh.params.stepLimit < ((s.tbu.st : Int) - (10 * 1000000 : Nat)).natAbs) ∧
    (∀ x, x = .acquire ∨ x = .holdover →
      let s := onTbu fun t => { t with st := 10100001, timeState := x, label := some (3, 7999999) }
      s.MarkAgainst 10 false ∧ s.orh.params.stepLimit < ((s.tbu.st : Int) - (10 * 1000000 : Nat)).natAbs) ∧
    (let s := onTbu fun t => { t with label := some (60, 8000000), scheduled := some (60, 1) }
     s.tbu.timeState = .unset ∧ s.MarkAgainst 60 true ∧ s.tbu.scheduled = some (60, 1) ∧ 1 * 60000000 ≤ 60 * 1000000) := by
  refine ⟨⟨rfl, rfl⟩, ⟨rfl, 11, 7999999, rfl, by decide⟩, ⟨rfl, .inl ⟨rfl, _, rfl, by decide⟩, rfl, rfl, rfl, rfl, rfl⟩,
    ⟨.inl ⟨rfl, _, rfl, by decide⟩, by decide +kernel⟩, ?_, rfl, .inl ⟨rfl, _, rfl, by decide⟩, rfl, by decide⟩
  have h : ∀ x (m taken : Nat), (onTbu fun t => { t with st := 10100001, timeState := x, label := some (3, 7999999) }).tbu.label =
      some (m, taken) → 2000000 < (10000000 - taken : Nat) := by rintro x m taken ⟨⟩; decide
  rintro x (rfl | rfl)
  · exact ⟨.inr ⟨rfl, h _, .inl rfl, by decide⟩, by decide +kernel⟩
  · exact ⟨.inr ⟨rfl, h _, .inr (.inr rfl), by decide⟩, by decide +kernel⟩

/-- In LOCKED, a phase error at the lock window, 500 µs, unlabelled and labelled; and the counts at their bounds, one beyond the window. -/
theorem witness_MarkSlewsLearnsAndCounts :
    (let s := onTbu fun t => { t with st := 10000500, timeState := .locked, holdoverExpiry := some 12000000 }
     let n := (s.tbu.st + 500000) / 1000000
     let e : Int := (s.tbu.st : Int) - (n * 1000000 : Nat)
     s.tbu.timeState = .locked ∧ s.tbu.label = none ∧ e = 500 ∧ e.natAbs ≤ s.orh.params.stepLimit ∧ e.natAbs ≤ s.orh.params.lockWindow) ∧
    (let s := onTbu fun t => { t with
       st := 9999500, timeState := .locked, holdoverExpiry := some 12000000, label := some (10, 8000000) }
     let e : Int := (s.tbu.st : Int) - (10 * 1000000 : Nat)
     s.tbu.timeState = .locked ∧ s.tbu.label = some (10, 8000000) ∧ s.tbu.rt - 8000000 ≤ 2000000 ∧ e = -500 ∧
       e.natAbs ≤ s.orh.params.stepLimit ∧ e.natAbs ≤ s.orh.params.lockWindow) ∧
    (let s := onTbu fun t => { t with timeState := .acquire, good := 7, holdoverExpiry := some 12000000 }
     s.tbu.timeState = .acquire ∧ s.tbu.good = 7 ∧ (-500 : Int).natAbs ≤ s.tbu.lockWindow) ∧
    (let s := onTbu fun t => { t with timeState := .locked, outliers := 3, holdoverExpiry := some 12000000 }
     s.tbu.timeState = .locked ∧ s.tbu.outliers = 3 ∧ s.tbu.lockWindow < (501 : Int).natAbs) := by decide +kernel

/-- In LOCKED, a plain outlier, one microsecond beyond the lock window, the third in a row, with the label just too old. -/
theorem witness_MarkSlewsLearnsAndCounts_outlier :
    let s := onTbu fun t => { t with
      st := 10000501, timeState := .locked, outliers := 2, holdoverExpiry := some 12000000, label := some (3, 7999999) }
    let e : Int := (s.tbu.st : Int) - (10 * 1000000 : Nat)
    s.tbu.timeState = .locked ∧ s.MarkAgainst 10 false ∧ e.natAbs ≤ s.orh.params.stepLimit ∧ s.orh.params.lockWindow < e.natAbs ∧
      s.tbu.outliers + 1 < 4 :=
  ⟨rfl, .inr ⟨rfl, by rintro m taken ⟨⟩; decide, .inr (.inl rfl), rfl⟩, by decide +kernel, by decide +kernel, by decide⟩

/-- A labelled mark in FREE at the step limit, 100,000 µs; an unlabelled one in HOLDOVER at the lock window; and in ACQUIRE one within it, with
6 good marks, and one beyond it, with 7. -/
theorem witness_MarkSlewsLearnsAndCounts_outsideLocked :
    (let s := onTbu fun t => { t with st := 10100000, timeState := .free, label := some (10, 8000000) }
     let e : Int := (s.tbu.st : Int) - (10 * 1000000 : Nat)
     s.tbu.timeState = .free ∧ s.tbu.label = some (10, 8000000) ∧ s.tbu.rt - 8000000 ≤ 2000000 ∧ e.natAbs ≤ s.orh.params.stepLimit) ∧
    (let s := onTbu fun t => { t with st := 10000500, timeState := .holdover, holdoverEntry := some 5 }
     let e : Int := (s.tbu.st : Int) - ((s.tbu.st + 500000) / 1000000 * 1000000 : Nat)
     s.tbu.timeState = .holdover ∧ s.tbu.label = none ∧ e.natAbs ≤ s.orh.params.stepLimit ∧ e.natAbs ≤ s.orh.params.lockWindow) ∧
    (let s := fun (phase good : Nat) => onTbu fun t => { t with
       st := 10000000 + phase, timeState := .acquire, good := good, holdoverExpiry := some 12000000 }
     let e : Nat → Nat → Int := fun phase good => ((s phase good).tbu.st : Int) - (((s phase good).tbu.st + 500000) / 1000000 * 1000000 : Nat)
     (s 500 6).tbu.timeState = .acquire ∧ (s 500 6).tbu.label = none ∧ (e 500 6).natAbs ≤ (s 500 6).orh.params.lockWindow ∧
       (s 500 6).tbu.good + 1 < 8 ∧ (s 501 7).tbu.timeState = .acquire ∧ (e 501 7).natAbs ≤ (s 501 7).orh.params.stepLimit ∧
       (s 501 7).orh.params.lockWindow < (e 501 7).natAbs) := by decide +kernel

/-- Unlabelled, one beyond the step limit of 100,000; and labelled, a second out. -/
theorem witness_MarkBeyondStepLimitIsRejected :
    (let s := onTbu fun t => { t with st := 10100001, timeState := .locked, holdoverExpiry := some 12000000 }
     s.tbu.timeState = .locked ∧ s.tbu.label = none ∧ 10 = (s.tbu.st + 500000) / 1000000 ∧
       s.orh.params.stepLimit < ((s.tbu.st : Int) - (10 * 1000000 : Nat)).natAbs) ∧
    (let s := onTbu fun t => { t with timeState := .locked, label := some (11, 10000000), holdoverExpiry := some 12000000 }
     s.tbu.timeState = .locked ∧ (∃ taken, s.tbu.label = some (11, taken) ∧ s.tbu.rt - taken ≤ 2000000) ∧
       s.orh.params.stepLimit < ((s.tbu.st : Int) - (11 * 1000000 : Nat)).natAbs) :=
  ⟨by decide +kernel, rfl, ⟨10000000, rfl, by decide⟩, by decide +kernel⟩

/-- Just after a rise of ST, and at the end of its range, where ST has not risen. -/
theorem witness_TrimAndSlewAdjustST :
    (let s := onTbu fun t => { t with trim := 1, accumulator := 100000000 }
     100000000 ≤ s.tbu.accumulator ∧ 0 < s.tbu.trim) ∧
    (let s : State := { onTbu (fun t => { t with trim := -1, accumulator := 100000000, slew := -1, slewPhase := 1000 }) with
                        clk := { stMark := 9999999, stReached := 10000000 } }
     100000000 ≤ s.tbu.accumulator ∧ s.tbu.trim < 0 ∧ s.clk.stMark < s.clk.stReached ∧ 1000 ≤ s.tbu.slewPhase ∧ s.tbu.slew < 0) ∧
    (let s : State := { onTbu (fun t => { t with st := 5662310399999999, trim := -1, accumulator := 100000000, slew := -1, slewPhase := 1000 }) with
                        clk := { stMark := 5662310399999999, stReached := 5662310399999999 } }
     100000000 ≤ s.tbu.accumulator ∧ s.tbu.trim < 0 ∧ s.clk.stReached ≤ s.clk.stMark ∧ 1000 ≤ s.tbu.slewPhase ∧ s.tbu.slew < 0) ∧
    0 < (onTbu fun t => { t with slew := 1, slewPhase := 1000 }).tbu.slew := by decide +kernel

/-- An instant just reached, one just ahead, and offsets at and beyond 120. -/
theorem witness_SeasonIsScheduledAndTaken :
    (let s := onTbu fun t => { t with st := 60000000, scheduled := some (60, 1) }
     s.tbu.scheduled = some (60, 1) ∧ 1 * 60000000 ≤ s.tbu.st ∧ s.ttc.planes = none ∧ s.ttc.active = false ∧
       s.cld.a.state = .stopped ∧ s.cld.b.state = .stopped) ∧
    (120 ≤ 120 ∧ 94371839 ≤ 94371839 ∧ field.tbu.st < 94371839 * 60000000) ∧ 0 * 60000000 ≤ field.tbu.st ∧ 120 < 121 ∧
    94371839 < 94371840 := by decide +kernel

theorem witness_HoldoverBeginsAndEnds :
    (let s := onTbu fun t => { t with timeState := .acquire, holdoverExpiry := some 10000000 }
     (s.tbu.timeState = .acquire ∨ s.tbu.timeState = .locked) ∧ s.tbu.holdoverExpiry = some 10000000 ∧ 10000000 ≤ s.tbu.rt) ∧
    (let s := onTbu fun t => { t with rt := 14400000005, timeState := .holdover, holdoverEntry := some 5 }
     s.tbu.timeState = .holdover ∧ s.tbu.holdoverEntry = some 5 ∧ 5 + s.orh.params.holdoverLimit * 60000000 ≤ s.tbu.rt) := by decide +kernel

theorem witness_TimeMarkSetsTheLabel : 5662310399 ≤ 5662310399 ∧ 5662310399 < 5662310400 := by decide

theorem witness_TimeSetSetsTheClock :
    (5662310399999 ≤ 5662310399999 ∧ 120 ≤ 120 ∧ field.ttc.planes = none ∧ field.ttc.active = false ∧ field.cld.a.state = .stopped ∧
      field.cld.b.state = .stopped) ∧ 5662310399999 < 5662310400000 ∧ 120 < 121 := by decide +kernel

theorem witness_EventInstantIsSetBackByAge : 4094 < 4095 ∧ 4095 ≤ 4095 := by decide

/-! ### Witnesses: layout -/

theorem staged_banks_sound : staged.BanksSound := ⟨by decide +kernel, by decide +kernel, by decide +kernel⟩

/-- The last index of an element bank; and a step that writes there. -/
theorem witness_StagingBankReadsBack :
    staged.lys.stagingElements.wf 1024 = true ∧ 1023 < 1024 ∧
    (let s : State := { staged with pending := [.elementWrite .unicast 1023 9 0 100 1 1] }
     s.BanksSound ∧ ∃ t, step s = .next t) :=
  ⟨by decide +kernel, by decide, ⟨staged_banks_sound.elements, staged_banks_sound.points, staged_banks_sound.timetable⟩, _, rfl⟩

theorem witness_StagingWritesStoreOrRefuse :
    (field.lys.armed = none ∧ 1023 ≤ 1023 ∧ 1 ≤ 3999 ∧ 3999 ≤ 3999 ∧ elementKindOf 3 = some .other ∧ journalClassOf 2 = some .all) ∧
    (255 ≤ 255 ∧ 1023 ≤ 1023 ∧ (65535 ≤ 1023 ∨ 65535 = 65535) ∧ 3 ≤ 3 ∧ edgeOf 1 = some .clear ∧ reportModeOf 1 = some .each) ∧
    (8191 ≤ 8191 ∧ trainOk train = true ∧ 2 ≤ 2 ∧ 2879 ≤ 2879 ∧ 1 ≤ 127 ∧ 127 ≤ 127) := by decide +kernel

/-- Four entries up to the last index, one of them unused. -/
theorem witness_StagingWritesStoreOrRefuse_consecutive :
    let entries : List RawEntry := ⟨0#32, 0, 9, 0, 0, 0⟩ :: List.replicate 3 ⟨train, 255, 2, 2879, 127, 1⟩
    field.lys.armed = none ∧ 1 ≤ entries.length ∧ entries.length ≤ 4 ∧ 8188 + entries.length ≤ 8192 ∧
      ∀ e ∈ entries, e.used = 0 ∨
        (e.used = 1 ∧ trainOk e.train = true ∧ e.kind ≤ 2 ∧ e.booked ≤ 2879 ∧ 1 ≤ e.mask ∧ e.mask ≤ 127) := by decide +kernel

/-- One beyond each bound, and every write while an APPLY is armed. -/
theorem witness_StagingWritesStoreOrRefuse_refused :
    1023 < 1024 ∧ 1 < 2 ∧ (1 = 1 ∧ 3999 < 4000) ∧ (1 = 1 ∧ 3 < 4) ∧ (1 = 1 ∧ 2 < 3) ∧ 255 < 256 ∧
    (1 = 1 ∧ 1023 < 1024 ∧ 1024 ≠ 65535) ∧ (1 = 1 ∧ 1 < 2) ∧
    (let bad : RawEntry := ⟨train, 0, 3, 0, 1, 1⟩
     1 ≤ [bad].length ∧ [bad].length ≤ 4 ∧ 8192 < 8192 + [bad].length ∧ bad.used = 1 ∧ 2 < bad.kind) ∧
    (4 < 5 ∧ 1 ≤ 4 ∧ 4 ≤ 4 ∧ ([] : List RawEntry).length ≠ 4) ∧
    (let s : State := { staged with lys := { staged.lys with armed := some .layout } }
     let good : RawEntry := ⟨train, 0, 2, 2879, 127, 1⟩
     s.lys.armed.isSome = true ∧ (1023 ≤ 1023 ∧ 1 = 1 ∧ 1 ≤ 3999 ∧ 3999 ≤ 3999 ∧ 3 ≤ 3 ∧ 2 ≤ 2) ∧
       (255 ≤ 255 ∧ 1 = 1 ∧ 1023 ≤ 1023 ∧ 1 ≤ 1 ∧ 65535 = 65535 ∧ 3 ≤ 3) ∧
       (1 ≤ [good].length ∧ [good].length ≤ 4 ∧ 8191 + [good].length ≤ 8192 ∧
         ∀ e ∈ [good], ¬ (1 < e.used ∨
           (e.used = 1 ∧ (trainOk e.train = false ∨ 2 < e.kind ∨ 2879 < e.booked ∨ e.mask = 0 ∨ 127 < e.mask))))) := by decide +kernel

theorem staged_layout_sound : staged.LayoutSound where
  rising := by decide +kernel
  addresses := by decide +kernel
  links p hp := by
    obtain rfl := List.mem_singleton.mp hp
    exact ⟨⟨_, rfl, rfl⟩, nofun⟩
  booked := by decide +kernel
  entries := by decide +kernel
  slots := moving_layout_sound.slots
  staging i e h := by
    have : ∀ x ∈ staged.lys.stagingElements, 1 ≤ x.2.address ∧ x.2.address ≤ 3999 := by decide +kernel
    exact this (i, e) h
  unknown := by decide +kernel
  armed := nofun

/-- Codes 0 and 4; a layout whose first entry is unused; one that passes, outside LOST; and the field's layout in the staging banks. -/
theorem witness_ApplyValidatesAndArms :
    (0 = 0 ∧ 3 < 4) ∧
    (let s : State := { staged with lys := { staged.lys with
        stagingElements := [(1, { address := 1, kind := .point, limit := 6000, cls := .changes })] } }
     scopeOf 1 = some .layout ∧ s.validate (mergeScope s.lys.armed .layout) = some ⟨.element, 1, .prefixRule⟩) ∧
    (scopeOf 1 = some .layout ∧ staged.validate (mergeScope staged.lys.armed .layout) = none ∧ staged.liu.lineState ≠ .lost) ∧
    staged.BanksSound ∧ staged.LayoutSound :=
  ⟨by decide, by decide +kernel, by decide +kernel, staged_banks_sound, staged_layout_sound⟩

/-- A point in movement, with staging banks that keep it and the section, and have a new signal; an APPLY armed or none. -/
def reapplied (armed : Option Scope) : State :=
  { moving with lys := { moving.lys with
      stagingElements := indexed 0 [{ address := 1, kind := .point, limit := 6000, cls := .changes },
        { address := 3, kind := .sect, limit := 0, cls := .all }, { address := 5, kind := .signal, limit := 1000, cls := .changes }]
      stagingPoints := [(0, { timingPoint with sect := 1 })], armed := armed } }

theorem reapplied_valid : ∀ scope : Scope, (reapplied none).validate scope = none := by rintro (_ | _ | _) <;> decide +kernel

theorem reapplied_sound (armed : Option Scope) : (reapplied armed).LayoutSound ∧ (reapplied armed).MovementsSound where
  left :=
    { moving_layout_sound with
      staging := fun i e h => by
        have : ∀ x ∈ (reapplied none).lys.stagingElements, 1 ≤ x.2.address ∧ x.2.address ≤ 3999 := by decide +kernel
        exact this (i, e) h
      armed := fun scope _ => reapplied_valid scope }
  right := ⟨moving_sound.positions, moving_sound.records, moving_sound.links⟩

/-- The same state later, or with another line state. -/
theorem reapplied_sound_of {s : State} (h : ∃ armed liu tbu, s = { reapplied armed with liu := liu, tbu := tbu }) :
    s.LayoutSound ∧ s.MovementsSound := by
  obtain ⟨armed, liu, tbu, rfl⟩ := h
  have h := reapplied_sound armed
  exact ⟨{ h.1 with armed := h.1.armed }, ⟨h.2.positions, h.2.records, h.2.links⟩⟩

/-- LAYOUT and BOTH, with a movement that its element keeps, armed at a ROUND OPEN in every line state and at the loss expiry, and taken in LOST. -/
theorem witness_ApplyTakesEffect :
    ∀ scope : Scope, scope ≠ .timetable →
      (∀ line, let s : State := { reapplied (some scope) with liu := { moving.liu with lineState := line } }
       s.lys.armed = some scope ∧ s.liu.lineState = line ∧ s.LayoutSound ∧ s.MovementsSound) ∧
      (let s : State := { reapplied (some scope) with tbu := { moving.tbu with rt := 11000000 } }
       s.lys.armed = some scope ∧ s.lossDue = true ∧ s.LayoutSound ∧ s.MovementsSound) ∧
      (let s : State := { reapplied none with liu := { moving.liu with lineState := .lost } }
       s.lys.armed = none ∧ s.liu.lineState = .lost ∧ scopeOf (if scope = .layout then 1 else 3) = some scope ∧
         s.validate scope = none ∧ s.LayoutSound ∧ s.MovementsSound) := by
  rintro (_ | _ | _) h
  · exact ⟨fun _ => ⟨rfl, rfl, reapplied_sound_of ⟨_, _, _, rfl⟩⟩, ⟨rfl, by decide +kernel, reapplied_sound_of ⟨_, _, _, rfl⟩⟩, rfl, rfl,
      rfl, by decide +kernel, reapplied_sound_of ⟨_, _, _, rfl⟩⟩
  · exact absurd rfl h
  · exact ⟨fun _ => ⟨rfl, rfl, reapplied_sound_of ⟨_, _, _, rfl⟩⟩, ⟨rfl, by decide +kernel, reapplied_sound_of ⟨_, _, _, rfl⟩⟩, rfl, rfl,
      rfl, by decide +kernel, reapplied_sound_of ⟨_, _, _, rfl⟩⟩

/-- A timetable of one entry: armed, at the loss expiry too, and taken in LOST, in UNSET and outside it. -/
theorem witness_ApplyTakesEffect_timetable :
    (let s : State := { field with
       tbu := { field.tbu with rt := 11000000 }, lys := { field.lys with armed := some .timetable }
       ttc := { field.ttc with staging := [(0, entry)] } }
     s.lys.armed = some .timetable ∧ s.lossDue = true) ∧
    (let s : TimeState → State := fun x => { field with
       tbu := { field.tbu with timeState := x }, liu := { field.liu with lineState := .lost }
       ttc := { field.ttc with staging := [(0, entry)] } }
     ∀ x, x = .unset ∨ x = .free → (s x).lys.armed = none ∧ (s x).liu.lineState = .lost ∧ (s x).tbu.timeState = x ∧
       (s x).validate .timetable = none) := by
  refine ⟨by decide +kernel, ?_⟩
  rintro x (rfl | rfl) <;> decide +kernel

/-- A list of 31, and of 32. -/
theorem witness_UnknownAddressIsListedOnce :
    (let s : State := { field with lys := { field.lys with unknown := (List.range 31).map (· + 100) } }
     s.indexOf 9 = none ∧ 9 ∉ s.lys.unknown ∧ s.lys.unknown.length < 32 ∧ s.indexOf 130 = none ∧ 130 ∈ s.lys.unknown) ∧
    (let s : State := { field with lys := { field.lys with unknown := (List.range 32).map (· + 100) } }
     s.indexOf 9 = none ∧ 32 ≤ s.lys.unknown.length) := by decide +kernel

theorem witness_ElementStateIsStoredAndJournaled :
    (let s := onElement 3 fun x => { x with lastCommand := some 15 }
     s.indexOf 4 = some 3 ∧ ∃ e, s.lys.elements[3]? = some e ∧ commandCodeOk e.entry.kind 15 = true ∧ e.state.lastCommand = some 15) ∧
    (field.indexOf 4 = some 3 ∧ ∃ e, field.lys.elements[3]? = some e ∧ commandCodeOk e.entry.kind 15 = true ∧
      e.state.lastCommand ≠ some 15 ∧ (e.entry.kind = .sect ∨ e.entry.kind = .other)) ∧
    (∃ e, field.lys.elements[3]? = some e ∧ commandCodeOk e.entry.kind 16 = false ∧ indicationCodeOk e.entry.kind 15 = true ∧
      e.entry.kind ≠ .sect ∧ e.state.movement = none ∧ indicationCodeOk e.entry.kind 16 = false ∧
      e.state.lastBadIndication ≠ some 16 ∧ e.entry.cls ≠ .nothing) :=
  ⟨⟨by decide +kernel, _, rfl, by decide +kernel, rfl⟩, ⟨by decide +kernel, _, rfl, by decide +kernel, by decide +kernel, .inr rfl⟩,
    ⟨_, rfl, by decide +kernel, by decide +kernel, by decide +kernel, rfl, by decide +kernel, by decide +kernel, by decide +kernel⟩⟩

/-- A bad code of a section, of a point in movement, repeated in ALL, and of an element in class NONE. -/
theorem witness_ElementStateIsStoredAndJournaled_bad :
    (field.indexOf 3 = some 2 ∧ ∃ e, field.lys.elements[2]? = some e ∧ e.entry.kind = .sect ∧ indicationCodeOk e.entry.kind 16 = false) ∧
    (moving.indexOf 1 = some 0 ∧ ∃ e, moving.lys.elements[0]? = some e ∧ e.state.movement = some 0 ∧
      indicationCodeOk e.entry.kind 4 = false) ∧
    (let s := onElement 3 fun x => { x with lastBadIndication := some 16 }
     s.indexOf 4 = some 3 ∧ ∃ e, s.lys.elements[3]? = some e ∧ e.state.lastBadIndication = some 16 ∧ e.entry.cls = .all ∧
       indicationCodeOk e.entry.kind 16 = false) ∧
    (∃ e, field.lys.elements[2]? = some e ∧ e.entry.cls = .nothing ∧ e.state.lastBadIndication ≠ some 16) :=
  ⟨⟨by decide +kernel, _, rfl, rfl, by decide +kernel⟩, ⟨by decide +kernel, _, rfl, rfl, by decide +kernel⟩,
    ⟨by decide +kernel, _, rfl, rfl, rfl, by decide +kernel⟩, _, rfl, rfl, by decide +kernel⟩

/-! ### Witnesses: movements -/

/-- A point that shows the target, BOTH, and neither, with the table empty and full. -/
theorem witness_PointCommandOpensMovement :
    (let s := onElement 0 fun x => { x with lastIndicated := some 2 }
     s.indexOf 1 = some 0 ∧ ∃ e, s.lys.elements[0]? = some e ∧ e.entry.kind = .point ∧ e.state.lastCommand ≠ some 2 ∧
       e.entry.cls = .changes ∧ e.state.movement = none ∧ e.state.lastIndicated = some 2) ∧
    (let s := onElement 0 fun x => { x with lastIndicated := some 3 }
     ∃ e, s.lys.elements[0]? = some e ∧ e.state.lastIndicated = some 3) ∧
    (∃ e, field.lys.elements[0]? = some e ∧ e.state.lastIndicated ≠ some 2 ∧ e.state.lastIndicated ≠ some 3 ∧ field.mvs.free? = some 0) ∧
    (let s : State := { field with mvs := { table := List.replicate 64 ((moving.mvs.at? 0)) } }
     s.mvs.free? = none) :=
  ⟨⟨by decide +kernel, _, rfl, rfl, by decide +kernel, rfl, rfl, rfl⟩, ⟨_, rfl, rfl⟩, ⟨_, rfl, by decide +kernel, by decide +kernel, by decide +kernel⟩,
    by decide +kernel⟩

/-- A signal that shows the target, and one that shows nothing, with the table empty and full. -/
theorem witness_PointCommandOpensMovement_signal :
    (let s := onElement 1 fun x => { x with lastIndicated := some 14 }
     s.indexOf 2 = some 1 ∧ ∃ e, s.lys.elements[1]? = some e ∧ e.entry.kind = .signal ∧ 14 ≤ 14 ∧ e.state.lastCommand ≠ some 14 ∧
       e.state.movement = none ∧ e.state.lastIndicated = some 14) ∧
    (∃ e, field.lys.elements[1]? = some e ∧ e.state.lastIndicated ≠ some 0 ∧ field.mvs.free? = some 0) ∧
    (let s : State := { field with mvs := { table := List.replicate 64 ((moving.mvs.at? 0)) } }
     s.mvs.free? = none) :=
  ⟨⟨by decide +kernel, _, rfl, rfl, by decide, by decide +kernel, rfl, rfl⟩, ⟨_, rfl, by decide +kernel, by decide +kernel⟩, by decide +kernel⟩

/-- The moving point commanded back: it shows nothing, the new target, or BOTH. -/
theorem witness_PointCommandOpensMovement_superseding :
    (∃ e r, moving.indexOf 1 = some 0 ∧ moving.lys.elements[0]? = some e ∧ e.entry.kind = .point ∧ e.state.lastCommand ≠ some 1 ∧
      e.state.movement = some 0 ∧ moving.mvs.at? 0 = some r ∧ r.element = 0 ∧ r.start.rt ≤ (moving.captureAt .i).rt ∧
      e.state.lastIndicated ≠ some 1 ∧ e.state.lastIndicated ≠ some 3) ∧
    (∃ e, (onElement 0 (fun x => { x with lastIndicated := some 1 }) moving).lys.elements[0]? = some e ∧ e.state.lastIndicated = some 1) ∧
    (∃ e, (onElement 0 (fun x => { x with lastIndicated := some 3 }) moving).lys.elements[0]? = some e ∧ e.state.lastIndicated = some 3) :=
  ⟨⟨_, _, by decide +kernel, rfl, rfl, by decide +kernel, rfl, rfl, rfl, by decide +kernel, by decide +kernel, by decide +kernel⟩,
    ⟨_, rfl, rfl⟩, ⟨_, rfl, rfl⟩⟩

theorem witness_TargetIndicationClosesMovement :
    ∃ e r, moving.indexOf 1 = some 0 ∧ moving.lys.elements[0]? = some e ∧ e.entry.kind = .point ∧ e.entry.cls = .changes ∧
      e.state.movement = some 0 ∧ moving.mvs.at? 0 = some r ∧ r.element = 0 ∧ r.phase = .moving ∧ r.target = 2 ∧ r.kind = .point ∧
      e.state.lastIndicated = some 0 ∧ r.loss = some 5000000 ∧ r.start.rt ≤ 5000000 ∧
      (∀ last, e.state.lastIndicationAt = some last → last.rt ≤ (moving.captureAt .f).rt) ∧ 5000000 ≤ (moving.captureAt .f).rt :=
  ⟨_, _, by decide +kernel, rfl, rfl, rfl, rfl, rfl, rfl, rfl, rfl, rfl, rfl, rfl, by decide, nofun, by decide +kernel⟩

/-- The field with an open record of an element at position 63. -/
def opened (index address target : Nat) (kind : ElementKind) (phase : MovementPhase) : State :=
  { onElement index (fun x => { x with movement := some 63 }) with
    mvs := { table := List.replicate 63 none ++ [some
      { element := index, address := address, kind := kind, target := target, phase := phase
        start := { rt := 4000000, date := { ms := 4000, season := 0, quality := .u } }, limit := 1000
        limitExpiry := 5000000, abandonExpiry := 8000000, overdue := true, loss := none }] } }

/-- Each phase, with the codes that its clauses name. -/
theorem witness_TargetIndicationClosesMovement_phases :
    (∀ code ∈ [0, 1, 2, 3], indicationCodeOk .point code = true) ∧ (∀ code ∈ [0, 5, 14, 15], indicationCodeOk .signal code = true) ∧
    (∃ e r, (opened 0 1 2 .point .commanded).indexOf 1 = some 0 ∧ (opened 0 1 2 .point .commanded).lys.elements[0]? = some e ∧
      e.entry.kind = .point ∧ e.state.movement = some 63 ∧ (opened 0 1 2 .point .commanded).mvs.at? 63 = some r ∧ r.element = 0 ∧
      r.target = 2 ∧ 0 ≠ r.target ∧ r.phase = .commanded) ∧
    (∃ e r, (opened 0 1 2 .point .moving).lys.elements[0]? = some e ∧ e.state.movement = some 63 ∧
      (opened 0 1 2 .point .moving).mvs.at? 63 = some r ∧ r.phase = .moving ∧ 1 ≠ r.target) ∧
    (∃ e r, (opened 1 2 5 .signal .clearing).indexOf 2 = some 1 ∧ (opened 1 2 5 .signal .clearing).lys.elements[1]? = some e ∧
      e.entry.kind = .signal ∧ e.state.movement = some 63 ∧ (opened 1 2 5 .signal .clearing).mvs.at? 63 = some r ∧ r.element = 1 ∧
      r.target = 5 ∧ r.phase = .clearing ∧ 15 ≠ r.target) ∧
    (∃ r, (opened 1 2 0 .signal .replacing).mvs.at? 63 = some r ∧ r.phase = .replacing ∧ r.target = 0) :=
  ⟨by decide, by decide, ⟨_, _, by decide +kernel, rfl, rfl, rfl, rfl, rfl, rfl, by decide +kernel, rfl⟩,
    ⟨_, _, rfl, rfl, rfl, rfl, by decide +kernel⟩, ⟨_, _, by decide +kernel, rfl, rfl, rfl, rfl, rfl, rfl, rfl, by decide +kernel⟩,
    ⟨_, rfl, rfl, rfl⟩⟩

theorem witness_LimitExpiryMakesOverdueOnce :
    (∃ r, moving.mvs.at? 0 = some r ∧ r.overdue = false ∧ r.limitExpiry ≤ moving.tbu.rt) ∧ moving.mvs.at? 1 = none ∧
    (let s := after (.limitExpiry 0) moving
     ∃ r, s.mvs.at? 0 = some r ∧ r.overdue = true) :=
  ⟨⟨_, rfl, rfl, by decide⟩, rfl, ⟨_, rfl, rfl⟩⟩

theorem witness_AbandonExpiryClosesMovement :
    let s : State := { moving with tbu := { moving.tbu with rt := 28000000 } }
    ∃ e r, s.mvs.at? 0 = some r ∧ s.lys.elements[r.element]? = some e ∧ r.abandonExpiry ≤ s.tbu.rt ∧ r.start.rt ≤ s.tbu.rt ∧
      ∀ loss, r.loss = some loss → r.start.rt ≤ loss :=
  ⟨_, _, rfl, rfl, by decide, by decide, by rintro _ ⟨⟩; decide⟩

/-! ### Witnesses: trains and passings -/

/-- Trains 1A01 to 1A04. -/
def trains : List TrainNumber := [0x31413031#32, 0x31413032#32, 0x31413033#32, 0x31413034#32]

/-- Four trains expected. -/
def full : State := { field with psd := { points := [{ entry := timingPoint, record := { queue := trains } }] } }

theorem witness_TrainOrdersKeepTheQueue :
    (∃ p, field.psd.points[0]? = some p ∧ trainOk train = true ∧ train ∉ p.record.queue ∧ p.record.queue.length < 4) ∧
    (∃ p, full.psd.points[0]? = some p ∧ trainOk 0x31413034#32 = true ∧ p.record.queue.findIdx? (· == 0x31413034#32) = some 3) ∧
    (∃ p oldest rest, full.psd.points[0]? = some p ∧ trainOk 0x31413039#32 = true ∧ 0x31413039#32 ∉ p.record.queue ∧
      p.record.queue = oldest :: rest ∧ p.record.queue.length = 4) ∧
    field.psd.points.length ≤ 1 ∧ trainOk 0x31413020#32 = false ∧ 0 ≠ 65535 :=
  ⟨⟨_, rfl, by decide, by decide, by decide⟩, ⟨_, rfl, by decide, by decide⟩, ⟨_, _, _, rfl, by decide, by decide, rfl, by decide⟩, by decide,
    by decide, by decide⟩

/-- An OCCUPY edge of the section, after a span in ms. -/
def edgeAfter (ms : Nat) : SectionEdge :=
  { sect := 2, address := 3, edge := .occupy, event := { rt := 10000000, date := ⟨10000, 0, .u⟩, flags := {} }, since := 10000000 - ms * 1000 }

/-- A span just below the settle time of 3,000 ms. -/
theorem witness_BounceIsCountedAndOffered :
    let x := edgeAfter 2999
    ∃ p, field.psd.points[0]? = some p ∧ p.entry.sect = x.sect ∧ p.entry.edge = x.edge ∧
      (x.event.rt - x.since) / 1000 < field.orh.params.settleTime :=
  ⟨_, rfl, rfl, rfl, by decide +kernel⟩

/-- A section CLEAR, OCCUPIED and UNKNOWN; and never indicated. -/
theorem witness_EdgesAndPassings :
    (∃ e, field.indexOf 3 = some 2 ∧ field.lys.elements[2]? = some e ∧ e.entry.kind = .sect ∧ 2 ≤ 2 ∧ e.state.sectionState = .unknown ∧
      e.state.lastIndicated = none) ∧
    (∃ e, (onElement 2 fun x => { x with sectionState := .clear }).lys.elements[2]? = some e ∧ e.state.sectionState = .clear) ∧
    (∃ e, (onElement 2 fun x => { x with sectionState := .occupied }).lys.elements[2]? = some e ∧ e.state.sectionState = .occupied) :=
  ⟨⟨_, by decide +kernel, rfl, rfl, by decide, rfl, rfl⟩, ⟨_, rfl, rfl⟩, ⟨_, rfl, rfl⟩⟩

/-- A span of the settle time: with no train expected; with one, and the planes absent; and with planes that have no candidate. -/
theorem witness_EdgesAndPassings_passing :
    (∃ p, field.psd.points[0]? = some p ∧ p.entry.sect = (edgeAfter 3000).sect ∧ p.entry.edge = (edgeAfter 3000).edge ∧
      field.orh.params.settleTime ≤ ((edgeAfter 3000).event.rt - (edgeAfter 3000).since) / 1000 ∧ p.record.queue = []) ∧
    (∃ p, expecting.psd.points[0]? = some p ∧ p.record.queue = train :: [] ∧ expecting.ttc.planes = none ∧
      (let s : State := { planesAt 7200 with psd := expecting.psd }
       s.ttc.planes ≠ none ∧
         s.candidates { point := 0, entry := p.entry, train := train, event := (edgeAfter 3000).event, address := 3, edge := .occupy
                        span := 3000, bounces := p.record.bounces, previous := p.record.lastPassing } = [])) :=
  ⟨⟨_, rfl, rfl, rfl, by decide +kernel, rfl⟩, ⟨_, rfl, rfl, rfl, by decide +kernel⟩⟩

/-! ### Witnesses: the timetable -/

/-- Train 1A01 at the timing point, at 02:00:12 of day 0. -/
def passing : PassingItems :=
  { point := 0, entry := timingPoint, train := train, event := { rt := 10000000, date := ⟨7212000, 0, .a⟩, flags := {} }, address := 3
    edge := .occupy, span := 3000, bounces := 0, previous := none }

/-- The bounds of the classes with Te 30, T1 60 and T2 300. -/
theorem witness_MatchedPassingIsJudged :
    (let te : Int := field.orh.params.te 3
     let t1 : Int := field.orh.params.t1 3
     let t2 : Int := max (field.orh.params.value (12 + 3 * 3) : Int) t1
     te = 30 ∧ -31 < -te ∧ (-te ≤ -30 ∧ -30 < t1) ∧ (-te ≤ 59 ∧ 59 < t1) ∧ (t1 ≤ 60 ∧ -te ≤ 60 ∧ 60 < t2) ∧ (t1 ≤ 299 ∧ -te ≤ 299 ∧ 299 < t2) ∧
       (t2 ≤ 300 ∧ -te ≤ 300)) ∧
    (Quality.c = .c ∧ Quality.u = .u ∧ Quality.a = .a ∧ Quality.b = .b) ∧
    ∃ c, earliest ((planesAt 7200).candidates passing) = some c ∧ passing.entry.signal = none :=
  ⟨by decide +kernel, ⟨rfl, rfl, rfl, rfl⟩, _, rfl, rfl⟩

/-- A departure booked at 02:00, from the signal at index 1, with that signal's last proceed-proven instant. -/
def departing (proven : Option Instant) : State :=
  onElement 1 (fun x => { x with proceedProven := proven })
    { planesAt 7200 with ttc := { (planesAt 7200).ttc with entries := [{ entry with kind := 1 }] } }

/-- The departure 60 s late, with a passing of the point before it. -/
def late : PassingItems :=
  { passing with
    entry := { timingPoint with signal := some 1 }, event := { rt := 10000000, date := ⟨7260000, 0, .a⟩, flags := {} }
    previous := some { rt := 4000000, date := ⟨4000, 0, .u⟩ } }

/-- A starting signal: for a passing in time, for a departure SLIGHTLY LATE with no proceed-proven instant, with one just not after the passing
before or just after this one, and with one that counts, at this passing and just after the one before. -/
theorem witness_MatchedPassingIsJudged_cause :
    (∃ c, earliest ((departing none).candidates late) = some c ∧ late.entry.signal = some 1 ∧ c.entry.kind = 1 ∧
      (departing none).classify late.entry.threshold late.event.date.quality
        (((late.event.date.ms + late.event.date.season * 60000 : Nat) - c.bookedAt : Int).tdiv 1000) = .slightlyLate ∧
      ∃ e, (departing none).lys.elements[1]? = some e ∧ e.state.proceedProven = none) ∧
    (∃ c, earliest ((planesAt 7200).candidates late) = some c ∧ c.entry.kind ≠ 1) ∧
    (∃ e, (departing (some ⟨4000000, ⟨7260000, 0, .a⟩⟩)).lys.elements[1]? = some e ∧
      e.state.proceedProven = some ⟨4000000, ⟨7260000, 0, .a⟩⟩ ∧ ∃ before, late.previous = some before ∧ 4000000 ≤ before.rt) ∧
    late.event.rt < 10000001 ∧
    (10000000 ≤ late.event.rt ∧ 4000001 ≤ late.event.rt ∧ ∀ before, late.previous = some before → before.rt < 4000001) := by
  refine ⟨⟨_, rfl, rfl, rfl, by decide +kernel, _, rfl, rfl⟩, ⟨_, rfl, by decide +kernel⟩, ⟨_, rfl, rfl, _, rfl, by decide⟩, by decide, by decide,
    by decide, ?_⟩
  rintro _ ⟨⟩
  decide

/-- A day with the entry PENDING, its base cursor passed, and these slots ACTIVE. -/
def altered (seconds : Nat) (slots : List (Option OverlaySlot)) : State :=
  { planesAt seconds with ttc := { (planesAt seconds).ttc with
      overlay := slots
      planes := some { current := { day := 0, cursor := 1, status := [.pending] }
                       previous := { day := -1, cursor := 1, status := [.pending] } } } }

/-- A candidate; and an entry with no slot, with a CANCEL, and with a REPLACE. -/
theorem witness_EarliestCandidateIsMatched :
    (∃ c, earliest ((planesAt 7200).candidates passing) = some c ∧ c.plane = .current ∧ c.index = 0 ∧ c.bookedAt = 7200000) ∧
    (∃ p, (planesAt 7200).ttc.planes = some p ∧ (planesAt 7200).ttc.entries[0]? = some entry ∧ (planesAt 7200).ttc.alteration 0 = none) ∧
    (altered 7200 [some ⟨0, .cancel⟩]).ttc.alteration 0 = some (0, .cancel) ∧
    (altered 7200 [none, some ⟨0, .replace train 0 1 127⟩]).ttc.alteration 0 = some (1, .replace train 0 1 127) :=
  ⟨⟨_, rfl, rfl, rfl, by decide +kernel⟩, ⟨_, rfl, rfl, by decide +kernel⟩, by decide +kernel, by decide +kernel⟩

/-- The REPLACE of the entry in slot 63. -/
def replaced : List (Option OverlaySlot) := List.replicate 63 none ++ [some ⟨0, .replace train 0 0 127⟩]

theorem replaced_at (k : Nat) (x : OverlaySlot) (h : (altered 14401 replaced).ttc.slot k = some x) :
    k = 63 ∧ x = ⟨0, .replace train 0 0 127⟩ := by
  simp only [Ttc.slot, altered, replaced] at h
  rcases Nat.lt_trichotomy k 63 with h1 | rfl | h1
  · rw [List.getElem?_append_left (by simpa using h1), List.getElem?_replicate, if_pos h1] at h; cases h
  · exact ⟨rfl, by simpa using h.symm⟩
  · rw [List.getElem?_append_right (by simp only [List.length_replicate]; omega)] at h
    obtain ⟨j, rfl⟩ : ∃ j, k = 64 + j := ⟨k - 64, by omega⟩
    rw [List.length_replicate, show 64 + j - 63 = j + 1 by omega] at h
    cases h

theorem altered_sound : (altered 14401 replaced).PlanesSound where
  exist := by decide +kernel
  days := by rintro p ⟨⟩; rfl
  current := by rintro p ⟨⟩; exact ⟨rfl, by decide⟩
  previous := by rintro p ⟨⟩; exact ⟨rfl, by decide⟩
  slots := by decide +kernel
  targets k x h := by obtain ⟨rfl, rfl⟩ := replaced_at k x h; decide
  distinct j k x y hj hk _ := (replaced_at j x hj).1.trans (replaced_at k y hk).1.symm

/-- No slot, with the window of 02:00 just closed; and the entry replaced, its cursor passed, the window of the slot's booked time closed. -/
theorem witness_SweepMissesClosedEntries :
    (∃ p, (planesAt 14401).sweepDue = true ∧ (planesAt 14401).ttc.planes = some p ∧
      (planesAt 14401).ttc.overlay = List.replicate 64 none ∧ (planesAt 14401).evj.stored ≤ 16384 ∧
      (planesAt 14401).ctMs < dayStart (planesAt 14401).ttc.h0 (p.current.day + 1)) ∧
    (let s : State := { altered 14401 replaced with evj := journal }
     s.PlanesSound ∧ s.evj.Sound ∧ s.sweepDue = true ∧
       ∃ p, s.ttc.planes = some p ∧ (s.ctMs : Int) < p.current.day * 86400000 + 86400000 + (s.ttc.h0 * 3600000 : Nat) ∧
         s.ttc.entries[p.current.cursor]? = none ∧ s.ttc.entries[p.previous.cursor]? = none ∧ p.current.statusOf 0 = .pending ∧
         s.ttc.slot 63 = some ⟨0, .replace train 0 0 127⟩ ∧ (127 : Nat).testBit ((p.current.day + 5) % 7).toNat = true ∧
         p.current.day * 86400000 + (s.ttc.h0 * 3600000 : Nat) + (0 * 30000 : Nat) + (s.orh.params.lateLimit * 60000 : Nat) <
           (s.ctMs : Int)) :=
  ⟨⟨_, by decide +kernel, rfl, by decide +kernel, by decide +kernel, by decide +kernel⟩,
    ⟨altered_sound.exist, altered_sound.days, altered_sound.current, altered_sound.previous, altered_sound.slots, altered_sound.targets,
      altered_sound.distinct⟩, journal_sound, by decide +kernel, _, rfl, by decide +kernel, rfl, rfl, rfl, by decide +kernel, by decide +kernel,
    by decide +kernel⟩

/-- 02:00 of day 1, the next day start. -/
theorem witness_PlanesAreMadeAfresh :
    (planesAt 7200).ttc.entries[0]? = some entry ∧
    ∃ p, (planesAt 93600).sweepDue = true ∧ (planesAt 93600).ttc.planes = some p ∧
      (planesAt 93600).ttc.overlay = List.replicate 64 none ∧
      p.current.day * 86400000 + 86400000 + ((planesAt 93600).ttc.h0 * 3600000 : Nat) ≤ ((planesAt 93600).ctMs : Int) :=
  ⟨rfl, _, by decide +kernel, rfl, by decide +kernel, by decide +kernel⟩

/-- The first time; and TIME SETs, a STEP and a seasonal change of the planes of 02:00, by 6 h and by a little more. -/
theorem witness_PlanesAreMadeAfresh_timeChange :
    (let s : State := { field with ttc := { field.ttc with active := true } }
     s.cld.a.state = .stopped ∧ s.cld.b.state = .stopped ∧ s.tbu.scheduled = none ∧ s.ttc.planes = none ∧ s.ttc.active = true ∧
       s.tbu.timeState = .unset) ∧
    (let s := planesAt 7200
     (s.cld.a.state = .stopped ∧ s.cld.b.state = .stopped ∧ s.tbu.scheduled = none ∧ s.ttc.planes ≠ none) ∧ 28800000 ≤ 5662310399999 ∧
       (((28800000 * 1000 + 0 * 60000000 : Nat) - (s.tbu.st + s.tbu.season * 60000000 : Nat) : Int).natAbs ≤ 21600000000) ∧
       21600000000 < ((28800001 * 1000 + 0 * 60000000 : Nat) - (s.tbu.st + s.tbu.season * 60000000 : Nat) : Int).natAbs) ∧
    (let s : State := { planesAt 7200 with tbu := { (planesAt 7200).tbu with label := some (28800, 8000000) } }
     s.tbu.label = some (28800, 8000000) ∧ s.tbu.rt - 8000000 ≤ 2000000 ∧ s.tbu.timeState ≠ .locked ∧
       s.orh.params.stepLimit < ((s.tbu.st : Int) - (28800 * 1000000 : Nat)).natAbs ∧
       ((s.tbu.st : Int) - (28800 * 1000000 : Nat)).natAbs ≤ 21600000000 ∧
       21600000000 < ((s.tbu.st : Int) - (28801 * 1000000 : Nat)).natAbs) ∧
    (let s : State := { planesAt 7200 with tbu := { (planesAt 7200).tbu with scheduled := some (60, 120) } }
     s.tbu.scheduled = some (60, 120) ∧ 120 * 60000000 ≤ s.tbu.st ∧ s.ttc.planes ≠ none) := by decide +kernel

/-- An unlabelled STEP in ACQUIRE, with the planes of 02:00. -/
theorem witness_PlanesAreMadeAfresh_unlabelled :
    let s : State := { planesAt 7200 with tbu := { (planesAt 7200).tbu with st := 7200100001, timeState := .acquire } }
    s.MarkAgainst 7200 false ∧ s.tbu.scheduled = none ∧ s.ttc.planes ≠ none ∧
      s.orh.params.stepLimit < ((s.tbu.st : Int) - (7200 * 1000000 : Nat)).natAbs ∧
      ((s.tbu.st : Int) - (7200 * 1000000 : Nat)).natAbs ≤ 21600000000 :=
  ⟨.inr ⟨rfl, nofun, .inl rfl, by decide⟩, rfl, nofun, by decide +kernel, by decide +kernel⟩

/-- A day with no planes: time state UNSET. -/
def overlaid (slots : List (Option OverlaySlot)) : State :=
  { field with ttc := { field.ttc with entries := [entry], active := true, overlay := slots } }

theorem witness_OverlaySlotsAreWrittenAndCleared :
    (let s := overlaid (List.replicate 64 none)
     63 < 64 ∧ 0 < s.ttc.entries.length ∧ (∀ j x, s.ttc.slot j = some x → x.target = 0 → j = 63) ∧
       trainOk train = true ∧ 0 < s.psd.points.length ∧ 2879 ≤ 2879 ∧ 1 ≤ 127 ∧ 127 ≤ 127 ∧ s.lys.armed = none ∧
       s.ttc.overlay.length = 64) ∧
    (let s := overlaid (some { target := 0, action := .cancel } :: List.replicate 63 none)
     63 < 64 ∧ 0 < s.ttc.entries.length ∧ 0 ≠ 63 ∧ s.ttc.slot 0 = some { target := 0, action := .cancel } ∧
       ∀ i y, s.ttc.slot i = some y → y.target = 0 → i = 0) ∧
    64 ≤ 64 ∧ (overlaid []).ttc.entries.length ≤ 1 := by
  refine ⟨⟨by decide, by decide, ?_, by decide, by decide, by decide, by decide, by decide, rfl, by decide⟩,
    ⟨by decide, by decide, by decide, rfl, ?_⟩, by decide, by decide⟩
  · intro j x h
    simp only [Ttc.slot, overlaid, List.getElem?_replicate] at h
    split at h <;> cases h
  · intro i y h _
    cases i with
    | zero => rfl
    | succ i =>
      simp only [Ttc.slot, overlaid, List.getElem?_cons_succ, List.getElem?_replicate] at h
      split at h <;> cases h

/-- A layout armed without timing points; and the fields one beyond their ranges. -/
theorem witness_OverlaySlotsAreWrittenAndCleared_refused :
    (let s : State := { overlaid (List.replicate 64 none) with lys := { field.lys with armed := some .layout } }
     s.lys.armed = some .layout ∧ s.lys.stagingPoints.length ≤ 0) ∧
    1 < 2 ∧ trainOk 0x31413020#32 = false ∧ (overlaid []).psd.points.length ≤ 1 ∧ 2879 < 2880 ∧ (0 : Nat) = 0 ∧ 127 < 128 := by
  decide +kernel

/-! ### Witnesses: the journal -/

/-- A MINOR record at an unread count of 14,336; one below; and a full ring. -/
theorem witness_RecordIsStoredOrRefused :
    (let e : Evj := { ring := [], next := 14338, readMark := 1, minorRefusals := 0 }
     (RecordBody.bounce 0 0 0 .clear 0 0).cls = .minor ∧ 14336 ≤ e.unread) ∧
    (let e : Evj := { ring := [], next := 14337, readMark := 1, minorRefusals := 0 }
     e.unread < 14336 ∧ e.stored < 16384) ∧
    (let e : Evj := { ring := List.replicate 16383 (record 2) ++ [record 1], next := 16385, readMark := 1, minorRefusals := 0 }
     RecordBody.lineReset.cls ≠ .minor ∧ e.ring = List.replicate 16383 (record 2) ++ [record 1] ∧
       (List.replicate 16383 (record 2)).length = 16383) :=
  ⟨by decide +kernel, by decide +kernel, by decide, rfl, by rw [List.length_replicate]⟩

/-- Stored numbers, one older than the oldest, 0, the oldest, and one beyond the newest by 1 and by the most. -/
theorem witness_JournalReadDeliversFromStart :
    let s : State := { field with evj := journal }
    s.evj.Sound ∧ s.evj.oldest = 2 ∧ s.evj.newest = 4 ∧ 2 ≤ 4 ∧ s.orh.slot = none ∧ (2 < 3 ∧ 3 ≤ 4) ∧ (2 < 4 ∧ 4 ≤ 4) ∧
      (0 < 1 ∧ 1 < 2 ∧ 4 - 1 < 2147483648) ∧ (0 = 0 ∨ 0 = 2) ∧ (2 = 0 ∨ 2 = 2) ∧
      (4 < 5 ∧ 5 ≤ 4294967295 ∧ 5 - 4 ≤ 2147483647) ∧ (4 < 2147483651 ∧ 2147483651 ≤ 4294967295 ∧ 2147483651 - 4 ≤ 2147483647) :=
  ⟨journal_sound, rfl, rfl, by decide, rfl, by decide, by decide, by decide, .inl rfl, .inr rfl, by decide, by decide⟩

/-! ### Witnesses: the clock lines -/

theorem witness_ImpulsesStart :
    (boundary.boundaryDue .a = true ∧ boundary.cld.a.state = .run ∧ boundary.cld.a.flight = none ∧ boundary.cld.a.interval = some 60 ∧
      boundary.cld.a.shown = some 0 ∧ boundary.cld.a.polarity = some .positive ∧ dialLag 60 boundary.ctMs 0 = 1 ∧
      1 + boundary.orh.params.holdLimit < dialPositions 60 ∧ ∀ x, boundary.cld.a.spacing = some x → x ≤ boundary.tbu.rt) ∧
    (let s := impulse .normal .run
     s.boundaryDue .a = true ∧ s.cld.a.flight.isSome = true ∧ s.cld.a.state ≠ .stopped) ∧
    (let l : ClockLine := { state := .catchUp, wanted := true, spacing := some 10000000, polarity := some .negative }
     let s : State := { field with cld := { b := l } }
     (s.cld.b.state = .run ∨ s.cld.b.state = .catchUp) ∧ s.cld.b.wanted = true ∧ s.cld.b.flight = none ∧
       s.cld.b.spacing = some 10000000 ∧ s.cld.b.polarity = some .negative ∧ 10000000 ≤ s.tbu.rt) ∧ field.tbu.rt < 10000001 :=
  ⟨⟨by decide +kernel, rfl, rfl, rfl, rfl, rfl, by decide +kernel, by decide +kernel, nofun⟩, ⟨by decide +kernel, by decide +kernel, by decide +kernel⟩,
    ⟨.inr rfl, rfl, rfl, rfl, rfl, by decide⟩, by decide⟩

theorem witness_ImpulsesComplete :
    (let s := impulse .normal .run
     ∃ i, s.cld.a.state = .run ∧ s.cld.a.flight = some i ∧ i.kind = .normal ∧ i.endRt ≤ s.tbu.rt ∧ s.cld.a.interval = some 60 ∧
       s.cld.a.shown = some 0 ∧ s.cld.a.polarity = some .positive ∧ s.cld.a.pendingSet = none ∧
       dialLag 60 s.ctMs ((0 + 1) % dialPositions 60) = 0) ∧
    (let s := onLineA (fun l => { l with state := .fault, probe := some 10000000 }) boundary
     s.cld.a.state = .fault ∧ s.cld.a.polarity = some .positive ∧ s.cld.a.flight = none ∧ s.cld.a.probe = some 10000000 ∧
       10000000 ≤ s.tbu.rt) ∧
    (let s := impulse .probe .fault
     ∃ i, s.cld.a.state = .fault ∧ s.cld.a.flight = some i ∧ i.kind = .probe ∧ i.endRt ≤ s.tbu.rt ∧ s.cld.a.pendingSet = none) :=
  ⟨⟨_, rfl, rfl, rfl, by decide, rfl, rfl, rfl, rfl, by decide +kernel⟩, ⟨rfl, rfl, rfl, rfl, by decide⟩, ⟨_, rfl, rfl, rfl, by decide, rfl⟩⟩

/-- A probe of line B, due and completed. -/
theorem witness_ImpulsesComplete_lineB :
    (let s : State := { field with cld := { field.cld with b := { state := .fault, polarity := some .negative, probe := some 10000000 } } }
     (s.line .b).state = .fault ∧ (s.line .b).polarity = some .negative ∧ (s.line .b).flight = none ∧ (s.line .b).probe = some 10000000 ∧
       10000000 ≤ s.tbu.rt) ∧
    (let i : Impulse := { kind := .probe, polarity := .negative, startRt := 9500000, endRt := 10000000 }
     let s : State := { field with cld := { field.cld with b := { state := .fault, polarity := some .negative, flight := some i } } }
     (s.line .b).state = .fault ∧ (s.line .b).flight = some i ∧ i.kind = .probe ∧ i.endRt ≤ s.tbu.rt ∧ (s.line .b).pendingSet = none) := by
  decide +kernel

/-- The last position of either dial; an impulse in flight; UNSET; and a line that has run. -/
theorem witness_ClockLineSetRunsOrStops :
    (dialHas 30 1439 ∧ dialHas 60 719 ∧ polarityOf 1 = some .negative) ∧
    (boundary.tbu.timeState ≠ .unset ∧ (boundary.line .a).flight = none ∧ (boundary.line .a).interval = some 60) ∧
    ((impulse .normal .run).tbu.timeState ≠ .unset ∧ ((impulse .normal .run).line .a).flight.isSome = true) ∧
    field.tbu.timeState = .unset := by
  refine ⟨⟨⟨.inl rfl, by decide⟩, ⟨.inr rfl, by decide⟩, rfl⟩, by decide +kernel, by decide +kernel, rfl⟩

/-- A field one beyond its range; and the outputs with an impulse in flight and with none. -/
theorem witness_ClockLineSetRunsOrStops_refused :
    1 < 2 ∧ ((31 : Nat) ≠ 30 ∧ (31 : Nat) ≠ 60) ∧ ((30 : Nat) = 30 ∧ 1440 ≤ 1440) ∧ ((60 : Nat) = 60 ∧ 720 ≤ 720) ∧
    (∃ i, ((impulse .normal .run).line .a).flight = some i) ∧ ((impulse .normal .run).line .b).flight = none :=
  ⟨by decide, by decide, by decide, by decide, ⟨_, rfl⟩, rfl⟩

/-- Line A in a state, its clocks `behind` positions behind at the boundary of minute 1. -/
def lagging (state : LineRun) (behind : Nat) : State :=
  onLineA (fun l => { l with state := state, shown := some ((1 + 720 - behind) % 720) }) boundary

/-- A line in RUN, CATCH-UP and HOLD at its boundary, with each line of the table of R169; one STOPPED, in FAULT, and with an impulse in
flight; and a TIME SET with no timetable active. -/
theorem witness_ClockLineIsEvaluatedAndCompletes :
    (∀ state ∈ [LineRun.run, .catchUp, .hold], ∀ behind ∈ [0, 1, 2, 599, 600, 719],
      let s := lagging state behind
      (s.line .a).state = state ∧ (s.line .a).flight = none ∧ (s.line .a).interval = some 60 ∧
        (s.line .a).shown = some ((1 + 720 - behind) % 720) ∧ (s.line .a).polarity = some .positive ∧ s.boundaryDue .a = true) ∧
    (let s := boundary
     (s.runFor 60 1 true, s.runFor 60 0 true, s.runFor 60 0 false, s.runFor 60 719 true, s.runFor 60 2 true) =
       (.run, .run, .catchUp, .catchUp, .hold)) ∧
    (field.line .a).state = .stopped ∧ ((impulse .normal .run).line .a).flight.isSome = true ∧
    ((lagging .fault 0).line .a).state = .fault ∧
    (5662310399999 ≤ 5662310399999 ∧ 120 ≤ 120 ∧ boundary.ttc.planes = none ∧ boundary.ttc.active = false ∧
      boundary.tbu.scheduled = none) := by decide +kernel

/-- NORMAL and PROBE impulses at their end, with and without a set held. -/
theorem witness_ClockLineIsEvaluatedAndCompletes_impulses :
    (∃ i, ((impulse .normal .run).line .a).flight = some i ∧ i.endRt ≤ (impulse .normal .run).tbu.rt ∧ i.kind = .normal ∧
      ((impulse .normal .run).line .a).interval = some 60 ∧ ((impulse .normal .run).line .a).shown = some 0 ∧
      ((impulse .normal .run).line .a).polarity = some .positive ∧ ((impulse .normal .run).line .a).state = .run ∧
      ((impulse .normal .run).line .a).pendingSet = none) ∧
    (∃ i, ((impulse .probe .fault).line .a).flight = some i ∧ i.kind = .probe ∧ ((impulse .probe .fault).line .a).pendingSet = none) ∧
    (let s := onLineA (fun l => { l with pendingSet := some (.run 30 1439 .negative) }) (impulse .normal .catchUp)
     (s.line .a).pendingSet = some (.run 30 1439 .negative)) ∧
    (let s := onLineA (fun l => { l with pendingSet := some .stop }) (impulse .probe .fault)
     (s.line .a).pendingSet = some .stop) :=
  ⟨⟨_, rfl, by decide, rfl, rfl, rfl, rfl, rfl, rfl⟩, ⟨_, rfl, rfl, rfl⟩, rfl, rfl⟩

/-! ### Witnesses: orders, replies and reports -/

/-- A slot EMPTY and FULL; an unknown code; an ELEMENT WRITE of 9 bytes, TIMETABLE WRITEs of 3 bytes and of 4 entries too short; and fields at
the ends of their ranges. -/
theorem witness_OrdersAreJudgedAndAnswered :
    field.orh.slot = none ∧ (onOrh fun o => { o with slot := some refused }).orh.slot = some refused ∧
    (0x13#8 : Byte).toNat ∉ [0x10, 0x11, 0x12, 0x20, 0x30, 0x31, 0x32, 0x33, 0x40, 0x41, 0x48, 0x49, 0x50, 0x51, 0x52, 0x60, 0x7F] ∧
    (0x30#8 : Byte).toNat = 0x30 ∧ (List.replicate 8 (0#8 : Byte)).length + 1 ≠ 10 ∧ (List.replicate 2 (0#8 : Byte)).length < 3 ∧
    (List.replicate 39 (0#8 : Byte)).length ≠ 10 * 4 ∧ (256 ^ 5 - 1 : Nat) < 256 ^ 5 ∧ (256 ^ 6 - 1 : Nat) < 256 ^ 6 ∧
    ((-2147483648 : Int) ≤ -2147483648 ∧ (2147483647 : Int) ≤ 2147483647) ∧
    (let entries : List RawEntry := List.replicate 4 ⟨train, 255, 255, 65535, 255, 255⟩
     1 ≤ entries.length ∧ entries.length ≤ 4 ∧ ∀ e ∈ entries, e.wf = true) ∧
    (4 < 5 ∧ 5 < 256) ∧ 1 < (2#8 : Byte).toNat := by decide +kernel

theorem witness_ConfigWriteClampsAndStores :
    (1 ≤ 25 ∧ paramTable[25 - 1]? = some ⟨100, 2000, 500⟩ ∧ 25 ∉ [3, 4, 12, 15, 18, 21]) ∧ 0 = 0 ∧ 25 < 26 ∧
    (∃ row, paramTable[21 - 1]? = some row ∧ 21 ∈ [12, 15, 18, 21]) ∧ (∃ row, paramTable[3 - 1]? = some row) ∧
    ∃ row, paramTable[4 - 1]? = some row ∧ field.orh.params.Sound :=
  ⟨by decide +kernel, rfl, by decide, ⟨_, rfl, by decide⟩, ⟨_, rfl⟩, _, rfl, by decide, by intro n h1 h2; interval_cases n <;> decide⟩

/-- The last index of each table, and one beyond it; planes; and a FULL slot. -/
theorem witness_ReadingOrdersReply :
    field.orh.slot = none ∧
    (1023 ≤ 1023 ∧ 255 ≤ 255 ∧ 8191 ≤ 8191 ∧ 63 ≤ 63 ∧ 31 ≤ 31) ∧
    (∃ e, field.lys.elements[3]? = some e) ∧
    (∃ p, (planesAt 7200).ttc.planes = some p ∧ 0 < (planesAt 7200).ttc.entries.length) ∧
    ((12 : Nat) < 13 ∧ ((7 : Nat) ≠ 8 ∧ (1 : Nat) ≠ 0) ∧ 1023 < 1024 ∧ 255 < 256 ∧ 8191 < 8192 ∧ field.lys.elements.length ≤ 4 ∧ 1 < 2 ∧
      field.ttc.planes = none ∧ (planesAt 7200).ttc.entries.length ≤ 1 ∧ 63 < 64 ∧ 31 < 32) ∧
    (onOrh fun o => { o with slot := some refused }).orh.slot = some refused :=
  ⟨rfl, by decide, ⟨_, rfl⟩, ⟨_, rfl, by decide⟩, by decide +kernel, rfl⟩

/-- A queue of 63; a full one with a ROUTINE report at its end; a full one of ALARMs. -/
theorem witness_ReportIsAdmittedOrDiscarded :
    (let before := List.replicate 62 (report 2)
     let after := [report 3]
     let o : Orh := { reports := before ++ after }
     (∀ x ∈ before, x.priority ≤ (report 2).priority) ∧ (∀ x ∈ after, (report 2).priority < x.priority) ∧
       o.reports = before ++ after ∧ o.reports.length < 64) ∧
    (let before := List.replicate 63 (report 1)
     let o : Orh := { reports := before ++ [] ++ [report 3] }
     (∀ x ∈ before, x.priority ≤ (report 1).priority) ∧ o.reports = before ++ [] ++ [report 3] ∧ 64 ≤ o.reports.length ∧
       (report 1).priority < (report 3).priority) ∧
    (let before := List.replicate 64 (report 0)
     let o : Orh := { reports := before }
     (∀ x ∈ before, x.priority ≤ (report 0).priority) ∧ o.reports = before ∧ 64 ≤ o.reports.length) := by decide +kernel

theorem witness_RestartGivesUpTheField : moving.MovementsSound := moving_sound

/-! ### Witnesses: the invariants -/

theorem witness_JournalStaysSound :
    let s : State := { field with evj := journal, pending := [.journalRead .unicast 3 1] }
    s.evj.Sound ∧ (∀ c ∈ s.pending, c.wf = true) ∧ ∃ t, step s = .next t := ⟨journal_sound, by decide, _, rfl⟩

/-- A state with a report and a reply. -/
theorem orders_sound : (onOrh fun o => { o with slot := some tableReply, reports := [report 1, report 3] }).orh.Sound where
  reports := by decide
  order := by decide
  priority := by decide
  discarded := by decide
  reply := by rintro r ⟨⟩; decide
  params := ⟨by decide, by intro n h1 h2; interval_cases n <;> decide⟩

/-- A LOCKED time base at its bounds. -/
def locked : Tbu :=
  { field.tbu with
    st := 5662310399999999, trim := -5000, slew := 2000000, season := 120, timeState := .locked, good := 8, outliers := 3
    holdoverExpiry := some 12000000 }

theorem locked_sound : locked.Sound where
  st := by decide
  trim := by decide
  slew := by decide
  prevSlew := by decide
  season := by decide
  scheduled := nofun
  good := by decide
  goodAcquire := nofun
  outliers := by decide
  latched := by decide
  label := nofun
  expiry := by decide
  entry := by decide

theorem witness_TimeAndOrdersStaySound :
    let s : State := { onOrh (fun o => { o with slot := some tableReply, reports := [report 1, report 3] }) with
                       tbu := locked, pending := [.mark] }
    s.orh.Sound ∧ s.tbu.Sound ∧ ∃ t, step s = .next t := ⟨orders_sound, locked_sound, _, rfl⟩

theorem field_line_sound : field.LineSound where
  left := ⟨by decide, by decide, by decide, by decide, by decide, by decide, by decide, by decide, nofun, fun _ => rfl, nofun⟩
  right := ⟨⟨by decide, by decide, nofun⟩, ⟨by decide, by decide, nofun⟩⟩

/-- A line in RUN of 60 s with an impulse in flight. -/
theorem impulse_sound : (impulse .normal .run).cld.a.Sound where
  dial := by rintro _ _ ⟨⟩ ⟨⟩; exact ⟨.inr rfl, by decide⟩
  known := by decide +kernel
  wanted := by decide +kernel
  normal := by rintro _ ⟨⟩ _; exact .inl rfl
  probing := by rintro _ ⟨⟩ h; cases h
  probe := by decide +kernel
  fault := by decide +kernel
  noted := by decide +kernel
  pending := by decide +kernel
  pendingDial := nofun

theorem stopped_sound : (impulse .normal .run).cld.b.Sound where
  dial := nofun
  known := by decide +kernel
  wanted := by decide +kernel
  normal := nofun
  probing := nofun
  probe := by decide +kernel
  fault := by decide +kernel
  noted := by decide +kernel
  pending := by decide +kernel
  pendingDial := nofun

theorem witness_LinesStaySound :
    (field.LineSound ∧ ∃ t, step { field with pending := [.roundClose] } = .next t) ∧
    (impulse .normal .run).cld.a.Sound ∧ (impulse .normal .run).cld.b.Sound ∧
    ∃ t, step { impulse .normal .run with pending := [.impulseCompletion .a .ok] } = .next t :=
  ⟨⟨field_line_sound, _, rfl⟩, impulse_sound, stopped_sound, _, rfl⟩

theorem trains_ok : ∀ t ∈ trains, trainOk t = true := by
  simp only [trains, List.forall_mem_cons]
  exact ⟨by decide, by decide, by decide, by decide, nofun⟩

theorem full_psd_sound : full.psd.Sound := by
  intro p hp
  obtain rfl := List.mem_singleton.mp hp
  exact ⟨by decide, by decide, trains_ok, by decide⟩

theorem planes_sound : (planesAt 7200).PlanesSound where
  exist := by decide +kernel
  days := by rintro p ⟨⟩; rfl
  current := by rintro p ⟨⟩; exact ⟨rfl, by decide⟩
  previous := by rintro p ⟨⟩; exact ⟨rfl, by decide⟩
  slots := by decide +kernel
  targets k x h := by
    simp only [Ttc.slot, planesAt, field, State.reset, State.atPowerOn, List.getElem?_replicate] at h
    split at h <;> cases h
  distinct j k x y h := by
    simp only [Ttc.slot, planesAt, field, State.reset, State.atPowerOn, List.getElem?_replicate] at h
    split at h <;> cases h

theorem witness_TrainsAndPlanesStaySound :
    (full.psd.Sound ∧ ∃ t, step { full with pending := [.trainIdent .unicast 0 train] } = .next t) ∧
    (planesAt 7200).PlanesSound ∧ ∃ t, step { planesAt 7200 with pending := [.overlayClear .unicast 0] } = .next t :=
  ⟨⟨full_psd_sound, _, rfl⟩, planes_sound, _, rfl⟩

theorem witness_LayoutAndMovementsStaySound :
    moving.LayoutSound ∧ moving.MovementsSound ∧ ∃ t, step { moving with pending := [.lineReset] } = .next t :=
  ⟨moving_layout_sound, moving_sound, _, rfl⟩

end Sys2Proof.Tests
end

section
/-! The ROUND CLOSE (R10, R15): what its command does, by the round phase it finds. -/

namespace Sys2Proof.Machine

theorem exec_roundClose (s : State) : exec .roundClose s = .next (s.release .i).takeRoundClose := rfl

/-- Releasing the I-port (R2, R45) empties its receiver and its capture, and touches nothing else. -/
theorem State.release_i (s : State) :
    s.release .i = { s with liu := { s.liu with rxI := {} }, dtu := { s.dtu with capI := none } } := rfl

/-- R10, R15: in round phase OPEN the round closes and the turn opens, the allotment in force latched. -/
theorem State.takeRoundClose_of_opened {s : State} (h : s.liu.phase = .opened) :
    s.takeRoundClose =
      { s with liu := { s.liu with phase := .closed, turn := .opened s.orh.params.allotment 0 } } := by
  simp only [State.takeRoundClose, h, State.onLiu]

/-- R10: outside round phase OPEN the telegram has no effect. -/
theorem State.takeRoundClose_of_not_opened {s : State} (h : s.liu.phase ≠ .opened) : s.takeRoundClose = s := by
  unfold State.takeRoundClose
  split
  case h_1 => rfl
  case h_2 hopened => exact absurd hopened h
  case h_3 => rfl

/-- Settles O12: the released I-port leaves the round phase as it was, and the telegram is then taken by that phase. -/
theorem roundCloseOpensTurn : Obligations.RoundCloseOpensTurn := by
  intro s
  constructor
  · intro hopened
    have hreleased : (s.release .i).liu.phase = .opened := by rw [State.release_phase, hopened]
    rw [exec_roundClose, State.takeRoundClose_of_opened hreleased, State.release_i]
  · intro hother
    have hreleased : (s.release .i).liu.phase ≠ .opened := by rwa [State.release_phase]
    rw [exec_roundClose, State.takeRoundClose_of_not_opened hreleased, State.release_i]

end Sys2Proof.Machine
end

section
/-! The second mark (R28, R29, R30): the second it is judged against, and the action it takes in LOCKED beyond the step limit (R33). -/

namespace Sys2Proof.Machine

theorem exec_mark (s : State) : exec .mark s = .next s.takeMark := rfl

/-! ### The second a mark is judged against -/

/-- R28: a label at most 2,000,000 µs old gives the mark its second. -/
theorem Tbu.markLabel_of_fresh {t : Tbu} {n taken : Nat} (hlabel : t.label = some (n, taken)) (hfresh : t.rt - taken ≤ 2000000) :
    t.markLabel = some n := by
  simp only [Tbu.markLabel, hlabel, if_pos hfresh]

/-- R28: with no label, or a lapsed one, the mark is unlabelled. -/
theorem Tbu.markLabel_of_lapsed {t : Tbu} (h : ∀ m taken, t.label = some (m, taken) → 2000000 < t.rt - taken) :
    t.markLabel = none := by
  unfold Tbu.markLabel
  split
  case h_1 m taken hlabel => exact if_neg (not_le.mpr (h m taken hlabel))
  case h_2 => rfl

/-- The time base as a mark finds it (R28): the limits in force latched, and the label spent. -/
def State.latchForMark (s : State) : State :=
  { s with
    tbu := { s.tbu with stepLimit := s.orh.params.stepLimit, lockWindow := s.orh.params.lockWindow, label := none } }

/-- R28, R29: a mark that is not ignored latches the limits, spends the label, and is acted on against its second. -/
theorem State.takeMark_of_markAgainst {s : State} {n : Nat} {labelled : Bool} (h : s.MarkAgainst n labelled) :
    s.takeMark = s.latchForMark.actOnMark n labelled := by
  obtain ⟨rfl, taken, hlabel, hfresh⟩ | ⟨rfl, hlapsed, hstate, rfl⟩ := h
  case inl =>
    simp only [State.takeMark, Tbu.markLabel_of_fresh hlabel hfresh]
    rfl
  case inr =>
    have hnone := Tbu.markLabel_of_lapsed hlapsed
    obtain hstate | hstate | hstate := hstate <;>
    · simp only [State.takeMark, hnone, hstate]
      rfl

/-! ### The REJECT -/

/-- R30: in LOCKED, a phase error beyond the latched step limit is a REJECT. -/
theorem State.actOnMark_of_locked_beyond {s : State} {n : Nat} (labelled : Bool) (hlocked : s.tbu.timeState = .locked)
    (hbeyond : s.tbu.stepLimit < ((s.tbu.st : Int) - (n * 1000000 : Nat)).natAbs) :
    s.actOnMark n labelled = s.rejectMark n ((s.tbu.st : Int) - (n * 1000000 : Nat)) labelled := by
  simp only [State.actOnMark, hlocked, decide_eq_true hbeyond, if_true]

/-- R24, R26: in LOCKED, this instant has the date of ST and S with quality class A. -/
theorem State.now_of_locked {s : State} (hlocked : s.tbu.timeState = .locked) :
    s.now = { ms := s.tbu.st / 1000, season := s.tbu.season, quality := .a } := by
  have hquality : s.quality = .a := by simp only [State.quality, hlocked]
  rw [State.now, hquality]
  rfl

/-- R33: a REJECT notes that the mark was not accepted and stores its record, which is VITAL and so never refused (R152). -/
theorem State.rejectMark_eq (s : State) (n : Nat) (e : Int) (labelled : Bool) :
    s.rejectMark n e labelled =
      { s with
        tbu := { s.tbu with prevAccepted := false }
        evj := s.evj.store (.markRejected e n labelled) s.now {} } := by
  have hvital : (RecordBody.markRejected e n labelled).cls ≠ .minor := nofun
  simp only [State.rejectMark, State.write, State.onEvj, State.onTbu, Evj.offer_of_not_minor hvital]

/-- Settles O18: the latched limit is the one in force, so the mark, taken against its second, is a REJECT dated by ST in LOCKED. -/
theorem markBeyondStepLimitIsRejected : Obligations.MarkBeyondStepLimitIsRejected := by
  intro n labelled s hlocked hagainst e hbeyond
  have hlatched : s.latchForMark.tbu.timeState = .locked := hlocked
  have haction := State.actOnMark_of_locked_beyond labelled hlatched hbeyond
  rw [exec_mark, State.takeMark_of_markAgainst hagainst, haction, State.rejectMark_eq, State.now_of_locked hlatched]
  rfl

end Sys2Proof.Machine
end

section
/-! The event instant of an INDICATION (R50, R51, R52): the age that its field states, the flags that go with it, and the set-back. -/

namespace Sys2Proof.Machine

/-! ### The age field -/

/-- R51: an age below 4,095 ms is taken as stated. -/
theorem takenAge_of_lt {a : Nat} (h : a < 4095) : takenAge a = a := Nat.min_eq_left h.le

/-- R51: an age from 4,095 ms on is taken as 4,095. -/
theorem takenAge_of_le {a : Nat} (h : 4095 ≤ a) : takenAge a = 4095 := Nat.min_eq_right h

/-- R50: an age field that does not saturate gives AGED alone. -/
theorem ageFlags_of_lt {a : Nat} (h : a < 4095) : ageFlags (some a) = { aged := true } := by
  simp only [ageFlags, decide_eq_false h.not_ge]

/-- R51: an age field from 4,095 on gives AGE SATURATED beside AGED. -/
theorem ageFlags_of_le {a : Nat} (h : 4095 ≤ a) : ageFlags (some a) = { aged := true, ageSaturated := true } := by
  simp only [ageFlags, decide_eq_true h]

/-! ### The set-back -/

/-- R50: without an age field the event instant is the capture's, with no flag. -/
theorem eventInstant_none (c : Capture) :
    eventInstant c none = { rt := c.rt, date := dateOf c.st c.season c.quality, flags := {} } := by
  simp only [eventInstant, ageFlags, Option.map_none, Option.getD_none, Nat.zero_mul, Nat.sub_zero]

/-- R50, R52: with an age field, RT and ST are set back by the taken age, each held at 0 by the subtraction of naturals. -/
theorem eventInstant_some (c : Capture) (a : Nat) :
    eventInstant c (some a) =
      { rt := c.rt - takenAge a * 1000
        date := dateOf (c.st - takenAge a * 1000) c.season c.quality
        flags := ageFlags (some a) } := rfl

/-- Settles O24: with no age field, an age taken as stated, and an age that saturates. -/
theorem eventInstantIsSetBackByAge : Obligations.EventInstantIsSetBackByAge := by
  intro c a
  refine ⟨eventInstant_none c, fun hbelow => ?below, fun hsaturated => ?saturated⟩
  case below => rw [eventInstant_some, takenAge_of_lt hbelow, ageFlags_of_lt hbelow, dateOf]
  case saturated => rw [eventInstant_some, takenAge_of_le hsaturated, ageFlags_of_le hsaturated, dateOf]

end Sys2Proof.Machine
end

section
/-! The limit expiry of a movement record (R93): when it is due, the report that it writes, and that it is taken once. -/

namespace Sys2Proof.Machine

/-! ### When a limit expiry is due -/

/-- R93: the limit expiry of an open record is due from its instant on, as long as the record is not overdue. -/
theorem State.limitDue_of_open {s : State} {k : Nat} {r : Movement} (hopen : s.mvs.at? k = some r) :
    s.limitDue k = (!r.overdue && decide (r.limitExpiry ≤ s.tbu.rt)) := by
  simp only [State.limitDue, hopen]

/-- R93: the limit expiry is taken once, so an overdue record has none. -/
theorem State.limitDue_of_overdue {s : State} {k : Nat} {r : Movement} (hopen : s.mvs.at? k = some r) (hoverdue : r.overdue = true) :
    s.limitDue k = false := by
  rw [State.limitDue_of_open hopen, hoverdue, Bool.not_true, Bool.false_and]

/-! ### What the command does -/

theorem exec_limitExpiry (k : Nat) (s : State) : exec (.limitExpiry k) s = execLimitExpiry k s := rfl

theorem exec_limitExpiry_of_due {s : State} {k : Nat} {r : Movement} (hopen : s.mvs.at? k = some r) (hdue : s.limitDue k = true) :
    exec (.limitExpiry k) s = .next (s.takeLimit k r) := by
  simp only [exec_limitExpiry, execLimitExpiry, hopen, hdue, if_true]

theorem exec_limitExpiry_of_free {s : State} {k : Nat} (hfree : s.mvs.at? k = none) : exec (.limitExpiry k) s = .next s := by
  simp only [exec_limitExpiry, execLimitExpiry, hfree]

theorem exec_limitExpiry_of_not_due {s : State} {k : Nat} {r : Movement} (hopen : s.mvs.at? k = some r) (hdue : s.limitDue k = false) :
    exec (.limitExpiry k) s = .next s := by
  simp only [exec_limitExpiry, execLimitExpiry, hopen, hdue, Bool.false_eq_true, if_false]

/-- R151, R152, R195: a record that is not MINOR is never refused, and the report raised names the number it is stored under. -/
theorem State.writeReport_of_not_minor {body : RecordBody} (hclass : body.cls ≠ .minor) (s : State) (date : Date) (kind : ReportKind)
    (flags : Flags) :
    s.writeReport body date kind flags =
      { s with
        evj := s.evj.store body date flags
        orh := s.orh.raise
          { kind := kind, priority := kind.priority, seq := s.evj.next, date := date, flags := flags, summary := .ofRecord body } } := by
  simp only [State.writeReport, State.write, State.raise, State.onEvj, State.onOrh, Evj.offer_of_not_minor hclass]

/-- R93: the record is put back overdue, and a MOVEMENT OVERDUE, VITAL and so never refused, is stored and reported as a WARNING. -/
theorem State.takeLimit_eq (s : State) (k : Nat) (r : Movement) :
    let body : RecordBody := .movementOverdue r.address r.element r.kind k r.target r.phase r.start.date r.limit
      (r.loss.map fun loss => durationMs loss r.start.rt)
    s.takeLimit k r =
      { s with
        mvs := s.mvs.put k (some { r with overdue := true })
        evj := s.evj.store body s.now {}
        orh := s.orh.raise
          { kind := .movementOverdue, priority := 1, seq := s.evj.next, date := s.now, flags := {}, summary := .ofRecord body } } := by
  intro body
  have hvital : body.cls ≠ .minor := nofun
  rw [State.takeLimit, State.writeReport_of_not_minor hvital]
  rfl

/-- Settles O33: an open record's expiry is taken when due; an overdue record's is never due, and a FREE position has none. -/
theorem limitExpiryMakesOverdueOnce : Obligations.LimitExpiryMakesOverdueOnce := by
  intro k s
  constructor
  · intro r hopen hnotOverdue hreached
    have hdue : s.limitDue k = true := by
      rw [State.limitDue_of_open hopen, hnotOverdue, decide_eq_true hreached, Bool.not_false, Bool.and_self]
    rw [exec_limitExpiry_of_due hopen hdue, State.takeLimit_eq]
    rfl
  · rintro (hfree | ⟨r, hopen, hoverdue⟩)
    · exact exec_limitExpiry_of_free hfree
    · exact exec_limitExpiry_of_not_due hopen (State.limitDue_of_overdue hopen hoverdue)

end Sys2Proof.Machine
end

section
/-! A section edge at a timing point that it triggers, and the bounce there (R111, R112, R113). -/

namespace Sys2Proof.Machine

/-- R105: an update of a used point's record puts the point back with it, every other point as it stands. -/
theorem State.onPoint_of_used {s : State} {point : Nat} {p : LivePoint} (hused : s.psd.points[point]? = some p)
    (f : PointRecord → PointRecord) :
    s.onPoint point f =
      { s with psd := { s.psd with points := s.psd.points.set point { p with record := f p.record } } } := by
  have hpoints : s.psd.points.modify point (fun e => { e with record := f e.record }) =
      s.psd.points.set point { p with record := f p.record } := by
    rw [List.modify_eq_set_getElem?, hused]
    rfl
  simp only [State.onPoint, State.onPsd, hpoints]

/-- R111, R112: the bounce test decides an edge at a point that names its section with its edge. -/
theorem State.edgeAtPoint_of_triggered {s : State} {x : SectionEdge} {point : Nat} {p : LivePoint}
    (hused : s.psd.points[point]? = some p) (hsection : p.entry.sect = x.sect) (hedge : p.entry.edge = x.edge) :
    s.edgeAtPoint x point =
      if x.span < s.orh.params.settleTime then s.bounceAt x point else s.passingAt x point p := by
  simp only [State.edgeAtPoint, hused, hsection, hedge, and_self, if_true]

/-- R113: a bounce changes the point's bounce count and the journal; the count rises whether or not the journal takes the record. -/
theorem State.bounceAt_of_used {s : State} {point : Nat} {p : LivePoint} (hused : s.psd.points[point]? = some p) (x : SectionEdge) :
    s.bounceAt x point =
      { s with
        psd := { s.psd with
          points := s.psd.points.set point { p with record := { p.record with bounces := min (p.record.bounces + 1) 255 } } }
        evj := s.evj.offer (.bounce point x.address x.sect x.edge x.span s.orh.params.settleTime) x.event.date x.event.flags } := by
  rw [State.bounceAt, State.onPoint_of_used hused]
  rfl

/-- Settles O36: a span below the settle time fails the bounce test of R112, so the edge is a bounce and changes what R113 says. -/
theorem bounceIsCountedAndOffered : Obligations.BounceIsCountedAndOffered := by
  intro x point p s hused hsection hedge hshort
  have hbounce : x.span < s.orh.params.settleTime := hshort
  rw [State.edgeAtPoint_of_triggered hused hsection hedge, if_pos hbounce, State.bounceAt_of_used hused]
  rfl

end Sys2Proof.Machine
end

section
/-! A record offered to the journal (08): refused under pressure, or stored as the newest, in a ring with room and in a full one. -/

namespace Sys2Proof.Machine

/-! ### Refused or admitted -/

/-- R152: under pressure a MINOR record is refused, and the refusal counted. -/
theorem Evj.offer_of_pressed {e : Evj} {body : RecordBody} (hminor : body.cls = .minor) (hpressed : minorThreshold ≤ e.unread)
    (date : Date) (flags : Flags) :
    e.offer body date flags = { e with minorRefusals := min (e.minorRefusals + 1) maxSeq } := by
  rw [Evj.offer, if_pos ⟨hminor, hpressed⟩]

/-- R152: below the threshold a record of any class is admitted. -/
theorem Evj.offer_of_unread_lt {e : Evj} (hbelow : e.unread < minorThreshold) (body : RecordBody) (date : Date) (flags : Flags) :
    e.offer body date flags = e.store body date flags := by
  rw [Evj.offer, if_neg fun h => hbelow.not_ge h.2]

/-- R151, R152: what is not refused is stored. -/
theorem Evj.offer_of_admitted {e : Evj} {body : RecordBody} (hadmitted : body.cls ≠ .minor ∨ e.unread < minorThreshold)
    (date : Date) (flags : Flags) : e.offer body date flags = e.store body date flags := by
  rcases hadmitted with hclass | hbelow
  · exact Evj.offer_of_not_minor hclass
  · exact Evj.offer_of_unread_lt hbelow body date flags

/-! ### Stored as the newest -/

/-- R148: the oldest record is the last of the ring. -/
theorem Evj.oldest_of_ring {e : Evj} {older : List Record} {oldest : Record} (hring : e.ring = older ++ [oldest]) :
    e.oldest = oldest.seq := by
  simp only [Evj.oldest, hring, List.getLast?_concat, Option.map_some, Option.getD_some]

/-- R148: with room in the ring no record goes, and the read mark stands. -/
theorem Evj.store_of_room {e : Evj} (hroom : e.stored < ringSize) (body : RecordBody) (date : Date) (flags : Flags) :
    e.store body date flags =
      { e with
        ring := { seq := e.next, body := body, date := date, flags := flags } :: e.ring
        next := succSeq e.next } := by
  have hfits : (({ seq := e.next, body := body, date := date, flags := flags } : Record) :: e.ring).length ≤ ringSize := hroom
  rw [Evj.store, List.take_of_length_le hfits, if_neg fun h => hroom.not_ge h.1]

/-- R153: in a full ring the last record makes room, and the read mark falls to 0 with the record it names. -/
theorem Evj.store_of_full {e : Evj} {older : List Record} {oldest : Record} (hring : e.ring = older ++ [oldest])
    (hfull : older.length + 1 = ringSize) (body : RecordBody) (date : Date) (flags : Flags) :
    e.store body date flags =
      { e with
        ring := { seq := e.next, body := body, date := date, flags := flags } :: older
        next := succSeq e.next
        readMark := if e.readMark = oldest.seq then 0 else e.readMark } := by
  have hstored : ringSize ≤ e.stored := by rw [Evj.stored, hring, List.length_append, List.length_singleton, hfull]
  have hkept : (({ seq := e.next, body := body, date := date, flags := flags } : Record) :: e.ring).take ringSize =
      { seq := e.next, body := body, date := date, flags := flags } :: older := by
    rw [hring, ← List.cons_append]
    exact List.take_left' hfull
  simp only [Evj.store, hkept, hstored, Evj.oldest_of_ring hring, true_and, eq_comm (a := oldest.seq)]

/-- Settles O43: refused under pressure; admitted, stored beside the others in a ring with room, in place of the oldest in a full one. -/
theorem recordIsStoredOrRefused : Obligations.RecordIsStoredOrRefused := by
  intro e body date flags
  refine ⟨fun hminor hpressed => Evj.offer_of_pressed hminor hpressed date flags, fun hadmitted => ?_⟩
  rw [Evj.offer_of_admitted hadmitted]
  constructor
  · intro hroom
    exact Evj.store_of_room hroom body date flags
  · intro older oldest hring hlength
    have hfull : older.length + 1 = ringSize := by rw [hlength, ringSize]
    exact Evj.store_of_full hring hfull body date flags

end Sys2Proof.Machine
end

section
/-! Each command as the operation that is its meaning (R8, R185): the rows of the command table, and those that are due or not. -/

namespace Sys2Proof.Machine

/-! ### Telegrams and orders: the I-port or the F-port released, and the owner's operation with the arrival capture -/

theorem exec_byteArrival (p : Port) (b : Byte) (s : State) : exec (.byteArrival p b) s = .next (s.takeByte p b) := rfl
theorem exec_lineSilent (p : Port) (s : State) : exec (.lineSilent p) s = .next (s.takeSilence p) := rfl
theorem exec_telegramNotInterpreted (p : Port) (kind address : Nat) (payload : List Byte) (check : Nat) (s : State) :
    exec (.telegramNotInterpreted p kind address payload check) s =
      .next ((s.release p).takeTelegram p kind address payload check (s.captureAt p)) := rfl
theorem exec_roundOpen (number : Nat) (s : State) :
    exec (.roundOpen number) s = .next ((s.release .i).takeRoundOpen number (s.captureAt .i)) := rfl
theorem exec_lineReset (s : State) : exec .lineReset s = .next ((s.release .i).takeLineReset (s.captureAt .i)) := rfl
theorem exec_command (address code : Nat) (s : State) :
    exec (.command address code) s = .next ((s.release .i).takeCommand address code (s.captureAt .i)) := rfl
theorem exec_indication (address code : Nat) (age : Option Nat) (s : State) :
    exec (.indication address code age) s = .next ((s.release .f).takeIndication address code age (s.captureAt .f)) := rfl
theorem exec_timeMark (m : Manner) (second : Nat) (s : State) :
    exec (.timeMark m second) s = .next ((s.release .i).orderTimeMark m (s.captureAt .i) second) := rfl
theorem exec_timeSet (m : Manner) (ms offset : Nat) (s : State) :
    exec (.timeSet m ms offset) s = .next ((s.release .i).orderTimeSet m (s.captureAt .i) ms offset) := rfl
theorem exec_seasonChange (m : Manner) (offset minute : Nat) (s : State) :
    exec (.seasonChange m offset minute) s = .next ((s.release .i).orderSeasonChange m (s.captureAt .i) offset minute) := rfl
theorem exec_configWrite (m : Manner) (parameter : Nat) (value : Int) (s : State) :
    exec (.configWrite m parameter value) s = .next ((s.release .i).orderConfigWrite m (s.captureAt .i) parameter value) := rfl
theorem exec_elementWrite (m : Manner) (index address kind limit cls used : Nat) (s : State) :
    exec (.elementWrite m index address kind limit cls used) s =
      .next ((s.release .i).orderElementWrite m (s.captureAt .i) index address kind limit cls used) := rfl
theorem exec_pointWrite (m : Manner) (index sect edge signal threshold mode used : Nat) (s : State) :
    exec (.pointWrite m index sect edge signal threshold mode used) s =
      .next ((s.release .i).orderPointWrite m (s.captureAt .i) index sect edge signal threshold mode used) := rfl
theorem exec_timetableWrite (m : Manner) (first count : Nat) (entries : List RawEntry) (s : State) :
    exec (.timetableWrite m first count entries) s = execTimetableWrite m first count entries s := rfl
theorem exec_apply (m : Manner) (scope : Nat) (s : State) :
    exec (.apply m scope) s = .next ((s.release .i).orderApply m (s.captureAt .i) scope) := rfl
theorem exec_overlayWrite (m : Manner) (slot target action : Nat) (train : TrainNumber) (point booked mask : Nat) (s : State) :
    exec (.overlayWrite m slot target action train point booked mask) s =
      .next ((s.release .i).orderOverlayWrite m (s.captureAt .i) slot target action train point booked mask) := rfl
theorem exec_overlayClear (m : Manner) (slot : Nat) (s : State) :
    exec (.overlayClear m slot) s = .next ((s.release .i).orderOverlayClear m (s.captureAt .i) slot) := rfl
theorem exec_trainIdent (m : Manner) (point : Nat) (train : TrainNumber) (s : State) :
    exec (.trainIdent m point train) s = .next ((s.release .i).orderTrainIdent m (s.captureAt .i) point train) := rfl
theorem exec_trainCancel (m : Manner) (train : TrainNumber) (point : Nat) (s : State) :
    exec (.trainCancel m train point) s = .next ((s.release .i).orderTrainCancel m (s.captureAt .i) train point) := rfl
theorem exec_journalRead (m : Manner) (start count : Nat) (s : State) :
    exec (.journalRead m start count) s = .next ((s.release .i).orderJournalRead m (s.captureAt .i) start count) := rfl
theorem exec_tableRead (m : Manner) (table selector index : Nat) (s : State) :
    exec (.tableRead m table selector index) s = .next ((s.release .i).orderTableRead m (s.captureAt .i) table selector index) := rfl
theorem exec_statusRead (m : Manner) (s : State) :
    exec (.statusRead m) s = .next ((s.release .i).orderStatusRead m (s.captureAt .i)) := rfl
theorem exec_clockLineSetRun (m : Manner) (line interval shown polarity : Nat) (s : State) :
    exec (.clockLineSetRun m line interval shown polarity) s =
      .next ((s.release .i).orderSetRun m (s.captureAt .i) line interval shown polarity) := rfl
theorem exec_clockLineSetStop (m : Manner) (line : Nat) (s : State) :
    exec (.clockLineSetStop m line) s = .next ((s.release .i).orderSetStop m (s.captureAt .i) line) := rfl
theorem exec_restart (m : Manner) (s : State) :
    exec (.restart m) s = .next ((s.release .i).orderRestart m (s.captureAt .i)) := rfl
theorem exec_orderRefusedForm (m : Manner) (payload : List Byte) (s : State) :
    exec (.orderRefusedForm m payload) s = .next ((s.release .i).takeOrderPayload m (s.captureAt .i) payload) := rfl
theorem exec_powerOn (straps : Nat) (rate : LineRate) (s : State) :
    exec (.powerOn straps rate) s = .next (s.powerOn straps rate) := rfl
theorem exec_relayedByteSent (s : State) : exec .relayedByteSent s = .next (s.onLiu Liu.byteSent) := rfl

/-! ### The timed events -/

theorem exec_lossExpiry (s : State) : exec .lossExpiry s = .next s.takeLoss := rfl
theorem exec_partTelegramStart (s : State) : exec .partTelegramStart s = execPartTelegramStart s := rfl
theorem exec_partTelegramEnd (s : State) : exec .partTelegramEnd s = .next s.endPartTelegram := rfl
theorem exec_trimCarry (s : State) : exec .trimCarry s = execTrimCarry s := rfl
theorem exec_slewTick (s : State) : exec .slewTick s = execSlewTick s := rfl
theorem exec_season (s : State) : exec .season s = .next s.takeSeason := rfl
theorem exec_holdoverExpiry (s : State) : exec .holdoverExpiry s = execHoldoverExpiry s := rfl
theorem exec_holdoverLimit (s : State) : exec .holdoverLimit s = .next s.takeHoldoverLimit := rfl
theorem exec_sweep (s : State) : exec .sweep s = execSweep s := rfl
theorem exec_abandonExpiry (k : Nat) (s : State) : exec (.abandonExpiry k) s = execAbandonExpiry k s := rfl
theorem exec_intervalBoundary (l : ClockLineName) (s : State) : exec (.intervalBoundary l) s = execIntervalBoundary l s := rfl
theorem exec_spacingExpiry (l : ClockLineName) (s : State) : exec (.spacingExpiry l) s = .next (s.startLine l) := rfl
theorem exec_impulseCompletion (l : ClockLineName) (sense : Sense) (s : State) :
    exec (.impulseCompletion l sense) s = execImpulseCompletion l sense s := rfl
theorem exec_probeExpiry (l : ClockLineName) (s : State) : exec (.probeExpiry l) s = execProbeExpiry l s := rfl

end Sys2Proof.Machine
end

section
/-! What one command can do to the state, said once: the line unit's work with its bytes, and then one operation of an owner, a refusal or nothing
(R3, R8, R185). -/

namespace Sys2Proof.Machine

/-! ### States that differ in the line unit and the captures alone -/

/-- The state with another line unit and other captures. -/
def State.withLine (s : State) (l : Liu) (d : Dtu) : State := { s with liu := l, dtu := d }

@[simp] theorem State.withLine_pins (s : State) (l : Liu) (d : Dtu) : (s.withLine l d).pins = s.pins := rfl
@[simp] theorem State.withLine_liu (s : State) (l : Liu) (d : Dtu) : (s.withLine l d).liu = l := rfl
@[simp] theorem State.withLine_dtu (s : State) (l : Liu) (d : Dtu) : (s.withLine l d).dtu = d := rfl
@[simp] theorem State.withLine_tbu (s : State) (l : Liu) (d : Dtu) : (s.withLine l d).tbu = s.tbu := rfl
@[simp] theorem State.withLine_lys (s : State) (l : Liu) (d : Dtu) : (s.withLine l d).lys = s.lys := rfl
@[simp] theorem State.withLine_mvs (s : State) (l : Liu) (d : Dtu) : (s.withLine l d).mvs = s.mvs := rfl
@[simp] theorem State.withLine_psd (s : State) (l : Liu) (d : Dtu) : (s.withLine l d).psd = s.psd := rfl
@[simp] theorem State.withLine_ttc (s : State) (l : Liu) (d : Dtu) : (s.withLine l d).ttc = s.ttc := rfl
@[simp] theorem State.withLine_evj (s : State) (l : Liu) (d : Dtu) : (s.withLine l d).evj = s.evj := rfl
@[simp] theorem State.withLine_cld (s : State) (l : Liu) (d : Dtu) : (s.withLine l d).cld = s.cld := rfl
@[simp] theorem State.withLine_orh (s : State) (l : Liu) (d : Dtu) : (s.withLine l d).orh = s.orh := rfl
@[simp] theorem State.withLine_clk (s : State) (l : Liu) (d : Dtu) : (s.withLine l d).clk = s.clk := rfl
@[simp] theorem State.withLine_pending (s : State) (l : Liu) (d : Dtu) : (s.withLine l d).pending = s.pending := rfl
@[simp] theorem State.withLine_self (s : State) : s.withLine s.liu s.dtu = s := rfl
@[simp] theorem State.withLine_withLine (s : State) (l l' : Liu) (d d' : Dtu) :
    (s.withLine l d).withLine l' d' = s.withLine l' d' := rfl

/-- Two states differ in the line unit and the captures alone. -/
def State.LineOnly (s t : State) : Prop := t = s.withLine t.liu t.dtu

theorem State.LineOnly.refl (s : State) : s.LineOnly s := rfl

theorem State.LineOnly.trans {s t u : State} (h : s.LineOnly t) (h' : t.LineOnly u) : s.LineOnly u := by
  unfold State.LineOnly at *
  rw [h', h]
  rfl

/-- What differs in no other block differs in the line unit and the captures alone. -/
theorem State.LineOnly.of_frame {s t : State}
    (h : t.pins = s.pins ∧ t.tbu = s.tbu ∧ t.lys = s.lys ∧ t.mvs = s.mvs ∧ t.psd = s.psd ∧ t.ttc = s.ttc ∧ t.evj = s.evj ∧
      t.cld = s.cld ∧ t.orh = s.orh ∧ t.clk = s.clk ∧ t.pending = s.pending) : s.LineOnly t := by
  obtain ⟨h1, h2, h3, h4, h5, h6, h7, h8, h9, h10, h11⟩ := h
  unfold State.LineOnly State.withLine
  rw [← h1, ← h2, ← h3, ← h4, ← h5, ← h6, ← h7, ← h8, ← h9, ← h10, ← h11]

theorem State.LineOnly.onLiu (s : State) (f : Liu → Liu) : s.LineOnly (s.onLiu f) := .of_frame (by simp)
theorem State.LineOnly.onRx (s : State) (p : Port) (f : Receiver → Receiver) : s.LineOnly (s.onRx p f) := .of_frame (by simp)
theorem State.LineOnly.lineError (s : State) (p : Port) : s.LineOnly (s.lineError p) := .of_frame (by simp)
theorem State.LineOnly.setCapture (s : State) (p : Port) (c : Option Capture) : s.LineOnly (s.setCapture p c) := .of_frame (by simp)
theorem State.LineOnly.release (s : State) (p : Port) : s.LineOnly (s.release p) := .of_frame (by simp)
theorem State.LineOnly.relayOn (s : State) (p : Port) (b : Byte) : s.LineOnly (s.relayOn p b) := .of_frame (by simp)
theorem State.LineOnly.beginTelegram (s : State) (p : Port) (b : Byte) : s.LineOnly (s.beginTelegram p b) := .of_frame (by simp)
theorem State.LineOnly.takeHeader (s : State) (p : Port) (b : Byte) : s.LineOnly (s.takeHeader p b) := .of_frame (by simp)
theorem State.LineOnly.takeSilence (s : State) (p : Port) : s.LineOnly (s.takeSilence p) := .of_frame (by simp)
theorem State.LineOnly.takeRoundClose (s : State) : s.LineOnly s.takeRoundClose := .of_frame (by simp)

/-! ### What an owner does -/

/-- The state with the sense input of a line at a value. -/
def State.withSense (s : State) (l : ClockLineName) (sense : Sense) : State :=
  match l with
  | .a => s.onPins fun p => { p with senseA := sense }
  | .b => s.onPins fun p => { p with senseB := sense }

@[simp] theorem State.withSense_frame (s : State) (l : ClockLineName) (sense : Sense) :
    (s.withSense l sense).liu = s.liu ∧ (s.withSense l sense).dtu = s.dtu ∧ (s.withSense l sense).tbu = s.tbu ∧
      (s.withSense l sense).lys = s.lys ∧ (s.withSense l sense).mvs = s.mvs ∧ (s.withSense l sense).psd = s.psd ∧
      (s.withSense l sense).ttc = s.ttc ∧ (s.withSense l sense).evj = s.evj ∧ (s.withSense l sense).cld = s.cld ∧
      (s.withSense l sense).orh = s.orh ∧ (s.withSense l sense).clk = s.clk ∧ (s.withSense l sense).pending = s.pending := by
  cases l <;> exact ⟨rfl, rfl, rfl, rfl, rfl, rfl, rfl, rfl, rfl, rfl, rfl, rfl⟩

/-- The TBU as the holdover expiry leaves it (R36). -/
def Tbu.heldOver (t : Tbu) : Tbu := { t with timeState := .holdover, holdoverEntry := some t.rt, holdoverExpiry := none }

/-- The holdover expiry taken (R36). -/
def State.takeHoldoverExpiry (s : State) : State :=
  (s.onTbu Tbu.heldOver).write ((s.onTbu Tbu.heldOver).timeStateRecord s.tbu.timeState .noMark) (s.onTbu Tbu.heldOver).now

@[simp] theorem State.takeHoldoverExpiry_frame (s : State) :
    s.takeHoldoverExpiry.pins = s.pins ∧ s.takeHoldoverExpiry.liu = s.liu ∧ s.takeHoldoverExpiry.dtu = s.dtu ∧
      s.takeHoldoverExpiry.tbu = s.tbu.heldOver ∧ s.takeHoldoverExpiry.lys = s.lys ∧ s.takeHoldoverExpiry.mvs = s.mvs ∧
      s.takeHoldoverExpiry.psd = s.psd ∧ s.takeHoldoverExpiry.ttc = s.ttc ∧ s.takeHoldoverExpiry.cld = s.cld ∧
      s.takeHoldoverExpiry.orh = s.orh ∧ s.takeHoldoverExpiry.clk = s.clk ∧ s.takeHoldoverExpiry.pending = s.pending := by
  simp [State.takeHoldoverExpiry]

/-- What a command but power-on does once the line unit has done its part with the bytes: nothing, a refusal, or one operation of an owner. Where
`wf` holds, the command's numbers fit their fields. -/
inductive State.Acts (wf : Prop) (s : State) : State → Prop where
  | nothing : s.Acts wf s
  | lineError (p : Port) : s.Acts wf (s.lineError p)
  | answered (m : Manner) (code : Option Nat) (date : Date) (content : ReplyContent) (some_telegram : 1 ≤ content.telegrams)
      (few_telegrams : content.telegrams ≤ 4) : s.Acts wf (s.answer m code date content)
  | roundOpen (number : Nat) (c : Capture) : s.Acts wf (s.takeRoundOpen number c)
  | roundClose : s.Acts wf s.takeRoundClose
  | lineReset (c : Capture) : s.Acts wf (s.takeLineReset c)
  | command (address code : Nat) (c : Capture) : s.Acts wf (s.takeCommand address code c)
  | indication (address code : Nat) (age : Option Nat) (c : Capture) : s.Acts wf (s.takeIndication address code age c)
  | labelled (second : Nat) (fits : second ≤ 5662310399) : s.Acts wf (s.onTbu fun t => { t with label := some (second, t.rt) })
  | timeSet (ms offset : Nat) (fits : ms ≤ 5662310399999 ∧ offset ≤ 120) : s.Acts wf (s.setTime ms offset)
  | seasonScheduled (offset minute : Nat) (fits : offset ≤ 120 ∧ minute ≤ 94371839) :
      s.Acts wf (s.onTbu fun t => { t with scheduled := some (offset, minute) }).takeSeason
  | parameter (parameter : Nat) (value : Int) (date : Date) (fits : 1 ≤ parameter ∧ parameter ≤ 25) :
      s.Acts wf (s.setParameter parameter value date)
  | elementPut (index address kind limit cls : Nat) (e : Element) (fits : index ≤ 1023)
      (written : writtenElement address kind limit cls = some e) (unarmed : s.lys.armed = none) :
      s.Acts wf (s.onLys fun l => { l with stagingElements := l.stagingElements.put index e })
  | elementRemoved (index : Nat) (fits : index ≤ 1023) (unarmed : s.lys.armed = none) :
      s.Acts wf (s.onLys fun l => { l with stagingElements := l.stagingElements.remove index })
  | pointPut (index : Nat) (p : TimingPoint) (fits : index ≤ 255) (unarmed : s.lys.armed = none) :
      s.Acts wf (s.onLys fun l => { l with stagingPoints := l.stagingPoints.put index p })
  | pointRemoved (index : Nat) (fits : index ≤ 255) (unarmed : s.lys.armed = none) :
      s.Acts wf (s.onLys fun l => { l with stagingPoints := l.stagingPoints.remove index })
  | entriesWritten (first : Nat) (entries : List RawEntry) (fits : first + entries.length ≤ 8192) (unarmed : s.lys.armed = none) :
      s.Acts wf (s.onTtc fun t => { t with staging := writeEntries t.staging first entries })
  | armed (scope : Scope) (valid : s.validate scope = none) (stands : s.liu.lineState ≠ .lost) :
      s.Acts wf (s.onLys fun l => { l with armed := some scope })
  | applied (scope : Scope) (c : Capture) (valid : s.validate scope = none) (lost : s.liu.lineState = .lost) :
      s.Acts wf (s.takeApply scope .orderInLost c.instant)
  | slotWritten (k target action : Nat) (train : TrainNumber) (point booked mask : Nat) (act : OverlayAction)
      (read : s.overlayAction action train point booked mask = some act) (fits : k < 64 ∧ target < s.ttc.entries.length)
      (allowed : s.overlayBarred k target act = false) : s.Acts wf (s.writeSlot k target act)
  | slotCleared (k : Nat) (fits : k < 64) : s.Acts wf (s.clearSlot k)
  | trainNamed (point : Nat) (p : LivePoint) (train : TrainNumber) (date : Date) (used : s.psd.points[point]? = some p)
      (valid : trainOk train = true) : s.Acts wf (s.identTrain point p train date)
  | trainCancelled (train : TrainNumber) :
      s.Acts wf (s.onPsd fun d => { d with points := d.points.map fun p => { p with record := p.record.without train } })
  | trainCancelledAt (point : Nat) (train : TrainNumber) : s.Acts wf (s.onPoint point (PointRecord.without train))
  | overrun : s.Acts wf (s.onOrh Orh.overrun)
  | journalRead (c : Capture) (start n : Nat) (fits : wf → start < 4294967296) :
      s.Acts wf ((s.onEvj fun e => e.moveMark start).answer .unicast (some 0x50) c.date ((s.evj.moveMark start).reply start n))
  | clockSet (l : ClockLineName) (set : ClockSet)
      (dial : ∀ interval shown polarity, set = .run interval shown polarity → dialHas interval shown) : s.Acts wf (s.takeSet l set)
  | restarted (c : Capture) : s.Acts wf (s.warmRestart c)
  | mark : s.Acts wf s.takeMark
  | loss : s.Acts wf s.takeLoss
  | partStart (allotment sent : Nat) (turn : s.liu.turn = .opened allotment sent) (due : s.partStartDue = true) :
      s.Acts wf (s.startPartTelegram allotment sent)
  | partEnd : s.Acts wf s.endPartTelegram
  | trimCarry (due : s.trimCarryDue = true) :
      s.Acts wf ((s.onTbu fun t => t.trimCarried (s.adjusted t.trim t.st)).noteAdjust s.tbu.trim)
  | slewTick (due : s.slewTickDue = true) :
      s.Acts wf ((s.onTbu fun t => t.slewTicked (s.adjusted t.slew t.st)).noteAdjust s.tbu.slew)
  | season : s.Acts wf s.takeSeason
  | holdoverExpiry (due : s.holdoverExpiryDue = true) : s.Acts wf s.takeHoldoverExpiry
  | holdoverLimit : s.Acts wf s.takeHoldoverLimit
  | sweep (due : s.sweepDue = true) : s.Acts wf (s.onClk fun c => { c with sweepTaken := true }).sweepEvent
  | limit (k : Nat) (r : Movement) (opened : s.mvs.at? k = some r) (due : s.limitDue k = true) : s.Acts wf (s.takeLimit k r)
  | abandon (k : Nat) (r : Movement) (opened : s.mvs.at? k = some r) (due : s.abandonDue k = true) :
      s.Acts wf (s.closeMovement k r .abandoned (some .noEnd) s.nowInstant {})
  | boundaryNoted (l : ClockLineName) (due : s.boundaryDue l = true) (flight : (s.line l).flight.isSome = true) :
      s.Acts wf ((s.takeBoundary l).onLine l fun x => { x with noted := true })
  | boundaryPassed (l : ClockLineName) (due : s.boundaryDue l = true) : s.Acts wf (s.takeBoundary l)
  | boundaryEvaluated (l : ClockLineName) (due : s.boundaryDue l = true) (flight : (s.line l).flight = none)
      (serving : (s.line l).inService = true) : s.Acts wf ((s.takeBoundary l).evaluateLine l true)
  | spacing (l : ClockLineName) : s.Acts wf (s.startLine l)
  | sensed (l : ClockLineName) (sense : Sense) : s.Acts wf (s.withSense l sense)
  | completion (l : ClockLineName) (impulse : Impulse) (sense : Sense) (flight : (s.line l).flight = some impulse)
      (due : impulse.endRt ≤ s.tbu.rt) : s.Acts wf ((s.withSense l sense).completeImpulse l impulse sense)
  | probe (l : ClockLineName) (due : s.probeDue l = true) :
      s.Acts wf (s.onLine l fun x => { x.started .probe s.tbu.rt s.orh.params with probe := none })

theorem State.Acts.refuse {wf : Prop} (s : State) (m : Manner) (code : Nat) (date : Date) (reason : RefusalReason) :
    s.Acts wf (s.refuse m code date reason) := .answered m (some code) date (.refusal reason) (by decide : 1 ≤ 1) (by decide : 1 ≤ 4)

/-! ### A telegram's fields (R202, R204) -/

theorem ofBytes_foldl_lt (bs : List Byte) {n k : Nat} (h : n < 256 ^ k) :
    bs.foldl (fun n b => n * 256 + b.toNat) n < 256 ^ (k + bs.length) := by
  induction bs generalizing n k with
  | nil => exact h
  | cons b bs ih =>
    have hb := b.isLt
    have := ih (n := n * 256 + b.toNat) (k := k + 1) (by rw [pow_succ]; omega)
    rwa [List.foldl_cons, List.length_cons, Nat.add_comm bs.length 1, ← Nat.add_assoc]

theorem ofBytes_lt (bs : List Byte) : ofBytes bs < 256 ^ bs.length := by
  have h := ofBytes_foldl_lt bs (n := 0) (k := 0) (by norm_num)
  rwa [Nat.zero_add] at h

theorem field_lt (bs : List Byte) (offset width : Nat) : field bs offset width < 256 ^ width :=
  (ofBytes_lt _).trans_le (Nat.pow_le_pow_right (by norm_num) (by simp))

/-! ### The orders -/

section
variable {wf : Prop} (s : State) (m : Manner) (c : Capture)

theorem State.orderTimeMark_acts (second : Nat) : s.Acts wf (s.orderTimeMark m c second) := by
  unfold State.orderTimeMark
  split
  · exact .labelled second ‹_›
  · exact .refuse ..

theorem State.orderTimeSet_acts (ms offset : Nat) : s.Acts wf (s.orderTimeSet m c ms offset) := by
  unfold State.orderTimeSet
  split
  · exact .timeSet ms offset ‹_›
  · exact .refuse ..

theorem State.orderSeasonChange_acts (offset minute : Nat) : s.Acts wf (s.orderSeasonChange m c offset minute) := by
  unfold State.orderSeasonChange
  split
  · exact .seasonScheduled offset minute ‹_›
  · exact .refuse ..

theorem State.orderConfigWrite_acts (parameter : Nat) (value : Int) : s.Acts wf (s.orderConfigWrite m c parameter value) := by
  unfold State.orderConfigWrite
  split
  · exact .parameter parameter value c.date ‹_›
  · exact .refuse ..

theorem State.orderElementWrite_acts (index address kind limit cls used : Nat) :
    s.Acts wf (s.orderElementWrite m c index address kind limit cls used) := by
  have unarmed : ¬ s.lys.armed.isSome = true → s.lys.armed = none := by simp
  unfold State.orderElementWrite
  split
  · split
    · split
      · split
        · exact .refuse ..
        · exact .elementPut index address kind limit cls _ ‹_› ‹_› (unarmed ‹_›)
      · exact .refuse ..
    · split
      · exact .refuse ..
      · exact .elementRemoved index ‹_› (unarmed ‹_›)
    · exact .refuse ..
  · exact .refuse ..

theorem State.orderPointWrite_acts (index sect edge signal threshold mode used : Nat) :
    s.Acts wf (s.orderPointWrite m c index sect edge signal threshold mode used) := by
  have unarmed : ¬ s.lys.armed.isSome = true → s.lys.armed = none := by simp
  unfold State.orderPointWrite
  split
  · split
    · split
      · split
        · exact .refuse ..
        · exact .pointPut index _ ‹_› (unarmed ‹_›)
      · exact .refuse ..
    · split
      · exact .refuse ..
      · exact .pointRemoved index ‹_› (unarmed ‹_›)
    · exact .refuse ..
  · exact .refuse ..

theorem State.orderTimetableWrite_acts (first count : Nat) (entries : List RawEntry)
    (hcount : 1 ≤ count → count ≤ 4 → entries.length = count) : s.Acts wf (s.orderTimetableWrite m c first count entries) := by
  unfold State.orderTimetableWrite
  split
  · rename_i h
    obtain ⟨hsome, hfew, fits, -⟩ := h
    split
    · exact .refuse ..
    · rename_i unarmed
      exact .entriesWritten first entries (by rwa [hcount hsome hfew]) (by simpa using unarmed)
  · exact .refuse ..

theorem State.orderApply_acts (code : Nat) : s.Acts wf (s.orderApply m c code) := by
  unfold State.orderApply
  split
  · dsimp only
    split
    · exact .refuse ..
    · split
      · exact .applied _ c ‹_› ‹_›
      · exact .armed _ ‹_› ‹_›
  · exact .refuse ..

theorem State.orderOverlayWrite_acts (slot target action : Nat) (train : TrainNumber) (point booked mask : Nat) :
    s.Acts wf (s.orderOverlayWrite m c slot target action train point booked mask) := by
  unfold State.orderOverlayWrite
  split
  · rename_i act read
    split
    · split
      · exact .refuse ..
      · rename_i fits allowed
        exact .slotWritten slot target action train point booked mask act read fits (by simpa using allowed)
    · exact .refuse ..
  · exact .refuse ..

theorem State.orderOverlayClear_acts (slot : Nat) : s.Acts wf (s.orderOverlayClear m c slot) := by
  unfold State.orderOverlayClear
  split
  · exact .slotCleared slot ‹_›
  · exact .refuse ..

theorem State.orderTrainIdent_acts (point : Nat) (train : TrainNumber) : s.Acts wf (s.orderTrainIdent m c point train) := by
  unfold State.orderTrainIdent
  split
  · split
    · exact .trainNamed point _ train c.date ‹_› ‹_›
    · exact .refuse ..
  · exact .refuse ..

theorem State.orderTrainCancel_acts (train : TrainNumber) (point : Nat) : s.Acts wf (s.orderTrainCancel m c train point) := by
  unfold State.orderTrainCancel
  split
  · split
    · exact .trainCancelled train
    · exact .trainCancelledAt point train
  · exact .refuse ..

theorem State.reading_acts {s : State} {m : Manner} {carriedOut : State → State}
    (h : m = .unicast → s.Acts wf (carriedOut s)) : s.Acts wf (s.reading m carriedOut) := by
  unfold State.reading
  split
  · exact .nothing
  · split
    · exact .overrun
    · exact h rfl

theorem State.orderJournalRead_acts (start n : Nat) (fits : wf → start < 4294967296) : s.Acts wf (s.orderJournalRead m c start n) :=
  State.reading_acts fun hm => hm ▸ .journalRead c start n fits

theorem ReplyContent.telegrams_table (table selector index : Nat) (entry : TableEntry) :
    1 ≤ (ReplyContent.table table selector index entry).telegrams ∧ (ReplyContent.table table selector index entry).telegrams ≤ 4 := by
  cases entry <;> simp [ReplyContent.telegrams]

theorem State.orderTableRead_acts (table selector index : Nat) : s.Acts wf (s.orderTableRead m c table selector index) := by
  refine State.reading_acts fun _ => ?_
  split
  · exact .answered _ _ _ _ (ReplyContent.telegrams_table ..).1 (ReplyContent.telegrams_table ..).2
  · exact .refuse ..

theorem State.orderStatusRead_acts : s.Acts wf (s.orderStatusRead m c) :=
  State.reading_acts fun _ => .answered _ _ _ _ (by decide : 1 ≤ 2) (by decide : 2 ≤ 4)

theorem State.orderSetRun_acts (line interval shown polarity : Nat) : s.Acts wf (s.orderSetRun m c line interval shown polarity) := by
  unfold State.orderSetRun
  split
  · split
    · rename_i dial
      split
      · exact .refuse ..
      · refine .clockSet _ _ fun i x p h => ?_
        cases h
        exact dial
    · exact .refuse ..
  · exact .refuse ..

theorem State.orderSetStop_acts (line : Nat) : s.Acts wf (s.orderSetStop m c line) := by
  unfold State.orderSetStop
  split
  · exact .clockSet _ _ fun i x p h => by cases h
  · exact .refuse ..

theorem State.orderRestart_acts : s.Acts wf (s.orderRestart m c) := by
  cases m with
  | broadcast => exact .nothing
  | unicast => exact .restarted c

end

/-! ### An ORDER's payload and a complete telegram -/

theorem State.Acts.sized {wf : Prop} {s taken : State} {m : Manner} {c : Capture} (code : Nat) (ps : List Byte) (length : Nat)
    (h : s.Acts wf taken) : s.Acts wf (s.sized m c code ps length taken) := by
  unfold State.sized
  split
  · exact h
  · exact .refuse ..

theorem State.takeTimetableWrite_acts (wf : Prop) (s : State) (m : Manner) (c : Capture) (ps : List Byte) :
    s.Acts wf (s.takeTimetableWrite m c ps) := by
  unfold State.takeTimetableWrite
  split
  · exact .refuse ..
  · dsimp only
    split
    · refine .sized _ _ _ (State.orderTimetableWrite_acts _ _ _ _ _ _ fun _ _ => ?_)
      simp [rawEntries]
    · rename_i hcount
      exact State.orderTimetableWrite_acts _ _ _ _ _ _ fun hsome hfew => absurd ⟨hsome, hfew⟩ hcount

theorem State.takeClockLineSet_acts (wf : Prop) (s : State) (m : Manner) (c : Capture) (ps : List Byte) :
    s.Acts wf (s.takeClockLineSet m c ps) := by
  unfold State.takeClockLineSet
  split
  · exact State.orderSetStop_acts ..
  · exact State.orderSetRun_acts ..
  · exact .refuse ..

/-- An order by its code (R185): a refusal, or its owner's operation with the fields of its payload. -/
theorem State.takeOrder_acts (wf : Prop) (s : State) (m : Manner) (c : Capture) (code : Nat) (ps : List Byte) :
    s.Acts wf (s.takeOrder m c code ps) := by
  unfold State.takeOrder
  split
  · exact .sized _ _ _ (State.orderTimeMark_acts ..)
  · exact .sized _ _ _ (State.orderTimeSet_acts ..)
  · exact .sized _ _ _ (State.orderSeasonChange_acts ..)
  · exact .sized _ _ _ (State.orderConfigWrite_acts ..)
  · exact .sized _ _ _ (State.orderElementWrite_acts ..)
  · exact .sized _ _ _ (State.orderPointWrite_acts ..)
  · exact s.takeTimetableWrite_acts wf m c ps
  · exact .sized _ _ _ (State.orderApply_acts ..)
  · exact .sized _ _ _ (State.orderOverlayWrite_acts ..)
  · exact .sized _ _ _ (State.orderOverlayClear_acts ..)
  · exact .sized _ _ _ (State.orderTrainIdent_acts ..)
  · exact .sized _ _ _ (State.orderTrainCancel_acts ..)
  · exact .sized _ _ _ (State.orderJournalRead_acts _ _ _ _ _ fun _ => field_lt ps 0 4)
  · exact .sized _ _ _ (State.orderTableRead_acts ..)
  · exact .sized _ _ _ (State.orderStatusRead_acts ..)
  · exact .sized _ _ _ (s.takeClockLineSet_acts wf m c ps)
  · exact .sized _ _ _ (State.orderRestart_acts ..)
  · exact .refuse ..

theorem State.takeOrderPayload_acts (wf : Prop) (s : State) (m : Manner) (c : Capture) (payload : List Byte) :
    s.Acts wf (s.takeOrderPayload m c payload) := by
  cases payload with
  | nil => exact .answered m none c.date (.refusal .length) (by decide : 1 ≤ 1) (by decide : 1 ≤ 4)
  | cons code ps => exact s.takeOrder_acts wf m c code.toNat ps

theorem State.handOn_acts (wf : Prop) (s : State) (p : Port) (address : Nat) (payload : List Byte) (c : Capture) (r : Reading) :
    s.Acts wf (s.handOn p address payload c r) := by
  cases r with
  | notInterpreted => exact .nothing
  | form => exact .lineError p
  | roundOpen number => exact .roundOpen number c
  | roundClose => exact .roundClose
  | command code => exact .command address code c
  | indication code age => exact .indication address code age c
  | lineReset => exact .lineReset c
  | order m => exact s.takeOrderPayload_acts wf m c payload

theorem State.takeTelegram_acts (wf : Prop) (s : State) (p : Port) (kind address : Nat) (payload : List Byte) (check : Nat)
    (c : Capture) : s.Acts wf (s.takeTelegram p kind address payload check c) := by
  unfold State.takeTelegram
  split
  · exact s.handOn_acts wf p address payload c _
  · exact .lineError p

/-! ### A byte, and every command -/

/-- What the line unit does with a port's bytes before an owner acts (R2, R5, R7): nothing, a port released, silence, a byte gone out, a byte that
ends no telegram, or a telegram's last byte taken and the port released. -/
inductive State.Bytes (s : State) : State → Prop where
  | none : s.Bytes s
  | released (p : Port) : s.Bytes (s.release p)
  | silence (p : Port) : s.Bytes (s.takeSilence p)
  | sent : s.Bytes (s.onLiu Liu.byteSent)
  | arrived (p : Port) (b : Byte) (more : (s.rx p).state = .body → 1 < (s.rx p).remaining) : s.Bytes (s.takeByte p b)
  | last (p : Port) (b : Byte) : s.Bytes ((s.relayOn p b).release p)

/-- A byte taken whose receiver is not at the last check byte. -/
theorem State.LineOnly.takeByte (s : State) (p : Port) (b : Byte) (more : (s.rx p).state = .body → 1 < (s.rx p).remaining) :
    s.LineOnly (s.takeByte p b) := by
  unfold State.takeByte
  split
  · split
    · exact .beginTelegram s p b
    · exact ((State.LineOnly.onLiu s _).trans (.lineError _ p)).trans (.onRx ..)
  · split
    · exact .beginTelegram s p b
    · exact .onLiu s _
  · exact .takeHeader s p b
  · rename_i hbody
    simp only [State.takeBody]
    rw [if_neg (by have := more hbody; omega)]
    exact (State.LineOnly.relayOn s p b).trans (.onRx ..)
  · exact .relayOn s p b

theorem State.Bytes.lineOnly {s t : State} (h : s.Bytes t) : s.LineOnly t := by
  cases h with
  | none => exact .refl s
  | released p => exact .release s p
  | silence p => exact .takeSilence s p
  | sent => exact .onLiu s _
  | arrived p b more => exact .takeByte s p b more
  | last p b => exact (State.LineOnly.relayOn s p b).trans (.release _ p)

theorem State.takeByte_acts (wf : Prop) (s : State) (p : Port) (b : Byte) : ∃ u, s.Bytes u ∧ u.Acts wf (s.takeByte p b) := by
  by_cases more : (s.rx p).state = .body → 1 < (s.rx p).remaining
  · exact ⟨_, .arrived p b more, .nothing⟩
  · obtain ⟨hbody, hlast⟩ := Classical.not_imp.mp more
    refine ⟨_, .last p b, ?_⟩
    simp only [State.takeByte, State.takeBody, hbody]
    rw [if_pos (by omega)]
    exact State.takeTelegram_acts ..

/-- Every command but power-on: the line unit's work with the bytes, and then one operation of an owner. -/
theorem exec_acts {wf : Prop} {c : Instr} {s t : State} (hwf : wf → c.wf = true) (hpower : ∀ straps rate, c ≠ .powerOn straps rate)
    (h : exec c s = .next t) : ∃ u, s.Bytes u ∧ u.Acts wf t := by
  have here : ∀ {t' : State}, s.Acts wf t' → t' = t → ∃ u, s.Bytes u ∧ u.Acts wf t := by
    rintro _ hacts rfl
    exact ⟨s, .none, hacts⟩
  have released : ∀ {t' : State} (p : Port), (s.release p).Acts wf t' → t' = t → ∃ u, s.Bytes u ∧ u.Acts wf t := by
    rintro _ p hacts rfl
    exact ⟨s.release p, .released p, hacts⟩
  cases c with
  | byteArrival p b =>
    cases h
    exact s.takeByte_acts _ p b
  | lineSilent p =>
    cases h
    exact ⟨_, .silence p, .nothing⟩
  | telegramNotInterpreted p kind address payload check => exact released p (State.takeTelegram_acts ..) (Host.Outcome.next.inj h)
  | roundOpen number => exact released .i (.roundOpen ..) (Host.Outcome.next.inj h)
  | roundClose => exact released .i .roundClose (Host.Outcome.next.inj h)
  | lineReset => exact released .i (.lineReset ..) (Host.Outcome.next.inj h)
  | command address code => exact released .i (.command ..) (Host.Outcome.next.inj h)
  | indication address code age => exact released .f (.indication ..) (Host.Outcome.next.inj h)
  | timeMark m second => exact released .i (State.orderTimeMark_acts ..) (Host.Outcome.next.inj h)
  | timeSet m ms offset => exact released .i (State.orderTimeSet_acts ..) (Host.Outcome.next.inj h)
  | seasonChange m offset minute => exact released .i (State.orderSeasonChange_acts ..) (Host.Outcome.next.inj h)
  | configWrite m parameter value => exact released .i (State.orderConfigWrite_acts ..) (Host.Outcome.next.inj h)
  | elementWrite m index address kind limit cls used => exact released .i (State.orderElementWrite_acts ..) (Host.Outcome.next.inj h)
  | pointWrite m index sect edge signal threshold mode used => exact released .i (State.orderPointWrite_acts ..) (Host.Outcome.next.inj h)
  | timetableWrite m first count entries =>
    rw [exec_timetableWrite, execTimetableWrite] at h
    split at h
    · exact released .i (.refuse ..) (Host.Outcome.next.inj h)
    · rename_i hcount
      refine released .i (State.orderTimetableWrite_acts _ _ _ _ _ _ fun hsome hfew => ?_) (Host.Outcome.next.inj h)
      by_contra hne
      exact hcount ⟨hsome, hfew, hne⟩
  | apply m scope => exact released .i (State.orderApply_acts ..) (Host.Outcome.next.inj h)
  | overlayWrite m slot target action train point booked mask => exact released .i (State.orderOverlayWrite_acts ..) (Host.Outcome.next.inj h)
  | overlayClear m slot => exact released .i (State.orderOverlayClear_acts ..) (Host.Outcome.next.inj h)
  | trainIdent m point train => exact released .i (State.orderTrainIdent_acts ..) (Host.Outcome.next.inj h)
  | trainCancel m train point => exact released .i (State.orderTrainCancel_acts ..) (Host.Outcome.next.inj h)
  | journalRead m start count =>
    refine released .i (State.orderJournalRead_acts _ _ _ start count fun hw => ?_) (Host.Outcome.next.inj h)
    have fits := hwf hw
    simp only [Instr.wf, fitsBytes, Bool.and_eq_true, decide_eq_true_eq] at fits
    exact fits.1
  | tableRead m table selector index => exact released .i (State.orderTableRead_acts ..) (Host.Outcome.next.inj h)
  | statusRead m => exact released .i (State.orderStatusRead_acts ..) (Host.Outcome.next.inj h)
  | clockLineSetRun m line interval shown polarity => exact released .i (State.orderSetRun_acts ..) (Host.Outcome.next.inj h)
  | clockLineSetStop m line => exact released .i (State.orderSetStop_acts ..) (Host.Outcome.next.inj h)
  | restart m => exact released .i (State.orderRestart_acts ..) (Host.Outcome.next.inj h)
  | orderRefusedForm m payload => exact released .i (State.takeOrderPayload_acts ..) (Host.Outcome.next.inj h)
  | mark => exact here .mark (Host.Outcome.next.inj h)
  | powerOn straps rate => exact absurd rfl (hpower straps rate)
  | relayedByteSent =>
    cases h
    exact ⟨_, .sent, .nothing⟩
  | lossExpiry => exact here .loss (Host.Outcome.next.inj h)
  | partTelegramStart =>
    rw [exec_partTelegramStart, execPartTelegramStart] at h
    split at h
    · rename_i turn
      split at h
      · rename_i due
        exact here (.partStart _ _ turn due) (Host.Outcome.next.inj h)
      · exact here .nothing (Host.Outcome.next.inj h)
    · exact here .nothing (Host.Outcome.next.inj h)
  | partTelegramEnd => exact here .partEnd (Host.Outcome.next.inj h)
  | trimCarry =>
    rw [exec_trimCarry, execTrimCarry] at h
    split at h
    · rename_i due
      exact here (.trimCarry due) (Host.Outcome.next.inj h)
    · exact here .nothing (Host.Outcome.next.inj h)
  | slewTick =>
    rw [exec_slewTick, execSlewTick] at h
    split at h
    · rename_i due
      exact here (.slewTick due) (Host.Outcome.next.inj h)
    · exact here .nothing (Host.Outcome.next.inj h)
  | season => exact here .season (Host.Outcome.next.inj h)
  | holdoverExpiry =>
    rw [exec_holdoverExpiry, execHoldoverExpiry] at h
    split at h
    · rename_i due
      exact here (.holdoverExpiry due) (Host.Outcome.next.inj h)
    · exact here .nothing (Host.Outcome.next.inj h)
  | holdoverLimit => exact here .holdoverLimit (Host.Outcome.next.inj h)
  | sweep =>
    rw [exec_sweep, execSweep] at h
    split at h
    · rename_i due
      exact here (.sweep due) (Host.Outcome.next.inj h)
    · exact here .nothing (Host.Outcome.next.inj h)
  | limitExpiry k =>
    rw [exec_limitExpiry, execLimitExpiry] at h
    split at h
    · rename_i r opened
      split at h
      · rename_i due
        exact here (.limit k r opened due) (Host.Outcome.next.inj h)
      · exact here .nothing (Host.Outcome.next.inj h)
    · exact here .nothing (Host.Outcome.next.inj h)
  | abandonExpiry k =>
    rw [exec_abandonExpiry, execAbandonExpiry] at h
    split at h
    · rename_i r opened
      split at h
      · rename_i due
        exact here (.abandon k r opened due) (Host.Outcome.next.inj h)
      · exact here .nothing (Host.Outcome.next.inj h)
    · exact here .nothing (Host.Outcome.next.inj h)
  | intervalBoundary l =>
    rw [exec_intervalBoundary, execIntervalBoundary] at h
    split at h
    · rename_i due
      dsimp only at h
      split at h
      · rename_i flight
        split at h
        · exact here (.boundaryNoted l due flight) (Host.Outcome.next.inj h)
        · exact here (.boundaryPassed l due) (Host.Outcome.next.inj h)
      · rename_i flight
        split at h
        · rename_i serving
          exact here (.boundaryEvaluated l due (by simpa using flight) serving) (Host.Outcome.next.inj h)
        · exact here (.boundaryPassed l due) (Host.Outcome.next.inj h)
    · exact here .nothing (Host.Outcome.next.inj h)
  | spacingExpiry l => exact here (.spacing l) (Host.Outcome.next.inj h)
  | impulseCompletion l sense =>
    simp only [exec_impulseCompletion, execImpulseCompletion] at h
    split at h
    · rename_i impulse flight
      split at h
      · rename_i due
        exact here (.completion l impulse sense flight due) (Host.Outcome.next.inj h)
      · exact here (.sensed l sense) (Host.Outcome.next.inj h)
    · exact here (.sensed l sense) (Host.Outcome.next.inj h)
  | probeExpiry l =>
    rw [exec_probeExpiry, execProbeExpiry] at h
    split at h
    · rename_i due
      exact here (.probe l due) (Host.Outcome.next.inj h)
    · exact here .nothing (Host.Outcome.next.inj h)

/-- What the line unit's work, an owner's operation and power-on keep, every command keeps. -/
theorem exec_keeps {P : State → Prop} (wf : Prop)
    (hline : ∀ s t : State, s.LineOnly t → P s → P t) (hacts : ∀ s t : State, s.Acts wf t → P s → P t)
    (hpower : ∀ (s : State) (straps : Nat) (rate : LineRate), P s → P (s.powerOn straps rate))
    {c : Instr} {s t : State} (hwf : wf → c.wf = true) (h : exec c s = .next t) (hs : P s) : P t := by
  by_cases hc : ∃ straps rate, c = .powerOn straps rate
  · obtain ⟨straps, rate, rfl⟩ := hc
    cases h
    exact hpower s straps rate hs
  · obtain ⟨u, hu, h⟩ := exec_acts hwf (fun straps rate hc' => hc ⟨straps, rate, hc'⟩) h
    exact hacts u t h (hline s u hu.lineOnly hs)

end Sys2Proof.Machine
end

section
/-! A step as a command, an event that is due, or a microsecond (entries 1, 2); what commands and microseconds keep, every step keeps. -/

namespace Sys2Proof.Machine

theorem step_of_pending {s : State} {c : Instr} {rest : List Instr} (h : s.pending = c :: rest) :
    step s = exec c { s with pending := rest } := by
  simp only [step, h]

theorem step_of_idle {s : State} (h : s.pending = []) : step s = s.idle := by
  simp only [step, h]

@[simp] theorem mem_dueIf {condition : Bool} {c i : Instr} : c ∈ dueIf condition i ↔ condition = true ∧ c = i := by
  unfold dueIf
  cases condition <;> simp

/-- What the free choice names is one of those due (entry 2). -/
theorem State.mem_of_raced {s : State} {l : List Instr} {c : Instr} (h : s.raced l = some c) : c ∈ l := by
  unfold State.raced at h
  split at h
  · cases h
  · cases h
    exact List.mem_singleton_self _
  · exact List.mem_of_getElem? h

/-- Of some that are due, one is taken (entry 2). -/
theorem State.raced_of_ne_nil {s : State} {l : List Instr} (h : l ≠ []) : ∃ c, s.raced l = some c := by
  unfold State.raced
  split
  · exact absurd rfl h
  · exact ⟨_, rfl⟩
  · rename_i i j rest
    exact ⟨_, List.getElem?_eq_getElem (by simpa using Nat.mod_lt _ (Nat.succ_pos (rest.length + 1)))⟩

/-- What the part does on its own is an adjustment that is due, or one of the events that are. -/
theorem State.dueCommand_cases {s : State} {c : Instr} (h : s.dueCommand = some c) :
    s.dueAdjustment = some c ∨ (s.dueAdjustment = none ∧ c ∈ s.dueEvents) := by
  unfold State.dueCommand at h
  split at h
  · rename_i i hi
    exact .inl (hi.trans h)
  · rename_i hnone
    exact .inr ⟨hnone, State.mem_of_raced h⟩

theorem State.dueAdjustment_cases {s : State} {c : Instr} (h : s.dueAdjustment = some c) : c = .trimCarry ∨ c = .slewTick := by
  unfold State.dueAdjustment at h
  split at h
  · exact .inl (Option.some.inj h).symm
  · split at h
    · exact .inr (Option.some.inj h).symm
    · cases h

theorem State.wf_of_mem_dueMovements {s : State} {c : Instr} (h : c ∈ s.dueMovements) : c.wf = true := by
  simp only [State.dueMovements, List.mem_append, List.mem_flatMap, List.mem_range, mem_dueIf] at h
  obtain ⟨k, hk, ⟨-, rfl⟩ | ⟨-, rfl⟩⟩ := h <;> exact decide_eq_true hk

theorem State.wf_of_mem_dueAtLine {s : State} {l : ClockLineName} {c : Instr} (h : c ∈ s.dueAtLine l) : c.wf = true := by
  simp only [State.dueAtLine, List.mem_append, mem_dueIf] at h
  obtain ((⟨-, rfl⟩ | ⟨-, rfl⟩) | ⟨-, rfl⟩) | ⟨-, rfl⟩ := h <;> rfl

theorem State.wf_of_mem_dueEvents {s : State} {c : Instr} (h : c ∈ s.dueEvents) : c.wf = true := by
  simp only [State.dueEvents, List.mem_append, mem_dueIf] at h
  obtain (((((((⟨-, rfl⟩ | ⟨-, rfl⟩) | ⟨-, rfl⟩) | ⟨-, rfl⟩) | ⟨-, rfl⟩) | h) | h) | h) | ⟨-, rfl⟩ := h
  case inl.inl.inl.inr => exact State.wf_of_mem_dueMovements h
  case inl.inl.inr => exact State.wf_of_mem_dueAtLine h
  case inl.inr => exact State.wf_of_mem_dueAtLine h
  all_goals rfl

/-- A command that the part takes on its own is well-formed. -/
theorem State.dueCommand_wf {s : State} {c : Instr} (h : s.dueCommand = some c) : c.wf = true := by
  obtain h | ⟨-, h⟩ := State.dueCommand_cases h
  · obtain rfl | rfl := State.dueAdjustment_cases h <;> rfl
  · exact State.wf_of_mem_dueEvents h

/-- A choice counted leaves every other field. -/
theorem State.countChoice_eq (s : State) : ∃ n, s.countChoice = { s with clk := { s.clk with choices := n } } := by
  unfold State.countChoice
  split
  · exact ⟨_, rfl⟩
  · exact ⟨s.clk.choices, rfl⟩

/-- What every command and a microsecond keep, and what does not speak of the queue or the count of choices, every step keeps. -/
theorem step_keeps {P : State → Prop} (wfOnly : Prop)
    (hqueue : ∀ (s : State) (rest : List Instr) (n : Nat), P s → P { s with pending := rest, clk := { s.clk with choices := n } })
    (htick : ∀ s : State, P s → P s.tick)
    (hexec : ∀ (c : Instr) (s t : State), (wfOnly → c.wf = true) → exec c s = .next t → P s → P t)
    {s t : State} (hwf : wfOnly → ∀ c ∈ s.pending, c.wf = true) (h : step s = .next t) (hs : P s) : P t := by
  cases hp : s.pending with
  | cons c rest =>
    rw [step_of_pending hp] at h
    exact hexec c _ t (fun hw => hwf hw c (by simp [hp])) h (hqueue s rest s.clk.choices hs)
  | nil =>
    rw [step_of_idle hp, State.idle] at h
    split at h
    · rename_i c hc
      obtain ⟨n, hn⟩ := s.countChoice_eq
      rw [hn] at h
      exact hexec c _ t (fun _ => State.dueCommand_wf hc) h (hqueue s s.pending n hs)
    · cases h
      exact htick s hs

end Sys2Proof.Machine
end

section
/-! What the operations that write and report do to the journal and the report queue: records offered and reports raised, and nothing else. -/

namespace Sys2Proof.Machine

/-- A journal and an order handler after records have been offered to the one and reports raised at the other (R151, R195), in some order. -/
inductive Told (e : Evj) (o : Orh) : Evj → Orh → Prop where
  | refl : Told e o e o
  | offer {e' : Evj} {o' : Orh} (body : RecordBody) (date : Date) (flags : Flags) (h : Told e o e' o') :
      Told e o (e'.offer body date flags) o'
  | raise {e' : Evj} {o' : Orh} (r : Report) (hr : r.priority ≤ 3) (h : Told e o e' o') : Told e o e' (o'.raise r)

theorem Told.trans {e e' e'' : Evj} {o o' o'' : Orh} (h : Told e o e' o') (h' : Told e' o' e'' o'') : Told e o e'' o'' := by
  induction h' with
  | refl => exact h
  | offer body date flags _ ih => exact .offer body date flags ih
  | raise r hr _ ih => exact .raise r hr ih

theorem Told.slot {e e' : Evj} {o o' : Orh} (h : Told e o e' o') : o'.slot = o.slot := by
  induction h with
  | refl => rfl
  | offer body date flags _ ih => exact ih
  | raise r hr _ ih => rw [Orh.raise_slot, ih]

theorem Told.params {e e' : Evj} {o o' : Orh} (h : Told e o e' o') : o'.params = o.params := by
  induction h with
  | refl => rfl
  | offer body date flags _ ih => exact ih
  | raise r hr _ ih => rw [Orh.raise_params, ih]

/-- The second state's journal and order handler are the first's after records offered and reports raised. -/
def State.Told (s t : State) : Prop := Machine.Told s.evj s.orh t.evj t.orh

theorem State.Told.refl (s : State) : s.Told s := Machine.Told.refl

theorem State.Told.trans {s t u : State} (h : s.Told t) (h' : t.Told u) : s.Told u := Machine.Told.trans h h'

theorem State.Told.of_eq {s t : State} (he : t.evj = s.evj) (ho : t.orh = s.orh) : s.Told t := by
  unfold State.Told
  rw [he, ho]
  exact Machine.Told.refl

/-- A fold tells what its steps tell. -/
theorem foldl_told {β : Type} {f : State → β → State} (h : ∀ (s : State) (b : β), s.Told (f s b)) (l : List β) (s : State) :
    s.Told (l.foldl f s) := by
  induction l generalizing s with
  | nil => exact .refl s
  | cons b l ih => exact (h s b).trans (ih _)

theorem ReportKind.priority_le (k : ReportKind) : k.priority ≤ 3 := by cases k <;> decide

theorem PassingClass.priority_le (c : PassingClass) : c.priority ≤ 3 := by cases c <;> decide

theorem State.write_told (s : State) (body : RecordBody) (date : Date) (flags : Flags) : s.Told (s.write body date flags) :=
  .offer body date flags .refl

theorem State.raise_told (s : State) (r : Report) (hr : r.priority ≤ 3) : s.Told (s.raise r) := .raise r hr .refl

theorem State.writeReport_told (s : State) (body : RecordBody) (date : Date) (kind : ReportKind) (flags : Flags) :
    s.Told (s.writeReport body date kind flags) :=
  .raise _ kind.priority_le (.offer body date flags .refl)

theorem State.writeIf_told (s : State) (asked : Bool) (body : RecordBody) (date : Date) (flags : Flags) :
    s.Told (s.writeIf asked body date flags) := by
  unfold State.writeIf
  split
  · exact s.write_told ..
  · exact .refl s

/-! ### Movements -/

theorem State.onElement_told (s : State) (i : Nat) (f : ElementState → ElementState) : s.Told (s.onElement i f) :=
  .of_eq (by simp) (by simp)

theorem State.closeMovement_told (s : State) (position : Nat) (r : Movement) (outcome : MovementOutcome)
    (reason : Option AbandonReason) (ending : Instant) (flags : Flags) :
    s.Told (s.closeMovement position r outcome reason ending flags) := by
  simp only [State.closeMovement, State.Told, State.onMvs_evj, State.onMvs_orh, State.onElement_frame]
  split
  · exact s.writeReport_told ..
  · exact s.write_told ..

theorem State.closeAll_told (s : State) (reason : AbandonReason) (ending : Instant) : s.Told (s.closeAll reason ending) := by
  refine foldl_told (fun s position => ?_) _ s
  split
  · exact s.closeMovement_told ..
  · exact .refl s

theorem State.openMovement_told (s : State) (index : Nat) (e : LiveElement) (target : Nat) (arrival : Instant) :
    s.Told (s.openMovement index e target arrival) := by
  unfold State.openMovement
  split
  · exact .refl s
  · exact s.writeReport_told ..
  · split
    · exact .of_eq (by simp) (by simp)
    · exact s.writeReport_told ..

theorem State.commandChange_told (s : State) (index target : Nat) (arrival : Instant) :
    s.Told (s.commandChange index target arrival) := by
  unfold State.commandChange
  split
  · dsimp only
    split
    · exact (s.closeMovement_told ..).trans (State.openMovement_told ..)
    · exact s.openMovement_told ..
  · exact .refl s

theorem State.indicationToMvs_told (s : State) (index code : Nat) (event : EventInstant) :
    s.Told (s.indicationToMvs index code event) := by
  unfold State.indicationToMvs
  split
  · split
    · split
      · exact .refl s
      · exact .of_eq rfl rfl
      · dsimp only
        split
        · exact (s.closeMovement_told ..).trans (State.onElement_told ..)
        · exact s.closeMovement_told ..
    · exact .refl s
  · exact .refl s

theorem State.takeLimit_told (s : State) (position : Nat) (r : Movement) : s.Told (s.takeLimit position r) :=
  State.writeReport_told (s.onMvs _) ..

/-! ### The timetable -/

theorem State.onTtc_told (s : State) (f : Ttc → Ttc) : s.Told (s.onTtc f) := .of_eq rfl rfl

theorem State.matchPassing_told (s : State) (x : PassingItems) (best : Candidate) : s.Told (s.matchPassing x best) := by
  simp only [State.matchPassing]
  split
  · exact ((s.write_told ..).trans (State.onTtc_told ..)).trans (State.raise_told _ _ (PassingClass.priority_le _))
  · exact (s.write_told ..).trans (State.onTtc_told ..)

theorem State.judgePassing_told (s : State) (x : PassingItems) : s.Told (s.judgePassing x) := by
  unfold State.judgePassing
  split
  · exact s.writeReport_told ..
  · split
    · exact s.matchPassing_told ..
    · exact s.writeReport_told ..

theorem State.missEntry_told (s : State) (w : PlaneName) (day : Int) (i : Nat) (slot : Option Nat) (e : TimetableEntry) :
    s.Told (s.missEntry w day i slot e) := State.writeReport_told (s.onTtc _) ..

theorem State.sweepBase_told (s : State) (w : PlaneName) (fuel : Nat) : s.Told (s.sweepBase w fuel) := by
  induction fuel generalizing s with
  | zero => exact .refl s
  | succ fuel ih =>
    unfold State.sweepBase
    split
    · exact .refl s
    · split
      · exact .refl s
      · split
        · dsimp only
          split
          · exact (State.missEntry_told (s.onTtc _) ..).trans (ih _)
          · exact ih (s.onTtc _)
        · exact .refl s

theorem State.scanSlot_told (s : State) (k : Nat) (w : PlaneName) : s.Told (s.scanSlot k w) := by
  unfold State.scanSlot
  split
  · split
    · dsimp only
      split
      · exact s.missEntry_told ..
      · exact .refl s
    · exact .refl s
  · exact .refl s

theorem State.scanSlots_told (s : State) (planes : List PlaneName) : s.Told (s.scanSlots planes) :=
  foldl_told (fun s k => foldl_told (fun s w => s.scanSlot_told k w) planes s) _ s

theorem State.sweepPlanes_told (s : State) : s.Told s.sweepPlanes :=
  ((s.sweepBase_told ..).trans (State.sweepBase_told ..)).trans (State.scanSlots_told ..)

theorem State.rollOverIfDue_told (s : State) : s.Told s.rollOverIfDue := by
  unfold State.rollOverIfDue
  split
  · split
    · exact (State.sweepBase_told (s.onTtc _) ..).trans (State.scanSlots_told ..)
    · exact .refl s
  · exact .refl s

theorem State.sweepEvent_told (s : State) : s.Told s.sweepEvent := by
  unfold State.sweepEvent
  split
  · exact s.sweepPlanes_told.trans (State.rollOverIfDue_told _)
  · exact .refl s

theorem State.remakePlanes_told (s : State) (cause : ResetCause) : s.Told (s.remakePlanes cause) :=
  State.write_told (s.onTtc _) ..

theorem State.announceToTtc_told (s : State) (a : Announcement) : s.Told (s.announceToTtc a) := by
  unfold State.announceToTtc
  split
  · split
    · exact s.remakePlanes_told _
    · exact .refl s
  · split
    · split
      · exact s.remakePlanes_told _
      · exact s.sweepEvent_told
    · split
      · exact s.remakePlanes_told _
      · exact s.sweepEvent_told
    · exact s.sweepEvent_told

theorem State.applyTimetable_told (s : State) : s.Told s.applyTimetable := by
  unfold State.applyTimetable
  dsimp only
  split
  · exact .of_eq rfl rfl
  · exact State.remakePlanes_told (s.onTtc _) .apply

/-! ### Passings and trains -/

theorem State.onPoint_told (s : State) (i : Nat) (f : PointRecord → PointRecord) : s.Told (s.onPoint i f) := .of_eq rfl rfl

theorem State.edgeAtPoint_told (s : State) (x : SectionEdge) (point : Nat) : s.Told (s.edgeAtPoint x point) := by
  unfold State.edgeAtPoint
  split
  · split
    · split
      · exact State.write_told (s.onPoint _ _) ..
      · unfold State.passingAt
        dsimp only
        split
        · exact State.judgePassing_told (s.onPoint point (PointRecord.passed x)) _
        · exact State.writeReport_told (s.onPoint point (PointRecord.passed x)) ..
    · exact .refl s
  · exact .refl s

theorem State.takeEdge_told (s : State) (x : SectionEdge) : s.Told (s.takeEdge x) :=
  foldl_told (fun s point => s.edgeAtPoint_told x point) _ s

theorem State.identTrain_told (s : State) (point : Nat) (p : LivePoint) (train : TrainNumber) (date : Date) :
    s.Told (s.identTrain point p train date) := by
  unfold State.identTrain
  split
  · exact s.raise_told _ (ReportKind.priority_le .duplicateIdent)
  · split
    · exact s.onPoint_told ..
    · split
      · exact (s.writeReport_told ..).trans (State.onPoint_told ..)
      · exact .refl s

/-! ### An APPLY -/

theorem State.carryMovement_told (s : State) (new : List Element) (ending : Instant) (position : Nat) :
    s.Told (s.carryMovement new ending position) := by
  unfold State.carryMovement
  split
  · split
    · exact .of_eq rfl rfl
    · exact s.closeMovement_told ..
  · exact .refl s

theorem State.dropQueue_told (s : State) (oldElements : List Element) (point : Nat) (p : LivePoint) (date : Date) :
    s.Told (s.dropQueue oldElements point p date) :=
  foldl_told (fun s _ => s.writeReport_told ..) _ s

theorem State.dropQueues_told (s : State) (oldElements : List Element) (old : List LivePoint) (taken : List (Option Nat))
    (date : Date) : s.Told (s.dropQueues oldElements old taken date) := by
  refine foldl_told (fun s j => ?_) _ s
  split
  · split
    · exact .refl s
    · exact s.dropQueue_told ..
  · exact .refl s

theorem State.applyLayout_told (s : State) (ending : Instant) : s.Told (s.applyLayout ending) := by
  unfold State.applyLayout
  extract_lets newElements newPoints oldElements oldPoints matched s1 s2 s3
  have h : s.Told s1 := foldl_told (fun s position => s.carryMovement_told newElements ending position) _ s
  clear_value s1
  have h' : s1.Told s3 := .of_eq rfl rfl
  exact (h.trans h').trans (s3.dropQueues_told ..)

theorem State.takeApply_told (s : State) (scope : Scope) (trigger : ApplyTrigger) (ending : Instant) :
    s.Told (s.takeApply scope trigger ending) := by
  unfold State.takeApply
  extract_lets s1 s2 s3
  have h1 : s.Told s1 := s.writeReport_told ..
  have h2 : s1.Told s2 := by
    simp only [s2]
    split
    · exact s1.applyLayout_told ending
    · exact .refl s1
  have h3 : s2.Told s3 := by
    simp only [s3]
    split
    · exact s2.applyTimetable_told
    · exact .refl s2
  exact (h1.trans h2).trans h3

theorem State.takeArmed_told (s : State) (trigger : ApplyTrigger) (ending : Instant) : s.Told (s.takeArmed trigger ending) := by
  unfold State.takeArmed
  split
  · exact s.takeApply_told ..
  · exact .refl s

/-! ### Clock lines -/

theorem State.onLine_told (s : State) (l : ClockLineName) (f : ClockLine → ClockLine) : s.Told (s.onLine l f) :=
  .of_eq (by simp) (by simp)

theorem State.evaluateLine_told (s : State) (l : ClockLineName) (atBoundary : Bool) : s.Told (s.evaluateLine l atBoundary) := by
  simp only [State.evaluateLine]
  refine State.Told.trans ?_ (State.onLine_told ..)
  split
  · exact s.onLine_told ..
  · exact (s.onLine_told ..).trans (State.write_told ..)

theorem State.applySet_told (s : State) (l : ClockLineName) (set : ClockSet) : s.Told (s.applySet l set) := by
  cases set with
  | run => exact ((s.onLine_told ..).trans (State.write_told ..)).trans (State.onLine_told ..)
  | stop => exact (s.onLine_told ..).trans (State.write_told ..)

theorem State.applyPendingSet_told (s : State) (l : ClockLineName) : s.Told (s.applyPendingSet l) := by
  unfold State.applyPendingSet
  split
  · exact (s.onLine_told ..).trans (State.applySet_told ..)
  · exact .refl s

theorem State.takeSet_told (s : State) (l : ClockLineName) (set : ClockSet) : s.Told (s.takeSet l set) := by
  unfold State.takeSet
  split
  · exact s.onLine_told ..
  · exact s.applySet_told ..

theorem State.normalOk_told (s : State) (l : ClockLineName) : s.Told (s.normalOk l) := by
  simp only [State.normalOk]
  split
  · exact (s.onLine_told ..).trans (State.applyPendingSet_told ..)
  · exact (s.onLine_told ..).trans (State.evaluateLine_told ..)

theorem State.normalFailed_told (s : State) (l : ClockLineName) (sense : Sense) : s.Told (s.normalFailed l sense) :=
  ((s.onLine_told ..).trans (State.writeReport_told ..)).trans (State.applyPendingSet_told ..)

theorem State.probeOk_told (s : State) (l : ClockLineName) : s.Told (s.probeOk l) := by
  simp only [State.probeOk]
  split
  · exact ((s.onLine_told ..).trans (State.writeReport_told ..)).trans (State.applyPendingSet_told ..)
  · exact ((s.onLine_told ..).trans (State.writeReport_told ..)).trans (State.onLine_told ..)

theorem State.probeFailed_told (s : State) (l : ClockLineName) : s.Told (s.probeFailed l) :=
  (s.onLine_told ..).trans (State.applyPendingSet_told ..)

theorem State.completeImpulse_told (s : State) (l : ClockLineName) (impulse : Impulse) (sense : Sense) :
    s.Told (s.completeImpulse l impulse sense) := by
  have h : s.Told (s.onLine l fun x => { x with flight := none, lastSense := some sense }) := s.onLine_told ..
  simp only [State.completeImpulse]
  refine h.trans ?_
  split
  · exact State.normalOk_told ..
  · exact State.normalFailed_told ..
  · exact State.normalFailed_told ..
  · exact State.probeOk_told ..
  · exact State.probeFailed_told ..
  · exact State.probeFailed_told ..

theorem State.announceToLine_told (s : State) (l : ClockLineName) : s.Told (s.announceToLine l) := by
  unfold State.announceToLine
  split
  · exact s.evaluateLine_told ..
  · exact .refl s

theorem State.announceToLines_told (s : State) : s.Told s.announceToLines := by
  unfold State.announceToLines
  split
  · dsimp only
    split
    · exact (State.announceToLine_told (s.onClk _) _).trans (State.announceToLine_told ..)
    · exact (State.announceToLine_told (s.onClk _) _).trans (State.announceToLine_told ..)
  · exact (s.announceToLine_told .a).trans (State.announceToLine_told ..)

/-! ### The time base -/

theorem State.announce_told (s : State) (a : Announcement) : s.Told (s.announce a) :=
  (s.announceToTtc_told a).trans (State.announceToLines_told _)

theorem State.applySeasonIfReached_told (s : State) : s.Told s.applySeasonIfReached := by
  unfold State.applySeasonIfReached
  split
  · split
    · exact State.writeReport_told (s.onTbu _) ..
    · exact .refl s
  · exact .refl s

theorem State.takeSeason_told (s : State) : s.Told s.takeSeason := by
  unfold State.takeSeason
  split
  · exact s.applySeasonIfReached_told.trans (State.announce_told ..)
  · exact .refl s

theorem State.stepMark_told (s : State) (n : Nat) (e : Int) (labelled : Bool) : s.Told (s.stepMark n e labelled) :=
  ((State.writeReport_told (s.onTbu _) ..).trans (State.applySeasonIfReached_told _)).trans (State.announce_told ..)

theorem State.slewMark_told (s : State) (e : Int) : s.Told (s.slewMark e) := by
  simp only [State.slewMark]
  split
  · exact .of_eq rfl rfl
  · exact State.write_told (s.onTbu _) ..

theorem State.rejectMark_told (s : State) (n : Nat) (e : Int) (labelled : Bool) : s.Told (s.rejectMark n e labelled) :=
  State.write_told (s.onTbu _) ..

theorem State.actOnMark_told (s : State) (n : Nat) (labelled : Bool) : s.Told (s.actOnMark n labelled) := by
  have step := fun e => s.stepMark_told n e labelled
  have reject := fun e => s.rejectMark_told n e labelled
  simp only [State.actOnMark]
  split
  · exact step _
  · split
    · exact step _
    · exact s.slewMark_told _
  · split
    · exact step _
    · exact s.slewMark_told _
  · split
    · exact reject _
    · exact s.slewMark_told _
  · split
    · exact step _
    · exact s.slewMark_told _

theorem State.takeMark_told (s : State) : s.Told s.takeMark := by
  simp only [State.takeMark]
  split
  · exact State.actOnMark_told (s.onTbu _) ..
  · split
    · exact .of_eq rfl rfl
    · exact .of_eq rfl rfl
    · exact State.actOnMark_told (s.onTbu _) ..
    · exact State.actOnMark_told (s.onTbu _) ..
    · exact State.actOnMark_told (s.onTbu _) ..

theorem State.takeHoldoverLimit_told (s : State) : s.Told s.takeHoldoverLimit := by
  unfold State.takeHoldoverLimit
  split
  · exact State.writeReport_told (s.onTbu _) ..
  · exact .refl s

theorem State.setTime_told (s : State) (ms offset : Nat) : s.Told (s.setTime ms offset) :=
  (State.writeReport_told (s.onTbu _) ..).trans (State.announce_told ..)

/-! ### The layout store -/

theorem State.unknownAddress_told (s : State) (address : Nat) (command : Bool) (code : Nat) (date : Date) (flags : Flags) :
    s.Told (s.unknownAddress address command code date flags) := by
  unfold State.unknownAddress
  split
  · exact .refl s
  · exact State.writeReport_told (s.onLys _) ..

theorem State.validCommand_told (s : State) (index : Nat) (e : LiveElement) (code : Nat) (arrival : Instant) :
    s.Told (s.validCommand index e code arrival) := by
  unfold State.validCommand
  split
  · exact .of_eq rfl rfl
  · dsimp only
    split
    · exact (State.writeIf_told (s.onElement _ _) ..).trans (State.commandChange_told ..)
    · exact State.writeIf_told (s.onElement _ _) ..

theorem State.badCommand_told (s : State) (index : Nat) (e : LiveElement) (code : Nat) (arrival : Instant) :
    s.Told (s.badCommand index e code arrival) := State.writeIf_told (s.onElement _ _) ..

theorem State.takeCommand_told (s : State) (address code : Nat) (c : Capture) : s.Told (s.takeCommand address code c) := by
  unfold State.takeCommand
  split
  · split
    · split
      · exact s.validCommand_told ..
      · exact s.badCommand_told ..
    · exact .refl s
  · exact s.unknownAddress_told ..

theorem State.indicationRecord_told (s : State) (index : Nat) (e : LiveElement) (code : Nat) (event : EventInstant) :
    s.Told (s.indicationRecord index e code event) := by
  unfold State.indicationRecord
  split
  · exact s.writeIf_told ..
  · exact s.writeIf_told ..

theorem State.validIndication_told (s : State) (index : Nat) (e : LiveElement) (code : Nat) (event : EventInstant) :
    s.Told (s.validIndication index e code event) := by
  unfold State.validIndication
  extract_lets s1 s2
  have h1 : s.Told s1 := State.indicationRecord_told (s.onElement _ _) ..
  have h2 : s1.Told s2 := by
    simp only [s2]
    split
    · exact s1.indicationToMvs_told ..
    · exact .refl s1
  split
  · exact (h1.trans h2).trans (s2.takeEdge_told _)
  · exact h1.trans h2

theorem State.badIndication_told (s : State) (index : Nat) (e : LiveElement) (code : Nat) (event : EventInstant) :
    s.Told (s.badIndication index e code event) := by
  simp only [State.badIndication]
  split
  · exact State.writeIf_told (s.onElement _ _) ..
  · exact State.writeIf_told (s.onElement _ _) ..

theorem State.takeIndication_told (s : State) (address code : Nat) (age : Option Nat) (c : Capture) :
    s.Told (s.takeIndication address code age c) := by
  simp only [State.takeIndication]
  split
  · split
    · split
      · exact s.validIndication_told ..
      · exact s.badIndication_told ..
    · exact .refl s
  · exact s.unknownAddress_told ..

theorem State.onElements_told (s : State) (f : ElementState → ElementState) : s.Told (s.onElements f) := .of_eq rfl rfl

theorem State.lineKnowledgeLost_told (s : State) (ending : Instant) : s.Told (s.lineKnowledgeLost ending) :=
  (s.onElements_told _).trans (State.closeAll_told ..)

/-! ### The line unit -/

theorem State.judgeRound_told (s : State) (number : Nat) (c : Capture) : s.Told (s.judgeRound number c) := by
  unfold State.judgeRound
  split
  · exact .refl s
  · unfold State.compareRound
    split
    · exact s.write_told ..
    · exact .refl s
  · exact (s.writeReport_told ..).trans (State.onElements_told ..)

theorem State.takeRoundOpen_told (s : State) (number : Nat) (c : Capture) : s.Told (s.takeRoundOpen number c) :=
  (State.takeArmed_told (s.onLiu _) ..).trans (State.judgeRound_told (State.endTurn _) ..)

theorem State.takeLineReset_told (s : State) (c : Capture) : s.Told (s.takeLineReset c) :=
  (State.write_told (State.endTurn (s.onLiu _)) ..).trans (State.lineKnowledgeLost_told ..)

theorem State.loseLine_told (s : State) : s.Told s.loseLine := by
  unfold State.loseLine
  extract_lets s1 s2
  have h1 : s.Told s1 := .of_eq rfl rfl
  have h2 : s1.Told s2 := s1.writeReport_told ..
  exact ((h1.trans h2).trans (s2.lineKnowledgeLost_told _)).trans (State.takeArmed_told ..)

theorem State.takeLoss_told (s : State) : s.Told s.takeLoss := by
  unfold State.takeLoss
  split
  · exact s.loseLine_told
  · exact .refl s

theorem State.takeUp_told (s : State) (parameter : Nat) : s.Told (s.takeUp parameter) := by
  unfold State.takeUp
  split
  · exact s.takeHoldoverLimit_told
  · split
    · exact State.takeLoss_told (s.onLiu _)
    · exact .refl s

theorem State.restartField_told (s : State) (ending : Instant) : s.Told (s.restartField ending) := by
  unfold State.restartField
  extract_lets s1 s2
  have h1 : s.Told (s1.onLys fun l => { l with unknown := [] }) := .of_eq rfl rfl
  have h2 : (s1.onLys fun l => { l with unknown := [] }).Told s2 := State.closeAll_told ..
  clear_value s2
  exact (h1.trans h2).trans (.of_eq rfl rfl)

/-! ### Every operation of an owner -/

/-- The operations of the order handler on itself, but for the orders that it hands on. -/
inductive State.OrderActs (wf : Prop) (s : State) : State → Prop where
  | answered (m : Manner) (code : Option Nat) (date : Date) (content : ReplyContent) (some_telegram : 1 ≤ content.telegrams)
      (few_telegrams : content.telegrams ≤ 4) : s.OrderActs wf (s.answer m code date content)
  | overrun : s.OrderActs wf (s.onOrh Orh.overrun)
  | journalRead (c : Capture) (start n : Nat) (fits : wf → start < 4294967296) :
      s.OrderActs wf ((s.onEvj fun e => e.moveMark start).answer .unicast (some 0x50) c.date ((s.evj.moveMark start).reply start n))
  | parameter (parameter : Nat) (value : Int) (date : Date) (fits : 1 ≤ parameter ∧ parameter ≤ 25) :
      s.OrderActs wf (s.setParameter parameter value date)
  | restarted (c : Capture) : s.OrderActs wf (s.warmRestart c)
  | partStart (allotment sent : Nat) (turn : s.liu.turn = .opened allotment sent) (due : s.partStartDue = true) :
      s.OrderActs wf (s.startPartTelegram allotment sent)
  | partEnd : s.OrderActs wf s.endPartTelegram

/-- Every operation of an owner offers records and raises reports, or is the order handler's. -/
theorem State.Acts.told_or {wf : Prop} {s t : State} (h : s.Acts wf t) : s.Told t ∨ s.OrderActs wf t := by
  cases h with
  | answered m code date content h h' => exact .inr (.answered m code date content h h')
  | overrun => exact .inr .overrun
  | journalRead c start n fits => exact .inr (.journalRead c start n fits)
  | parameter parameter value date fits => exact .inr (.parameter parameter value date fits)
  | restarted c => exact .inr (.restarted c)
  | partStart allotment sent turn due => exact .inr (.partStart allotment sent turn due)
  | partEnd => exact .inr .partEnd
  | roundOpen => exact .inl (s.takeRoundOpen_told ..)
  | lineReset => exact .inl (s.takeLineReset_told ..)
  | command => exact .inl (s.takeCommand_told ..)
  | indication => exact .inl (s.takeIndication_told ..)
  | timeSet => exact .inl (s.setTime_told ..)
  | seasonScheduled => exact .inl (State.takeSeason_told (s.onTbu _))
  | applied => exact .inl (s.takeApply_told ..)
  | trainNamed => exact .inl (s.identTrain_told ..)
  | clockSet => exact .inl (s.takeSet_told ..)
  | mark => exact .inl s.takeMark_told
  | loss => exact .inl s.takeLoss_told
  | season => exact .inl s.takeSeason_told
  | holdoverExpiry => exact .inl (State.write_told (s.onTbu _) ..)
  | holdoverLimit => exact .inl s.takeHoldoverLimit_told
  | sweep => exact .inl (State.sweepEvent_told (s.onClk _))
  | limit => exact .inl (s.takeLimit_told ..)
  | abandon => exact .inl (s.closeMovement_told ..)
  | boundaryEvaluated l =>
    exact .inl ((State.Told.of_eq (by simp) (by simp)).trans (State.evaluateLine_told (s.takeBoundary l) ..))
  | completion l impulse sense =>
    exact .inl ((State.Told.of_eq (by simp) (by simp)).trans (State.completeImpulse_told (s.withSense l sense) ..))
  | _ => exact .inl (.of_eq (by simp) (by simp))

end Sys2Proof.Machine
end

section
/-! The journal's numbers: the number a count back from the newest, what is stored, and what every step keeps of it (R148 to R150, R156, R157). -/

namespace Sys2Proof.Machine

/-! ### Numbers a count back (R149, R150) -/

theorem predSeq_succSeq {n : Nat} (hn : 1 ≤ n) : predSeq (succSeq n) = n := by
  unfold predSeq succSeq
  split <;> split <;> omega

theorem succSeq_range {n : Nat} (hmax : n ≤ maxSeq) : 1 ≤ succSeq n ∧ succSeq n ≤ maxSeq := by
  have : maxSeq = 4294967295 := rfl
  unfold succSeq
  split <;> omega

theorem predSeq_range {n : Nat} (hmax : n ≤ maxSeq) : 1 ≤ predSeq n ∧ predSeq n ≤ maxSeq := by
  have : maxSeq = 4294967295 := rfl
  unfold predSeq
  split <;> omega

/-- Fewer steps back than the number leave it above 0. -/
theorem predSeq_iterate_of_lt {n k : Nat} (h : k < n) : predSeq^[k] n = n - k := by
  induction k with
  | zero => rfl
  | succ k ih =>
    rw [Function.iterate_succ_apply', ih (by omega), predSeq, if_neg (by omega)]
    omega

/-- As many steps back as the number, or more, go on from the largest number. -/
theorem predSeq_iterate_of_ge {n k : Nat} (hn : 1 ≤ n) (h : n ≤ k) (hk : k < n + maxSeq) : predSeq^[k] n = n + maxSeq - k := by
  have hwrap : predSeq^[n] n = maxSeq := by
    obtain ⟨m, rfl⟩ : ∃ m, n = m + 1 := ⟨n - 1, by omega⟩
    rw [Function.iterate_succ_apply', predSeq_iterate_of_lt (Nat.lt_succ_self m), predSeq, if_pos (by omega)]
  have hsplit : k = (k - n) + n := by omega
  rw [hsplit, Function.iterate_add_apply, hwrap, predSeq_iterate_of_lt (by omega)]
  omega

/-- The distance from one number to another is the count of steps back (R150). -/
theorem predSeq_iterate_seqDistance {x n : Nat} (hx : 1 ≤ x) (hxmax : x ≤ maxSeq) (hn : 1 ≤ n) :
    predSeq^[seqDistance x n] n = x := by
  unfold seqDistance
  split
  · rw [predSeq_iterate_of_lt (by omega)]
    omega
  · rw [predSeq_iterate_of_ge hn (by omega) (by omega)]
    omega

/-! ### Consecutive records (R148) -/

theorem numberedFrom_seq {n i : Nat} {l : List Record} {r : Record} (h : numberedFrom n l) (hr : l[i]? = some r) :
    r.seq = predSeq^[i] n := by
  induction i generalizing n l with
  | zero =>
    cases l with
    | nil => simp at hr
    | cons x l =>
      obtain rfl : x = r := by simpa using hr
      exact h.1
  | succ i ih =>
    cases l with
    | nil => simp at hr
    | cons x l => exact ih h.2 (by simpa using hr)

theorem numberedFrom_take {n : Nat} {l : List Record} (h : numberedFrom n l) (k : Nat) : numberedFrom n (l.take k) := by
  induction l generalizing n k with
  | nil => simpa using h
  | cons x l ih =>
    obtain ⟨hx, hl⟩ := h
    cases k with
    | zero => exact trivial
    | succ k => exact ⟨hx, ih hl k⟩

theorem Evj.Sound.newest_range {e : Evj} (h : e.Sound) : 1 ≤ e.newest ∧ e.newest ≤ maxSeq := predSeq_range h.nextMax

/-- A number less than the stored count back from the newest is stored, at its distance (R150). -/
theorem Evj.Sound.stored_at {e : Evj} (h : e.Sound) {x : Nat} (hx : 1 ≤ x) (hxmax : x ≤ maxSeq) (hd : seqDistance x e.newest < e.stored) :
    ∃ r, e.ring[seqDistance x e.newest]? = some r ∧ r.seq = x := by
  have hr := List.getElem?_eq_getElem hd
  refine ⟨_, hr, ?_⟩
  rw [numberedFrom_seq h.consecutive hr, predSeq_iterate_seqDistance hx hxmax h.newest_range.1]

theorem Evj.Sound.newest_mem {e : Evj} (h : e.Sound) : ∃ r ∈ e.ring, r.seq = e.newest := by
  have hr := List.getElem?_eq_getElem (l := e.ring) (i := 0) h.storedPos
  exact ⟨_, List.mem_of_getElem? hr, numberedFrom_seq h.consecutive hr⟩

/-! ### What is written -/

theorem Evj.Sound.store {e : Evj} (h : e.Sound) (body : RecordBody) (date : Date) (flags : Flags) : (e.store body date flags).Sound where
  storedPos := by simp [Evj.stored, Evj.store_ring]
  storedMax := by simp [Evj.stored, Evj.store_ring]
  nextPos := (succSeq_range h.nextMax).1
  nextMax := (succSeq_range h.nextMax).2
  consecutive := by
    have hnewest : (e.store body date flags).newest = e.next := predSeq_succSeq h.nextPos
    rw [Evj.store_ring, hnewest]
    exact ⟨rfl, numberedFrom_take h.consecutive 16383⟩
  readMark := by
    obtain hroom | hfull := Nat.lt_or_ge e.stored ringSize
    · rw [Evj.store_of_room hroom]
      obtain h0 | ⟨r, hr, hseq⟩ := h.readMark
      · exact .inl h0
      · exact .inr ⟨r, List.mem_cons_of_mem _ hr, hseq⟩
    · have hne : e.ring ≠ [] := List.ne_nil_of_length_pos h.storedPos
      have hring : e.ring = e.ring.dropLast ++ [e.ring.getLast hne] := (List.dropLast_append_getLast hne).symm
      have hlength : e.ring.dropLast.length + 1 = ringSize := by
        have hmax := h.storedMax
        have hpos := h.storedPos
        simp only [Evj.stored, ringSize, List.length_dropLast] at *
        omega
      rw [Evj.store_of_full hring hlength]
      dsimp only
      split
      · exact .inl rfl
      · rename_i hlast
        obtain h0 | ⟨r, hr, hseq⟩ := h.readMark
        · exact .inl h0
        · rw [hring, List.mem_append, List.mem_singleton] at hr
          obtain hr | rfl := hr
          · exact .inr ⟨r, List.mem_cons_of_mem _ hr, hseq⟩
          · exact absurd hseq.symm hlast
  minorRefusals := h.minorRefusals

theorem Evj.Sound.offer {e : Evj} (h : e.Sound) (body : RecordBody) (date : Date) (flags : Flags) : (e.offer body date flags).Sound := by
  obtain ⟨-, -, heq⟩ | ⟨-, heq⟩ := e.offer_cases body date flags <;> rw [heq]
  · exact { h with minorRefusals := Nat.min_le_right .. }
  · exact h.store ..

theorem Told.evj_sound {e e' : Evj} {o o' : Orh} (h : Told e o e' o') (he : e.Sound) : e'.Sound := by
  induction h with
  | refl => exact he
  | offer body date flags _ ih => exact ih.offer body date flags
  | raise r hr _ ih => exact ih

/-! ### The read mark moved (R157) -/

/-- A stored number other than the oldest has its predecessor stored. -/
theorem Evj.Sound.predSeq_mem {e : Evj} (h : e.Sound) {x : Nat} (hx : 1 ≤ x) (hxmax : x ≤ maxSeq)
    (hd : seqDistance x e.newest < e.stored) (holdest : x ≠ e.oldest) : ∃ r ∈ e.ring, r.seq = predSeq x := by
  obtain ⟨r, hr, hseq⟩ := h.stored_at hx hxmax hd
  have hnext : seqDistance x e.newest + 1 < e.ring.length := by
    by_contra hlast
    have hlast : seqDistance x e.newest = e.ring.length - 1 := by
      unfold Evj.stored at hd
      omega
    rw [hlast, ← List.getLast?_eq_getElem?] at hr
    exact holdest (by simp [Evj.oldest, hr, hseq])
  have hr' := List.getElem?_eq_getElem hnext
  refine ⟨_, List.mem_of_getElem? hr', ?_⟩
  rw [numberedFrom_seq h.consecutive hr', Function.iterate_succ_apply',
    predSeq_iterate_seqDistance hx hxmax h.newest_range.1]

/-- The candidate for the read mark is 0 or a stored number. -/
theorem Evj.Sound.candidate {e : Evj} (h : e.Sound) {start : Nat} (hmax : start ≤ maxSeq) :
    e.candidate start = 0 ∨ ∃ r ∈ e.ring, r.seq = e.candidate start := by
  unfold Evj.candidate
  split
  · exact .inl rfl
  · rename_i hstart
    split
    · rename_i hjudged
      split
      · exact .inl rfl
      · rename_i holdest
        refine .inr (h.predSeq_mem (by omega) hmax ?_ holdest)
        unfold Evj.judge at hjudged
        split at hjudged
        · assumption
        · split at hjudged <;> cases hjudged
    · exact .inl rfl
    · exact .inr h.newest_mem

theorem Evj.Sound.moveMark {e : Evj} (h : e.Sound) {start : Nat} (hmax : start ≤ maxSeq) : (e.moveMark start).Sound where
  storedPos := h.storedPos
  storedMax := h.storedMax
  nextPos := h.nextPos
  nextMax := h.nextMax
  consecutive := h.consecutive
  readMark := by
    have hcandidate := h.candidate hmax
    have hmark := h.readMark
    simp only [Evj.moveMark, Evj.laterMark]
    (repeat' split) <;> assumption
  minorRefusals := h.minorRefusals

/-! ### Every step -/

theorem State.OrderActs.evj_sound {s t : State} (h : s.OrderActs True t) (hs : s.evj.Sound) : t.evj.Sound := by
  cases h with
  | journalRead c start n fits =>
    simpa using hs.moveMark (Nat.lt_succ_iff.mp (fits trivial))
  | parameter parameter value date =>
    refine (State.takeUp_told _ parameter).evj_sound ?_
    rw [State.write_evj]
    exact hs.offer ..
  | restarted c =>
    have h := (State.restartField_told (s.write s.restartRecord c.date) c.instant).evj_sound (by rw [State.write_evj]; exact hs.offer ..)
    simpa [State.warmRestart] using h
  | _ => simpa using hs

theorem State.powerOn_evj_sound (s : State) (straps : Nat) (rate : LineRate) : (s.powerOn straps rate).evj.Sound :=
  ⟨(by decide : 1 ≤ 1), (by decide : 1 ≤ 16384), (by decide : 1 ≤ 2), (by decide : 2 ≤ 4294967295), ⟨rfl, trivial⟩, .inl rfl, Nat.zero_le _⟩

/-- Settles O56: what an owner does to the journal is to offer records or to move the read mark, and both keep it sound. -/
theorem journalStaysSound : Obligations.JournalStaysSound := by
  intro s t hs hwf hstep
  refine step_keeps (P := fun s => s.evj.Sound) True (fun _ _ _ h => h) (fun s h => by simpa using h) ?_ (fun _ => hwf) hstep hs
  intro c s t hwf hexec hs
  refine exec_keeps (P := fun s => s.evj.Sound) True (fun s t h hs => ?_) (fun s t h hs => ?_) (fun s straps rate hs => ?_) hwf hexec hs
  · rw [h]
    exact hs
  · obtain h | h := h.told_or
    · exact h.evj_sound hs
    · exact h.evj_sound hs
  · exact s.powerOn_evj_sound straps rate

end Sys2Proof.Machine
end

section
/-! The order handler and the time base, sound after every step (R20 to R41, R188 to R197). -/

namespace Sys2Proof.Machine

/-! ### The configuration (R190, R191) -/

theorem paramTable_bounds : ∀ n < 26, ((paramTable[n - 1]?).map (·.lo)).getD 0 ≤ Params.upperBound n := by decide

/-- The lower bound of a T2, the stored T1 of its set, lies below its upper bound. -/
theorem paramTable_t2 : ∀ n < 26, isT2 n = true →
    ((paramTable[n - 1]?).map (·.lo)).getD 0 = 0 ∧ 1 ≤ n - 1 ∧ Params.upperBound (n - 1) ≤ Params.upperBound n := by decide

theorem Params.Sound.lowerBound {c : Params} (h : c.Sound) {n : Nat} (hn : n ≤ 25) :
    ((paramTable[n - 1]?).map (·.lo)).getD 0 ≤ c.lowerBound n ∧ c.lowerBound n ≤ Params.upperBound n := by
  unfold Params.lowerBound
  split
  · rename_i ht2
    obtain ⟨hlo, hpos, hup⟩ := paramTable_t2 n (by omega) ht2
    exact ⟨by omega, (h.2 (n - 1) hpos (by omega)).2.trans hup⟩
  · exact ⟨le_rfl, paramTable_bounds n (by omega)⟩

/-- A value clamped lies in the parameter's range (R190). -/
theorem Params.Sound.clamp {c : Params} (h : c.Sound) {n : Nat} (hn : n ≤ 25) (value : Int) :
    ((paramTable[n - 1]?).map (·.lo)).getD 0 ≤ c.clamp n value ∧ c.clamp n value ≤ Params.upperBound n := by
  obtain ⟨hlo, hup⟩ := h.lowerBound hn
  have hclamp : c.lowerBound n ≤ c.clamp n value ∧ c.clamp n value ≤ Params.upperBound n := by
    unfold Params.clamp
    omega
  exact ⟨hlo.trans hclamp.1, hclamp.2⟩

theorem Params.value_store {c : Params} (h : c.length = 25) {n m : Nat} (hn : 1 ≤ n ∧ n ≤ 25) (hm : 1 ≤ m) (taken : Nat) :
    (c.store n taken).value m = if m = n then taken else c.value m := by
  have hlt : n - 1 < List.length c := by omega
  simp only [Params.value, Params.store, List.getD_eq_getElem?_getD, List.getElem?_set]
  split
  · rw [if_pos (by omega)]
    simp
  · rw [if_neg (by omega)]

theorem Params.Sound.store {c : Params} (h : c.Sound) {n : Nat} (hn : 1 ≤ n ∧ n ≤ 25) (value : Int) : (c.store n (c.clamp n value)).Sound := by
  refine ⟨by simpa [Params.store] using h.1, fun m hm hm' => ?_⟩
  rw [Params.value_store h.1 hn hm]
  split
  · rename_i heq
    exact heq ▸ h.clamp hn.2 value
  · exact h.2 m hm hm'

/-! ### The report queue (R196, R197) -/

theorem enqueue_nil (r : Report) : enqueue [] r = [r] := rfl

theorem enqueue_cons (x : Report) (q : List Report) (r : Report) :
    enqueue (x :: q) r = if x.priority ≤ r.priority then x :: enqueue q r else r :: x :: q := by
  unfold enqueue
  by_cases h : x.priority ≤ r.priority <;> simp [h]

theorem mem_enqueue {q : List Report} {r x : Report} : x ∈ enqueue q r ↔ x = r ∨ x ∈ q := by
  induction q with
  | nil => simp [enqueue_nil]
  | cons y q ih =>
    rw [enqueue_cons]
    split
    · simp only [List.mem_cons, ih]
      tauto
    · simp only [List.mem_cons]

theorem enqueue_pairwise {q : List Report} (h : q.Pairwise fun x y => x.priority ≤ y.priority) (r : Report) :
    (enqueue q r).Pairwise fun x y => x.priority ≤ y.priority := by
  induction q with
  | nil => simp [enqueue_nil]
  | cons x q ih =>
    obtain ⟨hx, hq⟩ := List.pairwise_cons.mp h
    rw [enqueue_cons]
    split
    · rename_i hle
      refine List.pairwise_cons.mpr ⟨fun y hy => ?_, ih hq⟩
      obtain rfl | hy := mem_enqueue.mp hy
      · exact hle
      · exact hx y hy
    · rename_i hlt
      refine List.pairwise_cons.mpr ⟨fun y hy => ?_, h⟩
      obtain rfl | hy := List.mem_cons.mp hy
      · omega
      · exact (by omega : r.priority ≤ x.priority).trans (hx y hy)

theorem countUp_le (n : Nat) : countUp n ≤ 65535 := by
  unfold countUp
  omega

theorem Orh.Sound.raise {o : Orh} (h : o.Sound) {r : Report} (hr : r.priority ≤ 3) : (o.raise r).Sound := by
  have hin : ∀ {q : List Report}, (∀ x ∈ q, x.priority ≤ 3) → ∀ x ∈ enqueue q r, x.priority ≤ 3 := by
    intro q hq x hx
    obtain rfl | hx := mem_enqueue.mp hx
    · exact hr
    · exact hq x hx
  obtain ⟨hlength, heq⟩ | ⟨last, hlength, -, -, heq⟩ | ⟨-, -, heq⟩ := o.raise_cases r <;> rw [heq]
  · exact { h with
      reports := by simpa [enqueue_length, queueSize] using Nat.succ_le_of_lt hlength
      order := enqueue_pairwise h.order r
      priority := hin h.priority }
  · exact { h with
      reports := by
        have := h.reports
        simp only [enqueue_length, List.length_dropLast]
        omega
      order := enqueue_pairwise (h.order.sublist (List.dropLast_sublist _)) r
      priority := hin fun x hx => h.priority x (List.dropLast_subset _ hx)
      discarded := countUp_le _ }
  · exact { h with discarded := countUp_le _ }

theorem Told.orh_sound {e e' : Evj} {o o' : Orh} (h : Told e o e' o') (ho : o.Sound) : o'.Sound := by
  induction h with
  | refl => exact ho
  | offer _ _ _ _ ih => exact ih
  | raise r hr _ ih => exact ih.raise hr

/-! ### The reply slot (R188, R189) -/

theorem Orh.Sound.answer {s : State} (h : s.orh.Sound) (m : Manner) (code : Option Nat) (date : Date) {content : ReplyContent}
    (hsome : 1 ≤ content.telegrams) (hfew : content.telegrams ≤ 4) : (s.answer m code date content).orh.Sound := by
  obtain ⟨-, heq⟩ | ⟨-, -, heq⟩ | ⟨r, -, hr, heq⟩ := s.answer_cases m code date content <;> rw [heq]
  · exact h
  · refine { h with reply := fun r hr => ?_ }
    cases hr
    exact ⟨hsome, hfew⟩
  · refine { h with reply := fun r' hr' => ?_ }
    cases hr'
    exact h.reply r hr

theorem Orh.Sound.overrun {o : Orh} (h : o.Sound) : o.overrun.Sound := by
  refine { h with reply := fun r hr => ?_ }
  simp only [Orh.overrun, Option.map_eq_some_iff] at hr
  obtain ⟨r', hr', rfl⟩ := hr
  exact h.reply r' hr'

theorem Orh.Sound.telegramSent {o : Orh} (h : o.Sound) : o.telegramSent.Sound := by
  unfold Orh.telegramSent
  split
  · rename_i r hr
    split
    · exact { h with reply := fun _ hr' => by cases hr' }
    · rename_i hleft
      refine { h with reply := fun r' hr' => ?_ }
      cases hr'
      exact ⟨by simpa using hleft, (h.reply r hr).2⟩
  · exact h

theorem Evj.recordsFrom_length (e : Evj) (first n : Nat) : (e.recordsFrom first n).length ≤ n := by
  simp [Evj.recordsFrom]

/-- A journal reply has at most three records (R158). -/
theorem Evj.delivered_length (e : Evj) (start n : Nat) : (e.delivered start n).length ≤ 3 := by
  unfold Evj.delivered
  split
  · refine (e.recordsFrom_length ..).trans ?_
    unfold takenCount
    omega
  · exact Nat.zero_le _

/-! ### The order handler after every step -/

theorem Orh.Sound.restartOrders {s : State} (h : s.orh.Sound) : s.restartOrders.orh.Sound where
  reports := Nat.zero_le _
  order := .nil
  priority := by simp [State.restartOrders]
  discarded := h.discarded
  reply := fun _ hr => by cases hr
  params := h.params

theorem Params.defaults_sound : Params.defaults.Sound := by
  refine ⟨by decide, fun n h h' => ?_⟩
  interval_cases n <;> decide

theorem State.OrderActs.orh_sound {wf : Prop} {s t : State} (h : s.OrderActs wf t) (hs : s.orh.Sound) : t.orh.Sound := by
  cases h with
  | answered m code date content hsome hfew => exact hs.answer m code date hsome hfew
  | overrun => exact hs.overrun
  | journalRead c start n fits =>
    refine Orh.Sound.answer hs .unicast _ _ (Nat.succ_le_succ (Nat.zero_le _)) ?_
    exact Nat.succ_le_succ (Evj.delivered_length ..)
  | parameter parameter value date fits =>
    refine (State.takeUp_told _ parameter).orh_sound ?_
    exact { hs with params := hs.params.store fits value }
  | restarted c =>
    have h := (State.restartField_told (s.write s.restartRecord c.date) c.instant).orh_sound hs
    exact h.restartOrders
  | partStart allotment sent turn due =>
    unfold State.startPartTelegram
    split
    · exact hs
    · split
      · split
        · rename_i r rest hreports
          have hlength := hs.reports
          have horder := hs.order
          have hpriority := hs.priority
          rw [hreports] at hlength horder hpriority
          exact { hs with
            reports := (Nat.le_succ _).trans hlength
            order := (List.pairwise_cons.mp horder).2
            priority := fun x hx => hpriority x (List.mem_cons_of_mem _ hx) }
        · exact hs
      · exact hs
  | partEnd =>
    have hclose : ∀ u : State, u.orh.Sound → u.closeSpentTurn.orh.Sound := fun u hu => by simpa using hu
    unfold State.endPartTelegram
    split
    · refine hclose _ ?_
      dsimp only [State.onLiu]
      split
      · exact hs.telegramSent
      · exact hs
    · exact hs
    · exact hs

theorem State.powerOn_orh_sound (s : State) (straps : Nat) (rate : LineRate) : (s.powerOn straps rate).orh.Sound :=
  ⟨Nat.zero_le _, .nil, by simp [State.powerOn, State.atPowerOn], Nat.zero_le _, fun _ hr => (by cases hr), Params.defaults_sound⟩

theorem exec_keeps_orh_sound {c : Instr} {s t : State} (h : exec c s = .next t) (hs : s.orh.Sound) : t.orh.Sound := by
  refine exec_keeps (P := fun s => s.orh.Sound) False (fun s t h hs => ?_) (fun s t h hs => ?_) (fun s straps rate hs => ?_) False.elim h hs
  · rw [h]
    exact hs
  · obtain h | h := h.told_or
    · exact h.orh_sound hs
    · exact h.orh_sound hs
  · exact s.powerOn_orh_sound straps rate

theorem step_keeps_orh_sound {s t : State} (h : step s = .next t) (hs : s.orh.Sound) : t.orh.Sound :=
  step_keeps (P := fun s => s.orh.Sound) False (fun _ _ _ h => h) (fun s h => by simpa using h)
    (fun _ _ _ _ h hs => exec_keeps_orh_sound h hs) False.elim h hs

end Sys2Proof.Machine
end

section
/-! The time base, sound after every step while the configuration is (R20 to R41). -/

namespace Sys2Proof.Machine

theorem Params.Sound.stepLimit {c : Params} (h : c.Sound) : c.stepLimit ≤ 2000000 :=
  (h.2 1 (by decide) (by decide)).2

/-! ### The advance (R20 to R23) -/

theorem stUp_le {st : Nat} (h : st ≤ maxSt) : stUp st ≤ maxSt := by
  unfold stUp
  split <;> omega

theorem State.adjusted_le (s : State) (direction : Int) {st : Nat} (h : st ≤ maxSt) : s.adjusted direction st ≤ maxSt := by
  unfold State.adjusted
  split
  · exact stUp_le h
  · split
    · exact h
    · exact (Nat.sub_le st 1).trans h

theorem Tbu.Sound.tick {t : Tbu} (h : t.Sound) : t.tick.Sound := { h with st := stUp_le h.st }

theorem Tbu.Sound.withSt {t : Tbu} (h : t.Sound) {st accumulator : Nat} (hst : st ≤ maxSt) :
    ({ t with accumulator := accumulator, st := st } : Tbu).Sound := { h with st := hst }

/-- The pending correction one nearer to zero (R23) stays within its bound. -/
theorem natAbs_sub_sign_le {x : Int} {bound : Nat} (h : x.natAbs ≤ bound) : (x - x.sign).natAbs ≤ bound := by
  obtain hx | rfl | hx := lt_trichotomy x 0
  · rw [Int.sign_eq_neg_one_of_neg hx]
    omega
  · simp
  · rw [Int.sign_eq_one_of_pos hx]
    omega

theorem Tbu.Sound.slewTicked {t : Tbu} (h : t.Sound) {st : Nat} (hst : st ≤ maxSt) : (t.slewTicked st).Sound :=
  { h with st := hst, slew := natAbs_sub_sign_le h.slew }

/-! ### Seasonal changes (R25) -/

theorem State.applySeasonIfReached_tbu_sound {s : State} (h : s.tbu.Sound) : s.applySeasonIfReached.tbu.Sound := by
  unfold State.applySeasonIfReached
  split
  · rename_i offset minute hscheduled
    split
    · obtain ⟨hoffset, -⟩ := h.scheduled _ hscheduled
      have hseason : ({ s.tbu with season := offset, scheduled := none } : Tbu).Sound :=
        { h with season := hoffset, scheduled := fun _ hx => by cases hx }
      simpa [State.applySeason] using hseason
    · exact h
  · exact h

theorem State.takeSeason_tbu_sound {s : State} (h : s.tbu.Sound) : s.takeSeason.tbu.Sound := by
  unfold State.takeSeason
  split
  · simpa using State.applySeasonIfReached_tbu_sound h
  · exact h

/-! ### The second mark (R28 to R35) -/

theorem stepTo_le (n : Nat) : stepTo n ≤ maxSt := by
  unfold stepTo
  split
  · simp only [usPerSecond, maxSt]
    omega
  · exact le_rfl

theorem Tbu.Sound.stepped {t : Tbu} (h : t.Sound) (n : Nat) : (t.stepped n).Sound :=
  { h with
    st := stepTo_le n
    slew := Nat.zero_le _
    prevSlew := Nat.zero_le _
    good := Nat.zero_le _
    goodAcquire := fun _ => Nat.zero_le _
    outliers := Nat.zero_le _
    expiry := by simp [Tbu.stepped]
    entry := by simp [Tbu.stepped] }

theorem State.stepMark_tbu_sound {s : State} (h : s.tbu.Sound) (n : Nat) (e : Int) (labelled : Bool) :
    (s.stepMark n e labelled).tbu.Sound := by
  have hclock : (s.stepClock n e labelled).tbu.Sound := State.applySeasonIfReached_tbu_sound (by simpa using h.stepped n)
  simpa [State.stepMark] using hclock

theorem learnedTrim_le (trim e : Int) : (learnedTrim trim e).natAbs ≤ 5000 := by
  unfold learnedTrim
  omega

theorem Tbu.Sound.learn {t : Tbu} (h : t.Sound) (e : Int) : (t.learn e).Sound := by
  unfold Tbu.learn
  split
  · exact { h with trim := learnedTrim_le .. }
  · exact h

@[simp] theorem Tbu.learn_timeState (t : Tbu) (e : Int) : (t.learn e).timeState = t.timeState := by
  unfold Tbu.learn
  split <;> rfl

/-- The states that a SLEW can leave (R34). -/
theorem Tbu.slewCounts_timeState {t : Tbu} (e : Int) (hset : t.timeState ≠ .unset) :
    (t.slewCounts e).timeState = .acquire ∨ (t.slewCounts e).timeState = .locked := by
  unfold Tbu.slewCounts
  dsimp only
  cases hstate : t.timeState with
  | unset => exact absurd hstate hset
  | free => exact .inl rfl
  | holdover => exact .inl rfl
  | acquire =>
    dsimp only
    split
    · split
      · exact .inr rfl
      · exact .inl rfl
    · exact .inl rfl
  | locked =>
    dsimp only
    split
    · exact .inr rfl
    · split
      · exact .inl rfl
      · exact .inr rfl

/-- The bounds of the counts after a SLEW (R34). -/
theorem Tbu.Sound.slewCounts {t : Tbu} (h : t.Sound) (e : Int) (hset : t.timeState ≠ .unset) :
    (t.slewCounts e).good ≤ 8 ∧ ((t.slewCounts e).timeState = .acquire → (t.slewCounts e).good ≤ 7) ∧ (t.slewCounts e).outliers ≤ 3 := by
  have hgood := h.good
  have hacquire := h.goodAcquire
  have houtliers := h.outliers
  cases hstate : t.timeState with
  | unset => exact absurd hstate hset
  | free =>
    simp only [Tbu.slewCounts, hstate]
    split <;> simp [houtliers]
  | holdover =>
    simp only [Tbu.slewCounts, hstate]
    split <;> simp [houtliers]
  | acquire =>
    have hgood := hacquire hstate
    simp only [Tbu.slewCounts, hstate]
    split
    · split
      · simp
        omega
      · simp
        omega
    · simp [houtliers]
  | locked =>
    simp only [Tbu.slewCounts, hstate]
    split
    · simp [hgood]
    · split
      · simp
      · simp [hgood]
        omega

/-- What a SLEW's counts leave as it was. -/
theorem Tbu.slewCounts_frame (t : Tbu) (e : Int) :
    (t.slewCounts e).st = t.st ∧ (t.slewCounts e).trim = t.trim ∧ (t.slewCounts e).season = t.season ∧
      (t.slewCounts e).scheduled = t.scheduled ∧ (t.slewCounts e).stepLimit = t.stepLimit ∧ (t.slewCounts e).label = t.label := by
  unfold Tbu.slewCounts
  dsimp only
  split <;> (repeat' split) <;> simp

theorem Tbu.Sound.slewed {t : Tbu} (h : t.Sound) {e : Int} (hset : t.timeState ≠ .unset) (he : e.natAbs ≤ 2000000) : (t.slewed e).Sound := by
  have hlearn := h.learn e
  have hset' : (t.learn e).timeState ≠ .unset := by simpa using hset
  obtain ⟨hgood, hacquire, houtliers⟩ := hlearn.slewCounts e hset'
  have hstate := Tbu.slewCounts_timeState e hset'
  obtain ⟨hst, htrim, hseason, hscheduled, hlimit, hlabel⟩ := (t.learn e).slewCounts_frame e
  exact {
    st := hst ▸ hlearn.st
    trim := htrim ▸ hlearn.trim
    slew := by simpa [Tbu.slewed] using he
    prevSlew := by simpa [Tbu.slewed] using he
    season := hseason ▸ hlearn.season
    scheduled := hscheduled ▸ hlearn.scheduled
    good := hgood
    goodAcquire := hacquire
    outliers := houtliers
    latched := hlimit ▸ hlearn.latched
    label := hlabel ▸ hlearn.label
    expiry := by simpa [Tbu.slewed] using hstate
    entry := by
      obtain hstate | hstate := hstate <;> simp [Tbu.slewed, hstate] }

theorem State.slewMark_tbu (s : State) (e : Int) : (s.slewMark e).tbu = s.tbu.slewed e := by
  unfold State.slewMark
  dsimp only
  split <;> simp

/-- A mark against a second is a STEP, a REJECT, or a SLEW with a phase error within the latched limit, outside UNSET (R30). -/
theorem State.actOnMark_cases (s : State) (n : Nat) (labelled : Bool) : ∃ e : Int,
    s.actOnMark n labelled = s.stepMark n e labelled ∨ s.actOnMark n labelled = s.rejectMark n e labelled ∨
      (s.actOnMark n labelled = s.slewMark e ∧ s.tbu.timeState ≠ .unset ∧ e.natAbs ≤ s.tbu.stepLimit) := by
  refine ⟨(s.tbu.st : Int) - (n * usPerSecond : Nat), ?_⟩
  unfold State.actOnMark
  dsimp only
  cases hstate : s.tbu.timeState with
  | unset => exact .inl rfl
  | locked =>
    dsimp only
    split
    · exact .inr (.inl rfl)
    · rename_i hwithin
      exact .inr (.inr ⟨rfl, by simp, by simpa using hwithin⟩)
  | _ =>
    dsimp only
    split
    · exact .inl rfl
    · rename_i hwithin
      exact .inr (.inr ⟨rfl, by simp, by simpa using hwithin⟩)

theorem State.actOnMark_tbu_sound {s : State} (h : s.tbu.Sound) (n : Nat) (labelled : Bool) : (s.actOnMark n labelled).tbu.Sound := by
  obtain ⟨e, heq | heq | ⟨heq, hset, hwithin⟩⟩ := s.actOnMark_cases n labelled <;> rw [heq]
  · exact State.stepMark_tbu_sound h n e labelled
  · exact { h with }
  · rw [State.slewMark_tbu]
    exact h.slewed hset (hwithin.trans h.latched)

theorem State.takeMark_tbu_sound {s : State} (h : s.tbu.Sound) (hc : s.orh.params.Sound) : s.takeMark.tbu.Sound := by
  have hlatched : (s.onTbu fun t =>
      { t with stepLimit := s.orh.params.stepLimit, lockWindow := s.orh.params.lockWindow, label := none }).tbu.Sound :=
    { h with latched := hc.stepLimit, label := fun _ hx => by cases hx }
  unfold State.takeMark
  dsimp only
  split
  · exact State.actOnMark_tbu_sound hlatched ..
  · split
    · exact { hlatched with }
    · exact { hlatched with }
    · exact State.actOnMark_tbu_sound hlatched ..
    · exact State.actOnMark_tbu_sound hlatched ..
    · exact State.actOnMark_tbu_sound hlatched ..

/-! ### Holdover and TIME SET (R36, R37, R40) -/

theorem Tbu.Sound.heldOver {t : Tbu} (h : t.Sound) : t.heldOver.Sound :=
  { h with
    goodAcquire := fun hx => by cases hx
    expiry := by simp [Tbu.heldOver]
    entry := by simp [Tbu.heldOver] }

theorem State.takeHoldoverLimit_tbu_sound {s : State} (h : s.tbu.Sound) : s.takeHoldoverLimit.tbu.Sound := by
  unfold State.takeHoldoverLimit
  split
  · rename_i hdue
    have hstate : s.tbu.timeState = .holdover := by
      simp only [State.holdoverLimitDue, Bool.and_eq_true, decide_eq_true_eq] at hdue
      exact hdue.1
    have hexpiry : s.tbu.holdoverExpiry.isSome = false := by
      simpa [hstate] using h.expiry
    exact { h with
      goodAcquire := fun hx => by cases hx
      expiry := by
        show s.tbu.holdoverExpiry.isSome ↔ _
        simp [hexpiry]
      entry := by simp }
  · exact h

theorem Tbu.Sound.set {t : Tbu} (h : t.Sound) {st season : Nat} (hst : st ≤ maxSt) (hseason : season ≤ 120) : (t.set st season).Sound :=
  { h with
    st := hst
    slew := Nat.zero_le _
    prevSlew := Nat.zero_le _
    season := hseason
    scheduled := fun x hx => by
      simp only [Tbu.set] at hx
      split at hx
      · cases hx
      · exact h.scheduled x hx
    good := Nat.zero_le _
    goodAcquire := fun _ => Nat.zero_le _
    outliers := Nat.zero_le _
    expiry := by simp [Tbu.set]
    entry := by simp [Tbu.set] }

/-! ### Every step -/

theorem State.Acts.tbu_sound {wf : Prop} {s t : State} (h : s.Acts wf t) (hc : s.orh.Sound) (hs : s.tbu.Sound) : t.tbu.Sound := by
  cases h with
  | labelled second fits =>
    refine { hs with label := fun x hx => ?_ }
    cases hx
    exact fits
  | timeSet ms offset fits =>
    have hst : ms * usPerMs ≤ maxSt := by
      obtain ⟨hms, -⟩ := fits
      simp only [usPerMs, maxSt]
      omega
    simpa [State.setTime] using hs.set hst fits.2
  | seasonScheduled offset minute fits =>
    refine State.takeSeason_tbu_sound { hs with scheduled := fun x hx => ?_ }
    cases hx
    exact fits
  | mark => exact State.takeMark_tbu_sound hs hc.params
  | season => exact State.takeSeason_tbu_sound hs
  | trimCarry => exact hs.withSt (s.adjusted_le _ hs.st)
  | slewTick => exact hs.slewTicked (s.adjusted_le _ hs.st)
  | holdoverExpiry => exact hs.heldOver
  | holdoverLimit => exact State.takeHoldoverLimit_tbu_sound hs
  | parameter parameter value date fits =>
    unfold State.setParameter State.takeUp
    dsimp only
    split
    · exact State.takeHoldoverLimit_tbu_sound hs
    · split
      · simpa using hs
      · exact hs
  | _ => simpa using hs

theorem State.powerOn_tbu_sound (s : State) (straps : Nat) (rate : LineRate) : (s.powerOn straps rate).tbu.Sound where
  st := Nat.zero_le _
  trim := Nat.zero_le _
  slew := Nat.zero_le _
  prevSlew := Nat.zero_le _
  season := Nat.zero_le _
  scheduled _ hx := by cases hx
  good := Nat.zero_le _
  goodAcquire hx := by cases hx
  outliers := Nat.zero_le _
  latched := (by decide : 100000 ≤ 2000000)
  label _ hx := by cases hx
  expiry := by simp [State.powerOn, State.atPowerOn]
  entry := by simp [State.powerOn, State.atPowerOn]

theorem step_keeps_tbu_sound {s t : State} (h : step s = .next t) (hc : s.orh.Sound) (hs : s.tbu.Sound) : t.tbu.Sound := by
  refine (step_keeps (P := fun s => s.orh.Sound ∧ s.tbu.Sound) False (fun _ _ _ h => h) (fun s h => ⟨by simpa using h.1, h.2.tick⟩)
    (fun c s t _ hexec hs => ⟨exec_keeps_orh_sound hexec hs.1, ?_⟩) False.elim h ⟨hc, hs⟩).2
  obtain ⟨hc, hs⟩ := hs
  refine (exec_keeps (P := fun s => s.orh.Sound ∧ s.tbu.Sound) False (fun s t h hs => ?_) (fun s t h hs => ⟨?_, h.tbu_sound hs.1 hs.2⟩)
    (fun s straps rate _ => ⟨s.powerOn_orh_sound straps rate, s.powerOn_tbu_sound straps rate⟩) False.elim hexec ⟨hc, hs⟩).2
  · rw [h]
    exact hs
  · obtain h | h := h.told_or
    · exact h.orh_sound hs.1
    · exact h.orh_sound hs.1

/-- Settles O57: reports, replies and writes of a parameter keep the order handler within its sizes, and each operation of the time base its
bounds. -/
theorem timeAndOrdersStaySound : Obligations.TimeAndOrdersStaySound :=
  ⟨fun _ _ hs h => step_keeps_orh_sound h hs, fun _ _ hc hs h => step_keeps_tbu_sound h hc hs⟩

end Sys2Proof.Machine
end

section
/-! The expectation queues, sound after every step (R106 to R114). -/

namespace Sys2Proof.Machine

/-! ### A point's record -/

theorem PointRecord.sound_fresh : ({} : PointRecord).Sound where
  size := Nat.zero_le _
  nodup := List.nodup_nil
  valid := by simp
  bounces := Nat.zero_le _

theorem PointRecord.Sound.bounced {r : PointRecord} (h : r.Sound) : ({ r with bounces := min (r.bounces + 1) 255 } : PointRecord).Sound :=
  { h with bounces := Nat.min_le_right .. }

theorem PointRecord.Sound.passed {r : PointRecord} (h : r.Sound) (x : SectionEdge) : (PointRecord.passed x r).Sound where
  size := by
    have := h.size
    simp only [PointRecord.passed, List.length_tail]
    omega
  nodup := h.nodup.sublist (List.tail_sublist _)
  valid := fun t ht => h.valid t (List.mem_of_mem_tail ht)
  bounces := Nat.zero_le _

theorem PointRecord.Sound.without {r : PointRecord} (h : r.Sound) (train : TrainNumber) : (r.without train).Sound where
  size := (List.length_filter_le _ _).trans h.size
  nodup := h.nodup.filter _
  valid := fun t ht => h.valid t (List.mem_of_mem_filter ht)
  bounces := h.bounces

/-- A number that the queue does not hold joins its tail, where it has room (R107). -/
theorem PointRecord.Sound.append {r : PointRecord} (h : r.Sound) {train : TrainNumber} (hroom : r.queue.length < 4)
    (hnew : train ∉ r.queue) (hvalid : trainOk train = true) : ({ r with queue := r.queue ++ [train] } : PointRecord).Sound where
  size := by simpa using hroom
  nodup := by
    refine List.nodup_append.mpr ⟨h.nodup, List.nodup_singleton _, fun a ha b hb => ?_⟩
    obtain rfl := List.mem_singleton.mp hb
    rintro rfl
    exact hnew ha
  valid := fun t ht => by
    obtain ht | ht := List.mem_append.mp ht
    · exact h.valid t ht
    · exact List.mem_singleton.mp ht ▸ hvalid
  bounces := h.bounces

/-- A number that a full queue does not hold takes the place of its head (R109). -/
theorem PointRecord.Sound.replaceHead {r : PointRecord} (h : r.Sound) {train : TrainNumber} (hnew : train ∉ r.queue)
    (hvalid : trainOk train = true) (hsome : r.queue ≠ []) : ({ r with queue := r.queue.tail ++ [train] } : PointRecord).Sound := by
  have htail : ({ r with queue := r.queue.tail } : PointRecord).Sound :=
    { size := by have := h.size; simp; omega
      nodup := h.nodup.sublist (List.tail_sublist _)
      valid := fun t ht => h.valid t (List.mem_of_mem_tail ht)
      bounces := h.bounces }
  refine htail.append ?_ (fun hmem => hnew (List.mem_of_mem_tail hmem)) hvalid
  have hsize := h.size
  have hpos := List.length_pos_iff.mpr hsome
  simp
  omega

/-! ### The points -/

theorem Psd.Sound.onPoint {s : State} (h : s.psd.Sound) {point : Nat} {f : PointRecord → PointRecord}
    (hf : ∀ p, s.psd.points[point]? = some p → (f p.record).Sound) : (s.onPoint point f).psd.Sound := by
  intro p hp
  obtain ⟨i, hi⟩ := List.mem_iff_getElem?.mp hp
  simp only [State.onPoint, State.onPsd_psd, List.getElem?_modify] at hi
  cases hold : s.psd.points[i]? with
  | none => simp [hold] at hi
  | some q =>
    simp only [hold, Option.map_eq_map, Option.map_some, Option.some.injEq] at hi
    subst hi
    split
    · rename_i heq
      subst heq
      exact hf q hold
    · exact h q (List.mem_of_getElem? hold)

theorem Psd.Sound.map {d : Psd} (h : d.Sound) {f : PointRecord → PointRecord} (hf : ∀ r, r.Sound → (f r).Sound) :
    ({ d with points := d.points.map fun p => { p with record := f p.record } } : Psd).Sound := by
  intro p hp
  obtain ⟨q, hq, rfl⟩ := List.mem_map.mp hp
  exact hf _ (h q hq)

theorem State.edgeAtPoint_psd_sound {s : State} (h : s.psd.Sound) (x : SectionEdge) (point : Nat) : (s.edgeAtPoint x point).psd.Sound := by
  unfold State.edgeAtPoint
  split
  · rename_i p hp
    have hpassed : (s.onPoint point (PointRecord.passed x)).psd.Sound :=
      h.onPoint fun p hp => (h p (List.mem_of_getElem? hp)).passed x
    split
    · split
      · have hbounced : (s.onPoint point fun r => { r with bounces := min (r.bounces + 1) 255 }).psd.Sound :=
          h.onPoint fun p hp => (h p (List.mem_of_getElem? hp)).bounced
        simpa [State.bounceAt] using hbounced
      · unfold State.passingAt
        dsimp only
        split <;> simpa using hpassed
    · exact h
  · exact h

theorem State.takeEdge_psd_sound {s : State} (h : s.psd.Sound) (x : SectionEdge) : (s.takeEdge x).psd.Sound := by
  unfold State.takeEdge
  generalize List.range s.psd.points.length = points
  induction points generalizing s with
  | nil => exact h
  | cons point points ih => exact ih (State.edgeAtPoint_psd_sound h x point)

theorem State.takeIndication_psd_sound {s : State} (h : s.psd.Sound) (address code : Nat) (age : Option Nat) (c : Capture) :
    (s.takeIndication address code age c).psd.Sound := by
  unfold State.takeIndication
  dsimp only
  split
  · split
    · split
      · unfold State.validIndication
        dsimp only
        split
        · refine State.takeEdge_psd_sound ?_ _
          split <;> simpa using h
        · split <;> simpa using h
      · simpa using h
    · exact h
  · simpa using h

/-- The queue holds no number that a search of it does not find. -/
theorem notMem_of_findIdx?_eq_none {q : List TrainNumber} {train : TrainNumber} (h : q.findIdx? (· == train) = none) : train ∉ q := by
  intro hmem
  have := List.findIdx?_eq_none_iff.mp h train hmem
  simp at this

theorem State.identTrain_psd_sound {s : State} (h : s.psd.Sound) {point : Nat} {p : LivePoint} {train : TrainNumber} (date : Date)
    (hused : s.psd.points[point]? = some p) (hvalid : trainOk train = true) : (s.identTrain point p train date).psd.Sound := by
  have hp := h p (List.mem_of_getElem? hused)
  unfold State.identTrain
  split
  · exact h
  · rename_i hnew
    have hnew := notMem_of_findIdx?_eq_none hnew
    split
    · rename_i hroom
      refine h.onPoint fun q hq => ?_
      obtain rfl : p = q := Option.some.inj (hused.symm.trans hq)
      exact hp.append hroom hnew hvalid
    · split
      · rename_i oldest rest hqueue
        refine Psd.Sound.onPoint (s := s.dropExpectation ..) (by simpa using h) fun q hq => ?_
        obtain rfl : p = q := Option.some.inj (hused.symm.trans (by simpa using hq))
        exact hp.replaceHead hnew hvalid (by simp [hqueue])
      · exact h

/-! ### An APPLY -/

theorem carryPoints_sound {d : Psd} (h : d.Sound) (new : List TimingPoint) (matched : List (Option Nat)) :
    ({ d with points := carryPoints d.points new matched } : Psd).Sound := by
  intro p hp
  obtain ⟨⟨entry, m⟩, -, rfl⟩ := List.mem_map.mp hp
  cases hold : m.bind fun j => d.points[j]? with
  | none => simpa [hold] using PointRecord.sound_fresh
  | some q =>
    obtain ⟨j, -, hj⟩ := Option.bind_eq_some_iff.mp hold
    simpa [hold] using h q (List.mem_of_getElem? hj)

/-- The timing points after a LAYOUT apply (R77, R105). -/
theorem State.applyLayout_psd (s : State) (ending : Instant) :
    (s.applyLayout ending).psd = { s.psd with
      points := carryPoints s.psd.points s.lys.stagingPoints.values
        (matchPoints (s.lys.elements.map (·.entry)) s.lys.stagingElements.values s.psd.points [] s.lys.stagingPoints.values) } := by
  unfold State.applyLayout
  dsimp only
  simp [foldl_keeps]

theorem State.takeApply_psd_sound {s : State} (h : s.psd.Sound) (scope : Scope) (trigger : ApplyTrigger) (ending : Instant) :
    (s.takeApply scope trigger ending).psd.Sound := by
  unfold State.takeApply
  dsimp only
  rw [State.onLys_psd]
  have hlayout : ∀ u : State, u.psd.Sound → (u.applyLayout ending).psd.Sound := fun u hu => by
    rw [State.applyLayout_psd]
    exact carryPoints_sound hu _ _
  have hthen : (if scope.hasLayout = true then (s.writeReport (s.applyRecord scope trigger) ending.date .applyDone).applyLayout ending
      else s.writeReport (s.applyRecord scope trigger) ending.date .applyDone).psd.Sound := by
    split
    · exact hlayout _ (by simpa using h)
    · simpa using h
  split
  · simpa using hthen
  · exact hthen

theorem State.takeArmed_psd_sound {s : State} (h : s.psd.Sound) (trigger : ApplyTrigger) (ending : Instant) :
    (s.takeArmed trigger ending).psd.Sound := by
  unfold State.takeArmed
  split
  · exact State.takeApply_psd_sound h _ _ _
  · exact h

theorem State.takeLoss_psd_sound {s : State} (h : s.psd.Sound) : s.takeLoss.psd.Sound := by
  unfold State.takeLoss
  split
  · unfold State.loseLine
    dsimp only
    refine State.takeArmed_psd_sound ?_ _ _
    simpa using h
  · exact h

/-! ### Every step -/

theorem State.Acts.psd_sound {wf : Prop} {s t : State} (h : s.Acts wf t) (hs : s.psd.Sound) : t.psd.Sound := by
  cases h with
  | roundOpen number c =>
    unfold State.takeRoundOpen
    simpa using State.takeArmed_psd_sound (s := s.onLiu _) hs _ _
  | indication address code age c => exact State.takeIndication_psd_sound hs address code age c
  | applied scope c => exact State.takeApply_psd_sound hs scope _ _
  | trainNamed point p train date used valid => exact State.identTrain_psd_sound hs date used valid
  | trainCancelled train => exact hs.map fun r hr => hr.without train
  | trainCancelledAt point train => exact hs.onPoint fun p hp => (hs p (List.mem_of_getElem? hp)).without train
  | restarted c =>
    have hfresh := hs.map (f := fun _ => {}) fun _ _ => PointRecord.sound_fresh
    simpa [State.warmRestart, State.restartField] using hfresh
  | loss => exact State.takeLoss_psd_sound hs
  | parameter parameter value date fits =>
    unfold State.setParameter State.takeUp
    dsimp only
    split
    · simpa using hs
    · split
      · exact State.takeLoss_psd_sound hs
      · exact hs
  | _ => simpa using hs

theorem step_keeps_psd_sound {s t : State} (h : step s = .next t) (hs : s.psd.Sound) : t.psd.Sound := by
  refine step_keeps (P := fun s => s.psd.Sound) False (fun _ _ _ h => h) (fun s h => by simpa using h) (fun c s t _ hexec hs => ?_)
    False.elim h hs
  refine exec_keeps (P := fun s => s.psd.Sound) False (fun s t h hs => ?_) (fun s t h hs => h.psd_sound hs)
    (fun s straps rate _ p hp => ?_) False.elim hexec hs
  · rw [h]
    exact hs
  · cases hp

end Sys2Proof.Machine
end

section
/-! The status planes and the overlay, sound after every step (R126, R139 to R146). -/

namespace Sys2Proof.Machine

/-! ### Planes worked on -/

theorem Plane.Sound.setStatus {p : Plane} {n : Nat} (h : p.Sound n) (i : Nat) (st : EntryStatus) : (p.setStatus i st).Sound n where
  status := by simpa [Plane.setStatus] using h.status
  cursor := h.cursor

/-- The two planes over `n` entries (R126): for two days that follow each other. -/
structure Planes.Sound (p : Planes) (n : Nat) : Prop where
  days : p.previous.day = p.current.day - 1
  current : p.current.Sound n
  previous : p.previous.Sound n

/-- The timetable check after work on its planes alone, which keeps them sound. -/
structure Ttc.Worked (t t' : Ttc) : Prop where
  frame : t' = { t with planes := t'.planes }
  exist : t'.planes.isSome = t.planes.isSome
  planes : (∀ p, t.planes = some p → p.Sound t.entries.length) → ∀ p, t'.planes = some p → p.Sound t.entries.length

theorem Ttc.Worked.refl (t : Ttc) : t.Worked t := ⟨rfl, rfl, id⟩

theorem Ttc.Worked.entries {t t' : Ttc} (h : t.Worked t') : t'.entries = t.entries := by rw [h.frame]

theorem Ttc.Worked.trans {t t' t'' : Ttc} (h : t.Worked t') (h' : t'.Worked t'') : t.Worked t'' where
  frame := by rw [h'.frame, h.frame]
  exist := h'.exist.trans h.exist
  planes := fun hp => by
    have := h'.planes
    rw [h.entries] at this
    exact this (h.planes hp)

theorem Ttc.Worked.of_eq {t t' : Ttc} (h : t' = t) : t.Worked t' := h ▸ .refl t

/-- Work on one plane that keeps its day and, where the plane is sound, keeps it so. -/
theorem Ttc.Worked.onPlane (t : Ttc) (w : PlaneName) {f : Plane → Plane} (hday : ∀ p, (f p).day = p.day)
    (hsound : ∀ p, t.plane w = some p → p.Sound t.entries.length → (f p).Sound t.entries.length) : t.Worked (t.onPlane w f) where
  frame := rfl
  exist := by simp [Ttc.onPlane]
  planes := fun h p hp => by
    simp only [Ttc.onPlane, Option.map_eq_some_iff] at hp
    obtain ⟨q, hq, rfl⟩ := hp
    have hs := h q hq
    cases w with
    | current => exact { hs with days := by rw [hday]; exact hs.days, current := hsound _ (by simp [Ttc.plane, hq]) hs.current }
    | previous => exact { hs with days := by rw [hday]; exact hs.days, previous := hsound _ (by simp [Ttc.plane, hq]) hs.previous }

theorem Ttc.Worked.setStatus (t : Ttc) (w : PlaneName) (i : Nat) (st : EntryStatus) : t.Worked (t.onPlane w fun p => p.setStatus i st) :=
  .onPlane t w (fun _ => rfl) fun _ _ h => h.setStatus i st

/-- A fold works on the planes as its steps do. -/
theorem foldl_worked {β : Type} {f : State → β → State} (h : ∀ (s : State) (b : β), s.ttc.Worked (f s b).ttc) (l : List β) (s : State) :
    s.ttc.Worked (l.foldl f s).ttc := by
  induction l generalizing s with
  | nil => exact .refl _
  | cons b l ih => exact (h s b).trans (ih _)

theorem State.judgePassing_worked (s : State) (x : PassingItems) : s.ttc.Worked (s.judgePassing x).ttc := by
  unfold State.judgePassing
  split
  · exact .of_eq (by simp [State.unbookedPassing])
  · split
    · rename_i c _
      simp only [State.matchPassing]
      split <;> exact .setStatus s.ttc c.plane c.index _
    · exact .of_eq (by simp [State.unbookedPassing])

theorem State.missEntry_worked (s : State) (w : PlaneName) (day : Int) (i : Nat) (slot : Option Nat) (e : TimetableEntry) :
    s.ttc.Worked (s.missEntry w day i slot e).ttc := .setStatus s.ttc w i .missed

/-- The base cursor moved over an entry stays within the entries (R135). -/
theorem Ttc.Worked.moveCursor (t : Ttc) (w : PlaneName) {cursor : Nat} {e : TimetableEntry} (he : t.entries[cursor]? = some e) :
    t.Worked (t.onPlane w fun q => { q with cursor := cursor + 1 }) :=
  .onPlane t w (fun _ => rfl) fun _ _ h => { h with cursor := (List.getElem?_eq_some_iff.mp he).1 }

theorem State.sweepBase_worked (s : State) (w : PlaneName) (fuel : Nat) : s.ttc.Worked (s.sweepBase w fuel).ttc := by
  induction fuel generalizing s with
  | zero => exact .refl _
  | succ fuel ih =>
    unfold State.sweepBase
    split
    · exact .refl _
    · rename_i p _
      split
      · exact .refl _
      · rename_i e he
        split
        · have hmoved : s.ttc.Worked (s.onTtc fun t => t.onPlane w fun q => { q with cursor := p.cursor + 1 }).ttc := .moveCursor s.ttc w he
          dsimp only
          split
          · exact (hmoved.trans (State.missEntry_worked (s.onTtc _) ..)).trans (ih _)
          · exact hmoved.trans (ih _)
        · exact .refl _

theorem State.scanSlot_worked (s : State) (k : Nat) (w : PlaneName) : s.ttc.Worked (s.scanSlot k w).ttc := by
  unfold State.scanSlot
  split
  · split
    · dsimp only
      split
      · exact s.missEntry_worked ..
      · exact .refl _
    · exact .refl _
  · exact .refl _

theorem State.scanSlots_worked (s : State) (planes : List PlaneName) : s.ttc.Worked (s.scanSlots planes).ttc :=
  foldl_worked (fun s k => foldl_worked (fun s w => s.scanSlot_worked k w) planes s) _ s

theorem State.sweepPlanes_worked (s : State) : s.ttc.Worked s.sweepPlanes.ttc :=
  ((s.sweepBase_worked ..).trans (State.sweepBase_worked ..)).trans (State.scanSlots_worked ..)

theorem State.rollOver_worked (s : State) {p : Planes} (hp : s.ttc.planes = some p) : s.ttc.Worked (s.rollOver p).ttc := by
  have hnew : s.ttc.Worked (s.onTtc fun t =>
      { t with planes := some { previous := p.current, current := t.newPlane (p.current.day + 1) } }).ttc :=
    { frame := rfl
      exist := by rw [hp]; rfl
      planes := fun h q hq => by
        cases hq
        exact {
          days := by simp [Ttc.newPlane]
          current := ⟨by simp [Ttc.newPlane], Nat.zero_le _⟩
          previous := (h p hp).current } }
  exact (hnew.trans (State.sweepBase_worked (s.onTtc _) ..)).trans (State.scanSlots_worked ..)

theorem State.rollOverIfDue_worked (s : State) : s.ttc.Worked s.rollOverIfDue.ttc := by
  unfold State.rollOverIfDue
  split
  · split
    · exact s.rollOver_worked ‹_›
    · exact .refl _
  · exact .refl _

theorem State.sweepEvent_worked (s : State) : s.ttc.Worked s.sweepEvent.ttc := by
  unfold State.sweepEvent
  split
  · exact s.sweepPlanes_worked.trans (State.rollOverIfDue_worked _)
  · exact .refl _

theorem State.releaseTarget_worked (s : State) (target : Nat) : s.ttc.Worked (s.releaseTarget target).ttc := by
  have hrelease : ∀ (e : TimetableEntry) (p : Plane) (n : Nat),
      (s.releaseInPlane target e p).day = p.day ∧ (p.Sound n → (s.releaseInPlane target e p).Sound n) := by
    intro e p n
    unfold State.releaseInPlane
    split
    · exact ⟨rfl, fun h => h.setStatus ..⟩
    · exact ⟨rfl, id⟩
  unfold State.releaseTarget
  split
  · rename_i e _
    exact (Ttc.Worked.onPlane s.ttc .previous (fun p => (hrelease e p 0).1) fun p _ => (hrelease e p _).2).trans
      (.onPlane _ .current (fun p => (hrelease e p 0).1) fun p _ => (hrelease e p _).2)
  · exact .refl _

theorem State.edgeAtPoint_worked (s : State) (x : SectionEdge) (point : Nat) : s.ttc.Worked (s.edgeAtPoint x point).ttc := by
  unfold State.edgeAtPoint
  split
  · split
    · split
      · exact .of_eq (by simp)
      · unfold State.passingAt
        dsimp only
        split
        · exact State.judgePassing_worked (s.onPoint point _) _
        · exact .of_eq (by simp)
    · exact .refl _
  · exact .refl _

theorem State.takeIndication_worked (s : State) (address code : Nat) (age : Option Nat) (c : Capture) :
    s.ttc.Worked (s.takeIndication address code age c).ttc := by
  unfold State.takeIndication
  dsimp only
  split
  · split
    · split
      · unfold State.validIndication
        extract_lets s1 s2
        have h1 : s2.ttc = s.ttc := by
          simp only [s2, s1]
          split <;> simp
        split
        · exact (Ttc.Worked.of_eq h1).trans (foldl_worked (fun s point => s.edgeAtPoint_worked _ point) _ s2)
        · exact .of_eq h1
      · exact .of_eq (by simp)
    · exact .refl _
  · exact .of_eq (by simp)

/-! ### What soundness says of the timetable check and whether the time base runs -/

/-- The planes and the overlay, for a time base that is outside UNSET or not. -/
structure Ttc.PlanesSound (t : Ttc) (running : Prop) : Prop where
  exist : t.planes.isSome ↔ t.active = true ∧ running
  planes : ∀ p, t.planes = some p → p.Sound t.entries.length
  slots : t.overlay.length = 64
  targets : ∀ k x, t.slot k = some x → x.target < t.entries.length
  distinct : ∀ j k x y, t.slot j = some x → t.slot k = some y → x.target = y.target → j = k

theorem State.planesSound_iff (s : State) : s.PlanesSound ↔ s.ttc.PlanesSound (s.tbu.timeState ≠ .unset) :=
  ⟨fun h => ⟨h.exist, fun p hp => ⟨h.days p hp, h.current p hp, h.previous p hp⟩, h.slots, h.targets, h.distinct⟩,
    fun h => ⟨h.exist, fun p hp => (h.planes p hp).days, fun p hp => (h.planes p hp).current, fun p hp => (h.planes p hp).previous,
      h.slots, h.targets, h.distinct⟩⟩

section
variable {t t' : Ttc} {running : Prop}

theorem Ttc.PlanesSound.congr {running' : Prop} (h : t.PlanesSound running) (hrunning : running ↔ running') : t.PlanesSound running' :=
  (propext hrunning) ▸ h

theorem Ttc.PlanesSound.worked (h : t.PlanesSound running) (hw : t.Worked t') : t'.PlanesSound running where
  exist := by
    rw [hw.exist, h.exist, hw.frame]
  planes := by
    rw [hw.entries]
    exact hw.planes h.planes
  slots := by
    rw [hw.frame]
    exact h.slots
  targets := by
    rw [hw.frame]
    exact h.targets
  distinct := by
    rw [hw.frame]
    exact h.distinct

/-- A slot whose content is set, the others as they were. -/
theorem Ttc.slot_set (t : Ttc) {k : Nat} (hk : k < t.overlay.length) (x : Option OverlaySlot) (j : Nat) :
    ({ t with overlay := t.overlay.set k x } : Ttc).slot j = if j = k then x else t.slot j := by
  simp only [Ttc.slot, List.getElem?_set]
  by_cases h : k = j
  · subst h
    simp [hk]
  · simp [h, Ne.symm h]

theorem Ttc.PlanesSound.cleared (h : t.PlanesSound running) {k : Nat} (hk : k < 64) :
    ({ t with overlay := t.overlay.set k none } : Ttc).PlanesSound running := by
  have hslot := t.slot_set (h.slots ▸ hk) none
  have hof : ∀ {j x}, ({ t with overlay := t.overlay.set k none } : Ttc).slot j = some x → t.slot j = some x := by
    intro j x hj
    rw [hslot] at hj
    split at hj
    · cases hj
    · exact hj
  exact {
    exist := h.exist
    planes := h.planes
    slots := by simpa using h.slots
    targets := fun j x hj => h.targets j x (hof hj)
    distinct := fun i j x y hi hj => h.distinct i j x y (hof hi) (hof hj) }

/-- A slot written with the target of no other slot (R145). -/
theorem Ttc.PlanesSound.written (h : t.PlanesSound running) {k target : Nat} (action : OverlayAction) (hk : k < 64)
    (htarget : target < t.entries.length) (hfree : ∀ j x, t.slot j = some x → x.target = target → j = k) :
    ({ t with overlay := t.overlay.set k (some { target := target, action := action }) } : Ttc).PlanesSound running := by
  have hslot := t.slot_set (h.slots ▸ hk) (some { target := target, action := action })
  have hof : ∀ {j x}, ({ t with overlay := t.overlay.set k (some { target := target, action := action }) } : Ttc).slot j = some x →
      (j = k ∧ x.target = target) ∨ (j ≠ k ∧ t.slot j = some x) := by
    intro j x hj
    rw [hslot] at hj
    split at hj
    · rename_i heq
      cases hj
      exact .inl ⟨heq, rfl⟩
    · rename_i hne
      exact .inr ⟨hne, hj⟩
  exact {
    exist := h.exist
    planes := h.planes
    slots := by simpa using h.slots
    targets := fun j x hj => by
      obtain ⟨-, hx⟩ | ⟨-, hj⟩ := hof hj
      · exact hx ▸ htarget
      · exact h.targets j x hj
    distinct := fun i j x y hi hj hxy => by
      obtain ⟨hik, hx⟩ | ⟨hik, hi⟩ := hof hi <;> obtain ⟨hjk, hy⟩ | ⟨hjk, hj⟩ := hof hj
      · exact hik.trans hjk.symm
      · exact absurd (hfree j y hj (hxy ▸ hx)) hjk
      · exact absurd (hfree i x hi (hxy.trans hy)) hik
      · exact h.distinct i j x y hi hj hxy }

end

/-- The slot that targets an entry is the first that does (R142). -/
theorem Ttc.slotOf_eq_none {t : Ttc} {target : Nat} (h : t.slotOf target = none) (j : Nat) (x : OverlaySlot) (hj : t.slot j = some x) :
    x.target ≠ target := by
  rw [Ttc.slotOf, List.findIdx?_eq_none_iff] at h
  have hmem : some x ∈ t.overlay := List.mem_of_getElem? (Option.join_eq_some_iff.mp hj)
  simpa using h _ hmem

theorem Ttc.slotOf_eq_some {t : Ttc} {target k : Nat} (h : t.slotOf target = some k) : ∃ x, t.slot k = some x ∧ x.target = target := by
  obtain ⟨hk, hx, -⟩ := List.findIdx?_eq_some_iff_getElem.mp h
  cases hslot : t.overlay[k] with
  | none => simp [hslot] at hx
  | some x => exact ⟨x, by simp [Ttc.slot, List.getElem?_eq_getElem hk, hslot], by simpa [hslot] using hx⟩

/-- Where an OVERLAY WRITE is not barred, no other slot has its target (R145). -/
theorem State.only_slot_of_not_barred {s : State} {running : Prop} (h : s.ttc.PlanesSound running) {k target : Nat} {action : OverlayAction}
    (hallowed : s.overlayBarred k target action = false) (j : Nat) (x : OverlaySlot) (hj : s.ttc.slot j = some x) (hx : x.target = target) :
    j = k := by
  simp only [State.overlayBarred, Bool.or_eq_false_iff] at hallowed
  obtain ⟨hother, -⟩ := hallowed
  cases hof : s.ttc.slotOf target with
  | none => exact absurd hx (Ttc.slotOf_eq_none hof j x hj)
  | some i =>
    obtain ⟨y, hy, hytarget⟩ := Ttc.slotOf_eq_some hof
    have hi : i = k := by simpa [hof] using hother
    exact (h.distinct j i x y hj hy (hx.trans hytarget.symm)).trans hi

/-! ### Planes made, remade and absent -/

/-- The planes made afresh are sound (R141). -/
theorem State.remakePlanes_sound {s : State} {running running' : Prop} (h : s.ttc.PlanesSound running) (cause : ResetCause)
    (hactive : s.ttc.active = true) (hrunning : running') : (s.remakePlanes cause).ttc.PlanesSound running' where
  exist := iff_of_true rfl ⟨hactive, hrunning⟩
  planes := fun p hp => by
    cases hp
    exact ⟨rfl, ⟨by simp [State.freshPlane, State.remakePlanes], Nat.zero_le _⟩,
      ⟨by simp [State.freshPlane, State.remakePlanes], Nat.zero_le _⟩⟩
  slots := h.slots
  targets := h.targets
  distinct := h.distinct

/-- An announcement makes the planes that the time base, no longer in UNSET, calls for (R140). -/
theorem State.announceToTtc_sound {s : State} {a : Announcement} (h : s.ttc.PlanesSound (a.unsetBefore = false))
    (hset : a.unsetBefore = false → s.tbu.timeState ≠ .unset) : (s.announceToTtc a).ttc.PlanesSound (s.tbu.timeState ≠ .unset) := by
  unfold State.announceToTtc
  split
  · rename_i hnone
    have hexist := h.exist
    rw [hnone] at hexist
    split
    · rename_i hfirst
      exact State.remakePlanes_sound h .firstTime hfirst.2.2 hfirst.2.1
    · rename_i hfirst
      refine { h with exist := ?_ }
      rw [hnone]
      cases hbefore : a.unsetBefore with
      | false =>
        have hinactive : s.ttc.active = false := by simpa [hbefore] using hexist
        simp [hinactive]
      | true =>
        have hinactive : ¬ (s.ttc.active = true ∧ s.tbu.timeState ≠ .unset) := fun hboth => hfirst ⟨hbefore, hboth.2, hboth.1⟩
        simpa using hinactive
  · rename_i p hsome
    obtain ⟨hactive, hbefore⟩ := h.exist.mp (by rw [hsome]; rfl)
    have hrun := hset hbefore
    have hstands : s.ttc.PlanesSound (s.tbu.timeState ≠ .unset) := h.congr (iff_of_true hbefore hrun)
    have hswept := hstands.worked s.sweepEvent_worked
    split
    · split
      · exact State.remakePlanes_sound h .step hactive hrun
      · exact hswept
    · split
      · exact State.remakePlanes_sound h .timeSet hactive hrun
      · exact hswept
    · exact hswept

theorem State.applyTimetable_sound {s : State} (h : s.ttc.PlanesSound (s.tbu.timeState ≠ .unset)) :
    s.applyTimetable.ttc.PlanesSound (s.tbu.timeState ≠ .unset) := by
  unfold State.applyTimetable
  extract_lets s1
  have hslot : ∀ k, s1.ttc.slot k = none := fun k => by
    simp only [s1, State.onTtc_ttc, Ttc.slot, List.getElem?_replicate]
    split <;> rfl
  split
  · rename_i hunset
    have hnone : s.ttc.planes = none := by
      have := h.exist
      simp only [hunset, ne_eq, not_true, and_false, iff_false] at this
      simpa using this
    exact {
      exist := by simp [s1, hnone, hunset]
      planes := fun p hp => by simp [s1, hnone] at hp
      slots := by simp [s1]
      targets := fun k x hx => by rw [hslot] at hx; cases hx
      distinct := fun j k x y hx => by rw [hslot] at hx; cases hx }
  · rename_i hset
    exact {
      exist := iff_of_true rfl ⟨rfl, hset⟩
      planes := fun p hp => by
        cases hp
        exact ⟨rfl, ⟨by simp [State.freshPlane, State.remakePlanes], Nat.zero_le _⟩,
          ⟨by simp [State.freshPlane, State.remakePlanes], Nat.zero_le _⟩⟩
      slots := by simp [State.remakePlanes, s1]
      targets := fun k x hx => by
        rw [show (s1.remakePlanes .apply).ttc.slot k = s1.ttc.slot k from rfl, hslot] at hx
        cases hx
      distinct := fun j k x y hx => by
        rw [show (s1.remakePlanes .apply).ttc.slot j = s1.ttc.slot j from rfl, hslot] at hx
        cases hx }

end Sys2Proof.Machine
end

section
/-! The status planes and the overlay after every step: every operation of an owner keeps them sound (R126, R139 to R146). -/

namespace Sys2Proof.Machine

theorem State.PlanesSound.of_eq {s t : State} (h : s.PlanesSound) (httc : t.ttc = s.ttc)
    (hstate : t.tbu.timeState = .unset ↔ s.tbu.timeState = .unset) : t.PlanesSound := by
  rw [State.planesSound_iff] at h ⊢
  rw [httc]
  exact h.congr (not_congr hstate.symm)

theorem State.PlanesSound.worked {s t : State} (h : s.PlanesSound) (httc : s.ttc.Worked t.ttc) (htbu : t.tbu = s.tbu) : t.PlanesSound := by
  rw [State.planesSound_iff] at h ⊢
  rw [htbu]
  exact h.worked httc

/-! ### Time changes -/

theorem State.announce_planesSound {s : State} {a : Announcement} (h : s.ttc.PlanesSound (a.unsetBefore = false))
    (hset : a.unsetBefore = false → s.tbu.timeState ≠ .unset) : (s.announce a).PlanesSound := by
  rw [State.planesSound_iff]
  simpa [State.announce] using State.announceToTtc_sound h hset

theorem State.applySeasonIfReached_timeState (s : State) : s.applySeasonIfReached.tbu.timeState = s.tbu.timeState := by
  unfold State.applySeasonIfReached
  split
  · split
    · simp [State.applySeason]
    · rfl
  · rfl

theorem State.takeSeason_planesSound {s : State} (h : s.PlanesSound) : s.takeSeason.PlanesSound := by
  unfold State.takeSeason
  split
  · refine State.announce_planesSound ?_ ?_
    · simpa using s.planesSound_iff.mp h
    · simp [State.applySeasonIfReached_timeState]
  · exact h

theorem State.stepMark_planesSound {s : State} (h : s.PlanesSound) (n : Nat) (e : Int) (labelled : Bool) :
    (s.stepMark n e labelled).PlanesSound := by
  refine State.announce_planesSound ?_ ?_
  · simpa [State.stepClock] using s.planesSound_iff.mp h
  · simp [State.stepClock, State.applySeasonIfReached_timeState, Tbu.stepped]

theorem State.setTime_planesSound {s : State} (h : s.PlanesSound) (ms offset : Nat) : (s.setTime ms offset).PlanesSound := by
  refine State.announce_planesSound ?_ ?_
  · simpa using s.planesSound_iff.mp h
  · simp [Tbu.set]

theorem Tbu.slewed_timeState {t : Tbu} (e : Int) (hset : t.timeState ≠ .unset) : (t.slewed e).timeState ≠ .unset := by
  have hset' : (t.learn e).timeState ≠ .unset := by simpa using hset
  obtain hstate | hstate := Tbu.slewCounts_timeState e hset' <;> simp [Tbu.slewed, hstate]

theorem State.actOnMark_planesSound {s : State} (h : s.PlanesSound) (n : Nat) (labelled : Bool) : (s.actOnMark n labelled).PlanesSound := by
  obtain ⟨e, heq | heq | ⟨heq, hset, -⟩⟩ := s.actOnMark_cases n labelled <;> rw [heq]
  · exact State.stepMark_planesSound h n e labelled
  · exact h.of_eq (by simp) (by simp [State.rejectMark])
  · refine h.of_eq (by simp) ?_
    rw [State.slewMark_tbu]
    exact iff_of_false (Tbu.slewed_timeState e hset) hset

theorem State.takeMark_planesSound {s : State} (h : s.PlanesSound) : s.takeMark.PlanesSound := by
  unfold State.takeMark
  extract_lets s1
  have h1 : s1.PlanesSound := h.of_eq rfl Iff.rfl
  split
  · exact State.actOnMark_planesSound h1 ..
  · split
    · exact h1.of_eq rfl Iff.rfl
    · exact h1.of_eq rfl Iff.rfl
    · exact State.actOnMark_planesSound h1 ..
    · exact State.actOnMark_planesSound h1 ..
    · exact State.actOnMark_planesSound h1 ..

theorem State.takeHoldoverLimit_planesSound {s : State} (h : s.PlanesSound) : s.takeHoldoverLimit.PlanesSound := by
  unfold State.takeHoldoverLimit
  split
  · rename_i hdue
    have hstate : s.tbu.timeState = .holdover := by
      simp only [State.holdoverLimitDue, Bool.and_eq_true, decide_eq_true_eq] at hdue
      exact hdue.1
    exact h.of_eq (by simp) (by simp [hstate])
  · exact h

/-! ### An APPLY -/

theorem State.takeApply_planesSound {s : State} (h : s.PlanesSound) (scope : Scope) (trigger : ApplyTrigger) (ending : Instant) :
    (s.takeApply scope trigger ending).PlanesSound := by
  unfold State.takeApply
  extract_lets s1 s2 s3
  have h2 : s2.PlanesSound := by
    refine h.of_eq ?_ ?_ <;> simp only [s2, s1] <;> split <;> simp
  have h3 : s3.PlanesSound := by
    simp only [s3]
    split
    · rw [State.planesSound_iff] at h2 ⊢
      simpa using State.applyTimetable_sound h2
    · exact h2
  exact h3.of_eq rfl Iff.rfl

theorem State.takeArmed_planesSound {s : State} (h : s.PlanesSound) (trigger : ApplyTrigger) (ending : Instant) :
    (s.takeArmed trigger ending).PlanesSound := by
  unfold State.takeArmed
  split
  · exact State.takeApply_planesSound h _ _ _
  · exact h

theorem State.takeLoss_planesSound {s : State} (h : s.PlanesSound) : s.takeLoss.PlanesSound := by
  unfold State.takeLoss
  split
  · unfold State.loseLine
    dsimp only
    exact State.takeArmed_planesSound (h.of_eq (by simp) (by simp)) _ _
  · exact h

/-! ### The overlay -/

theorem State.slot_lt {s : State} (h : s.PlanesSound) {k : Nat} {x : OverlaySlot} (hk : s.ttc.slot k = some x) : k < 64 := by
  have := (List.getElem?_eq_some_iff.mp (Option.join_eq_some_iff.mp hk)).1
  rwa [h.slots] at this

theorem State.clearSlot_planesSound {s : State} (h : s.PlanesSound) (k : Nat) : (s.clearSlot k).PlanesSound := by
  unfold State.clearSlot
  split
  · rename_i x hx
    have hreleased := (s.planesSound_iff.mp h).worked (s.releaseTarget_worked x.target)
    rw [State.planesSound_iff]
    simpa using hreleased.cleared (State.slot_lt h hx)
  · exact h

theorem State.writeSlot_planesSound {s : State} (h : s.PlanesSound) {k target : Nat} {action : OverlayAction} (hk : k < 64)
    (htarget : target < s.ttc.entries.length) (hallowed : s.overlayBarred k target action = false) :
    (s.writeSlot k target action).PlanesSound := by
  unfold State.writeSlot
  extract_lets s1
  have h := s.planesSound_iff.mp h
  have hw : s.ttc.Worked s1.ttc := by
    simp only [s1]
    split
    · split
      · exact .refl _
      · exact s.releaseTarget_worked _
    · exact .refl _
  have htbu : s1.tbu = s.tbu := by
    simp only [s1]
    split
    · split <;> simp
    · rfl
  have hslots : ∀ j, s1.ttc.slot j = s.ttc.slot j := fun j => by rw [hw.frame]; rfl
  rw [State.planesSound_iff]
  have := (h.worked hw).written action hk (hw.entries ▸ htarget) fun j x hj hx =>
    State.only_slot_of_not_barred h hallowed j x (hslots j ▸ hj) hx
  simpa [htbu] using this

/-! ### Every step -/

theorem State.Acts.planesSound {wf : Prop} {s t : State} (h : s.Acts wf t) (hs : s.PlanesSound) : t.PlanesSound := by
  cases h with
  | roundOpen number c =>
    unfold State.takeRoundOpen
    dsimp only
    have hopened : (s.onLiu fun l => l.openRound c.rt s.orh.params.lossTimeout).PlanesSound := hs.of_eq rfl Iff.rfl
    exact (State.takeArmed_planesSound hopened .roundOpen c.instant).of_eq (by simp) (by simp)
  | indication address code age c => exact hs.worked (s.takeIndication_worked ..) (by simp)
  | timeSet ms offset => exact State.setTime_planesSound hs ms offset
  | seasonScheduled offset minute => exact State.takeSeason_planesSound (hs.of_eq rfl Iff.rfl)
  | parameter parameter value date fits =>
    unfold State.setParameter State.takeUp
    dsimp only
    split
    · exact State.takeHoldoverLimit_planesSound (hs.of_eq rfl Iff.rfl)
    · split
      · exact State.takeLoss_planesSound (hs.of_eq rfl Iff.rfl)
      · exact hs.of_eq rfl Iff.rfl
  | entriesWritten =>
    exact { hs with }
  | applied scope c => exact State.takeApply_planesSound hs scope _ _
  | slotWritten k target action train point booked mask act read fits allowed =>
    exact State.writeSlot_planesSound hs fits.1 fits.2 allowed
  | slotCleared k => exact State.clearSlot_planesSound hs k
  | mark => exact State.takeMark_planesSound hs
  | loss => exact State.takeLoss_planesSound hs
  | season => exact State.takeSeason_planesSound hs
  | holdoverExpiry due =>
    refine hs.of_eq (by simp) (iff_of_false (by simp [Tbu.heldOver]) ?_)
    intro hunset
    simp [State.holdoverExpiryDue, hunset] at due
  | trimCarry => exact hs.of_eq rfl Iff.rfl
  | slewTick => exact hs.of_eq rfl Iff.rfl
  | holdoverLimit => exact State.takeHoldoverLimit_planesSound hs
  | sweep => exact hs.worked (State.sweepEvent_worked (s.onClk _)) (by simp)
  | _ => exact hs.of_eq (by simp) (by simp)

theorem State.powerOn_planesSound (s : State) (straps : Nat) (rate : LineRate) : (s.powerOn straps rate).PlanesSound := by
  have hslot : ∀ k, (s.powerOn straps rate).ttc.slot k = none := fun k => by
    simp only [State.powerOn, State.atPowerOn, Ttc.slot, List.getElem?_replicate]
    split <;> rfl
  exact {
    exist := by simp [State.powerOn, State.atPowerOn]
    days := fun p hp => by cases hp
    current := fun p hp => by cases hp
    previous := fun p hp => by cases hp
    slots := by simp [State.powerOn, State.atPowerOn]
    targets := fun k x hx => by rw [hslot] at hx; cases hx
    distinct := fun j k x y hx => by rw [hslot] at hx; cases hx }

theorem step_keeps_planesSound {s t : State} (h : step s = .next t) (hs : s.PlanesSound) : t.PlanesSound := by
  refine step_keeps (P := State.PlanesSound) False (fun _ _ _ h => h.of_eq rfl Iff.rfl) (fun s h => h.of_eq rfl Iff.rfl)
    (fun c s t _ hexec hs => ?_) False.elim h hs
  refine exec_keeps (P := State.PlanesSound) False (fun s t h hs => ?_) (fun s t h hs => h.planesSound hs)
    (fun s straps rate _ => ?_) False.elim hexec hs
  · exact hs.of_eq (by rw [h]; rfl) (by rw [h]; rfl)
  · exact s.powerOn_planesSound straps rate

/-- Settles O59: each operation keeps the queues, and works on the planes and the slots in ways that keep them sound. -/
theorem trainsAndPlanesStaySound : Obligations.TrainsAndPlanesStaySound :=
  ⟨fun _ _ hs h => step_keeps_psd_sound h hs, fun _ _ hs h => step_keeps_planesSound h hs⟩

end Sys2Proof.Machine
end

section
/-! What the operations leave of the active banks: element states and point records change, the entries stand (R60, R62, R105). -/

namespace Sys2Proof.Machine

/-! ### The layout store with its element states worked on -/

/-- A layout store after work on the element states alone. -/
structure Lys.Restated (l l' : Lys) : Prop where
  frame : l' = { l with elements := l'.elements }
  entries : l'.elements.map (·.entry) = l.elements.map (·.entry)

theorem Lys.Restated.refl (l : Lys) : l.Restated l := ⟨rfl, rfl⟩

theorem Lys.Restated.trans {l l' l'' : Lys} (h : l.Restated l') (h' : l'.Restated l'') : l.Restated l'' :=
  ⟨by rw [h'.frame, h.frame], h'.entries.trans h.entries⟩

theorem Lys.Restated.of_eq {l l' : Lys} (h : l' = l) : l.Restated l' := h ▸ .refl l

/-- A fold works on the element states as its steps do. -/
theorem foldl_restated {β : Type} {f : State → β → State} (h : ∀ (s : State) (b : β), s.lys.Restated (f s b).lys) (l : List β) (s : State) :
    s.lys.Restated (l.foldl f s).lys := by
  induction l generalizing s with
  | nil => exact .refl _
  | cons b l ih => exact (h s b).trans (ih _)

theorem State.onElement_restated (s : State) (i : Nat) (f : ElementState → ElementState) : s.lys.Restated (s.onElement i f).lys where
  frame := rfl
  entries := by
    refine List.ext_getElem? fun j => ?_
    simp only [State.onElement, State.onLys_lys, List.getElem?_map, List.getElem?_modify]
    cases s.lys.elements[j]? with
    | none => rfl
    | some e =>
      simp only [Option.map_eq_map, Option.map_some]
      split <;> rfl

theorem State.onElements_restated (s : State) (f : ElementState → ElementState) : s.lys.Restated (s.onElements f).lys where
  frame := rfl
  entries := by simp [State.onElements, Function.comp_def]

theorem State.closeMovement_restated (s : State) (position : Nat) (r : Movement) (outcome : MovementOutcome)
    (reason : Option AbandonReason) (ending : Instant) (flags : Flags) :
    s.lys.Restated (s.closeMovement position r outcome reason ending flags).lys := by
  simp only [State.closeMovement, State.onMvs_lys]
  refine .trans (.of_eq ?_) (State.onElement_restated ..)
  split <;> simp

theorem State.closeAll_restated (s : State) (reason : AbandonReason) (ending : Instant) : s.lys.Restated (s.closeAll reason ending).lys := by
  refine foldl_restated (fun s position => ?_) _ s
  split
  · exact s.closeMovement_restated ..
  · exact .refl _

theorem State.openMovement_restated (s : State) (index : Nat) (e : LiveElement) (target : Nat) (arrival : Instant) :
    s.lys.Restated (s.openMovement index e target arrival).lys := by
  unfold State.openMovement
  split
  · exact .refl _
  · exact .of_eq (by simp)
  · split
    · exact State.onElement_restated (s.onMvs _) ..
    · exact .of_eq (by simp)

theorem State.commandChange_restated (s : State) (index target : Nat) (arrival : Instant) :
    s.lys.Restated (s.commandChange index target arrival).lys := by
  unfold State.commandChange
  split
  · dsimp only
    split
    · exact (s.closeMovement_restated ..).trans (State.openMovement_restated ..)
    · exact s.openMovement_restated ..
  · exact .refl _

theorem State.indicationToMvs_restated (s : State) (index code : Nat) (event : EventInstant) :
    s.lys.Restated (s.indicationToMvs index code event).lys := by
  unfold State.indicationToMvs
  split
  · split
    · split
      · exact .refl _
      · exact .refl _
      · dsimp only
        split
        · exact (s.closeMovement_restated ..).trans (State.onElement_restated ..)
        · exact s.closeMovement_restated ..
    · exact .refl _
  · exact .refl _

theorem State.writeIf_restated (s : State) (asked : Bool) (body : RecordBody) (date : Date) (flags : Flags) :
    s.lys.Restated (s.writeIf asked body date flags).lys := .of_eq (by simp)

theorem State.indicationRecord_restated (s : State) (index : Nat) (e : LiveElement) (code : Nat) (event : EventInstant) :
    s.lys.Restated (s.indicationRecord index e code event).lys := .of_eq (by simp)

theorem State.validCommand_restated (s : State) (index : Nat) (e : LiveElement) (code : Nat) (arrival : Instant) :
    s.lys.Restated (s.validCommand index e code arrival).lys := by
  unfold State.validCommand
  split
  · exact s.onElement_restated ..
  · dsimp only
    split
    · exact ((s.onElement_restated ..).trans (State.writeIf_restated ..)).trans (State.commandChange_restated ..)
    · exact (s.onElement_restated ..).trans (State.writeIf_restated ..)

theorem State.badCommand_restated (s : State) (index : Nat) (e : LiveElement) (code : Nat) (arrival : Instant) :
    s.lys.Restated (s.badCommand index e code arrival).lys :=
  (s.onElement_restated ..).trans (State.writeIf_restated ..)

theorem State.validIndication_restated (s : State) (index : Nat) (e : LiveElement) (code : Nat) (event : EventInstant) :
    s.lys.Restated (s.validIndication index e code event).lys := by
  unfold State.validIndication
  extract_lets s1 s2
  have h1 : s.lys.Restated s1.lys := (s.onElement_restated ..).trans (State.indicationRecord_restated ..)
  have h2 : s1.lys.Restated s2.lys := by
    simp only [s2]
    split
    · exact s1.indicationToMvs_restated ..
    · exact .refl _
  split
  · rename_i edge _
    exact (h1.trans h2).trans (.of_eq (s2.takeEdge_frame edge).2.2.2.2.1)
  · exact h1.trans h2

theorem State.badIndication_restated (s : State) (index : Nat) (e : LiveElement) (code : Nat) (event : EventInstant) :
    s.lys.Restated (s.badIndication index e code event).lys := by
  unfold State.badIndication
  dsimp only
  split <;> exact (s.onElement_restated ..).trans (State.writeIf_restated ..)

theorem State.lineKnowledgeLost_restated (s : State) (ending : Instant) : s.lys.Restated (s.lineKnowledgeLost ending).lys :=
  (s.onElements_restated _).trans (State.closeAll_restated ..)

theorem State.judgeRound_restated (s : State) (number : Nat) (c : Capture) : s.lys.Restated (s.judgeRound number c).lys := by
  unfold State.judgeRound
  split
  · exact .refl _
  · exact .of_eq (by simp)
  · exact .trans (.of_eq (by simp)) (State.onElements_restated ..)

theorem State.takeLineReset_restated (s : State) (c : Capture) : s.lys.Restated (s.takeLineReset c).lys := by
  unfold State.takeLineReset
  exact .trans (.of_eq (by simp)) (State.lineKnowledgeLost_restated ..)

/-! ### The layout store after an APPLY and after a RESTART -/

/-- The open movements of a LAYOUT apply, in rising order of position (R100). -/
def State.carryMovements (s : State) (new : List Element) (ending : Instant) : State :=
  (List.range 64).foldl (fun s position => s.carryMovement new ending position) s

theorem State.carryMovement_restated (s : State) (new : List Element) (ending : Instant) (position : Nat) :
    s.lys.Restated (s.carryMovement new ending position).lys := by
  unfold State.carryMovement
  split
  · split
    · exact .refl _
    · exact s.closeMovement_restated ..
  · exact .refl _

theorem State.carryMovements_restated (s : State) (new : List Element) (ending : Instant) :
    s.lys.Restated (s.carryMovements new ending).lys :=
  foldl_restated (fun s position => s.carryMovement_restated new ending position) _ s

/-- The points that the new points of a LAYOUT apply are matched with (R77). -/
def State.matchedPoints (s : State) : List (Option Nat) :=
  matchPoints (s.lys.elements.map (·.entry)) s.lys.stagingElements.values s.psd.points [] s.lys.stagingPoints.values

theorem State.applyLayout_eq (s : State) (ending : Instant) :
    s.applyLayout ending = ((((s.carryMovements s.lys.stagingElements.values ending).onLys fun l =>
        { l with elements := carryElements l.elements s.lys.stagingElements.values ending.rt, unknown := []
                 generation := (l.generation + 1) % 65536 }).onPsd fun d =>
        { d with points := carryPoints d.points s.lys.stagingPoints.values s.matchedPoints }).dropQueues
      (s.lys.elements.map (·.entry)) s.psd.points s.matchedPoints ending.date) := by
  unfold State.applyLayout State.carryMovements State.matchedPoints
  rfl

/-- The layout store after a LAYOUT apply (R75, R76): the movements carried, then the bank with what its elements keep. -/
theorem State.applyLayout_lys (s : State) (ending : Instant) :
    (s.applyLayout ending).lys = { (s.carryMovements s.lys.stagingElements.values ending).lys with
      elements := carryElements (s.carryMovements s.lys.stagingElements.values ending).lys.elements s.lys.stagingElements.values ending.rt
      unknown := []
      generation := ((s.carryMovements s.lys.stagingElements.values ending).lys.generation + 1) % 65536 } := by
  simp only [State.applyLayout_eq, State.dropQueues_frame, State.onPsd_lys, State.onLys_lys]

/-- The layout store after a RESTART (R79): the element states alone worked on, the unknown-address list empty, nothing armed. -/
theorem State.restartField_lys (s : State) (ending : Instant) :
    ∃ l, s.lys.Restated l ∧ (s.restartField ending).lys = { l with unknown := [], armed := none } := by
  unfold State.restartField
  extract_lets s1 s2
  have hfresh : s.lys.Restated s1.lys := s.onElements_restated _
  have hclosed : (s1.onLys fun l => { l with unknown := [] }).lys.Restated s2.lys := State.closeAll_restated _ .restart ending
  clear_value s2
  refine ⟨{ s.lys with elements := s2.lys.elements }, ⟨rfl, hclosed.entries.trans hfresh.entries⟩, ?_⟩
  show ({ s2.lys with armed := none } : Lys) = _
  rw [hclosed.frame]
  rfl

/-! ### The timing points with their records worked on -/

/-- The timing points after work on their records alone. -/
def Psd.Restated (d d' : Psd) : Prop := d'.points.map (·.entry) = d.points.map (·.entry)

theorem Psd.Restated.refl (d : Psd) : d.Restated d := rfl

theorem Psd.Restated.trans {d d' d'' : Psd} (h : d.Restated d') (h' : d'.Restated d'') : d.Restated d'' := Eq.trans h' h

theorem Psd.Restated.of_eq {d d' : Psd} (h : d' = d) : d.Restated d' := h ▸ .refl d

theorem Psd.Restated.length {d d' : Psd} (h : d.Restated d') : d'.points.length = d.points.length := by
  simpa using congrArg List.length h

theorem Psd.Restated.mem {d d' : Psd} (h : d.Restated d') {p : LivePoint} (hp : p ∈ d'.points) : ∃ q ∈ d.points, q.entry = p.entry := by
  have hp := List.mem_map_of_mem (f := (·.entry)) hp
  rw [h] at hp
  simpa using hp

theorem State.onPoint_restated (s : State) (point : Nat) (f : PointRecord → PointRecord) : s.psd.Restated (s.onPoint point f).psd := by
  refine List.ext_getElem? fun j => ?_
  simp only [State.onPoint, State.onPsd_psd, List.getElem?_map, List.getElem?_modify]
  cases s.psd.points[j]? with
  | none => rfl
  | some p =>
    simp only [Option.map_eq_map, Option.map_some]
    split <;> rfl

theorem Psd.Restated.map (d : Psd) (f : PointRecord → PointRecord) :
    d.Restated { d with points := d.points.map fun p => { p with record := f p.record } } := by
  simp [Psd.Restated, Function.comp_def]

theorem State.edgeAtPoint_restated (s : State) (x : SectionEdge) (point : Nat) : s.psd.Restated (s.edgeAtPoint x point).psd := by
  unfold State.edgeAtPoint
  split
  · split
    · split
      · exact (s.onPoint_restated point _).trans (.of_eq (by simp [State.bounceAt]; rfl))
      · unfold State.passingAt
        dsimp only
        split <;> exact (s.onPoint_restated point (PointRecord.passed x)).trans (.of_eq (by simp))
    · exact .refl _
  · exact .refl _

theorem State.takeEdge_restated (s : State) (x : SectionEdge) : s.psd.Restated (s.takeEdge x).psd := by
  unfold State.takeEdge
  generalize List.range s.psd.points.length = points
  induction points generalizing s with
  | nil => exact .refl _
  | cons point points ih => exact (s.edgeAtPoint_restated x point).trans (ih _)

theorem State.takeIndication_restated (s : State) (address code : Nat) (age : Option Nat) (c : Capture) :
    s.psd.Restated (s.takeIndication address code age c).psd := by
  unfold State.takeIndication
  dsimp only
  split
  · split
    · split
      · unfold State.validIndication
        dsimp only
        split
        · refine .trans (.of_eq ?_) (State.takeEdge_restated ..)
          split <;> simp
        · refine .of_eq ?_
          split <;> simp
      · exact .of_eq (by simp)
    · exact .refl _
  · exact .of_eq (by simp)

theorem State.identTrain_restated (s : State) (point : Nat) (p : LivePoint) (train : TrainNumber) (date : Date) :
    s.psd.Restated (s.identTrain point p train date).psd := by
  unfold State.identTrain
  split
  · exact .of_eq (by simp)
  · split
    · exact s.onPoint_restated ..
    · split
      · exact .trans (.of_eq (by simp)) (State.onPoint_restated ..)
      · exact .refl _

/-! ### The timetable check with its planes worked on -/

/-- The timetable check after work on its planes alone. -/
def Ttc.Replaned (t t' : Ttc) : Prop := t' = { t with planes := t'.planes }

theorem Ttc.Replaned.refl (t : Ttc) : t.Replaned t := rfl

theorem Ttc.Replaned.of_eq {t t' : Ttc} (h : t' = t) : t.Replaned t' := h ▸ .refl t

theorem Ttc.Replaned.entries {t t' : Ttc} (h : t.Replaned t') : t'.entries = t.entries := by rw [h]
theorem Ttc.Replaned.overlay {t t' : Ttc} (h : t.Replaned t') : t'.overlay = t.overlay := by rw [h]
theorem Ttc.Replaned.staging {t t' : Ttc} (h : t.Replaned t') : t'.staging = t.staging := by rw [h]

theorem State.announceToTtc_replaned (s : State) (a : Announcement) : s.ttc.Replaned (s.announceToTtc a).ttc := by
  have hremade : ∀ cause, s.ttc.Replaned (s.remakePlanes cause).ttc := fun _ => rfl
  unfold State.announceToTtc
  split
  · split
    · exact hremade _
    · exact .refl _
  · split
    · split
      · exact hremade _
      · exact s.sweepEvent_worked.frame
    · split
      · exact hremade _
      · exact s.sweepEvent_worked.frame
    · exact s.sweepEvent_worked.frame

theorem State.announce_replaned (s : State) (a : Announcement) : s.ttc.Replaned (s.announce a).ttc := by
  simpa [State.announce] using s.announceToTtc_replaned a

theorem State.takeSeason_replaned (s : State) : s.ttc.Replaned s.takeSeason.ttc := by
  unfold State.takeSeason
  split
  · simpa using State.announce_replaned s.applySeasonIfReached _
  · exact .refl _

theorem State.setTime_replaned (s : State) (ms offset : Nat) : s.ttc.Replaned (s.setTime ms offset).ttc :=
  State.announce_replaned (State.writeReport (s.onTbu _) ..) _

theorem State.actOnMark_replaned (s : State) (n : Nat) (labelled : Bool) : s.ttc.Replaned (s.actOnMark n labelled).ttc := by
  obtain ⟨e, heq | heq | ⟨heq, -, -⟩⟩ := s.actOnMark_cases n labelled <;> rw [heq]
  · unfold State.stepMark
    have h := State.announce_replaned (s.stepClock n e labelled)
      { cause := .step, stBefore := s.tbu.st, stAfter := stepTo n, seasonBefore := s.tbu.season
        seasonAfter := (s.stepClock n e labelled).tbu.season, unsetBefore := decide (s.tbu.timeState = .unset) }
    simpa [State.stepClock] using h
  · exact .of_eq (by simp)
  · exact .of_eq (by simp)

theorem State.takeMark_replaned (s : State) : s.ttc.Replaned s.takeMark.ttc := by
  unfold State.takeMark
  extract_lets s1
  have h : ∀ n labelled, s.ttc.Replaned (s1.actOnMark n labelled).ttc := fun n labelled => s1.actOnMark_replaned n labelled
  split
  · exact h _ _
  · split
    · exact .refl _
    · exact .refl _
    · exact h _ _
    · exact h _ _
    · exact h _ _

end Sys2Proof.Machine
end

section
/-! The staging banks: what is read back of a write, and their canonical form, which every step keeps (R58, R123; entry 23). -/

namespace Sys2Proof.Machine

section
variable {α : Type}

/-! ### What is read back -/

theorem Bank.get?_put (b : Bank α) (i j : Nat) (v : α) : (b.put i v).get? j = if j = i then some v else b.get? j := by
  induction b with
  | nil => rfl
  | cons x rest ih =>
    obtain ⟨k, w⟩ := x
    simp only [Bank.put]
    split
    · rfl
    · split
      · rename_i heq
        subst heq
        simp only [Bank.get?]
        split <;> rfl
      · rename_i hne
        simp only [Bank.get?, ih]
        by_cases hjk : j = k
        · rw [if_pos hjk, if_pos hjk, if_neg (by omega)]
        · rw [if_neg hjk, if_neg hjk]

theorem Bank.get?_remove (b : Bank α) (i j : Nat) : (b.remove i).get? j = if j = i then none else b.get? j := by
  induction b with
  | nil => simp [Bank.remove, Bank.get?]
  | cons x rest ih =>
    obtain ⟨k, w⟩ := x
    by_cases hk : k = i
    · subst hk
      have hgone : Bank.remove ((k, w) :: rest) k = Bank.remove rest k := by simp [Bank.remove]
      rw [hgone, ih]
      by_cases hjk : j = k <;> simp [hjk, Bank.get?]
    · have hstays : Bank.remove ((k, w) :: rest) i = (k, w) :: Bank.remove rest i := by simp [Bank.remove, hk]
      rw [hstays]
      simp only [Bank.get?, ih]
      by_cases hjk : j = k
      · rw [if_pos hjk, if_pos hjk, if_neg (by omega)]
      · rw [if_neg hjk, if_neg hjk]

theorem Bank.mem_put {b : Bank α} {i : Nat} {v : α} {x : Nat × α} (h : x ∈ b.put i v) : x = (i, v) ∨ x ∈ b := by
  induction b with
  | nil => exact .inl (List.mem_singleton.mp h)
  | cons y rest ih =>
    obtain ⟨k, w⟩ := y
    simp only [Bank.put] at h
    split at h
    · exact List.mem_cons.mp h
    · split at h
      · obtain h | h := List.mem_cons.mp h
        · exact .inl h
        · exact .inr (List.mem_cons_of_mem _ h)
      · obtain h | h := List.mem_cons.mp h
        · exact .inr (h ▸ List.mem_cons_self)
        · exact (ih h).imp_right (List.mem_cons_of_mem _)

theorem Bank.mem_remove {b : Bank α} {i : Nat} {x : Nat × α} (h : x ∈ b.remove i) : x ∈ b := List.mem_of_mem_filter h

/-! ### The canonical form -/

/-- A bank is canonical where its indexes rise strictly and lie below its size (entry 23). -/
theorem Bank.wf_iff (size : Nat) (b : Bank α) : b.wf size = true ↔ b.Pairwise (fun x y => x.1 < y.1) ∧ ∀ x ∈ b, x.1 < size := by
  induction b with
  | nil => simp [Bank.wf]
  | cons x rest ih =>
    obtain ⟨i, v⟩ := x
    simp only [Bank.wf, Bool.and_eq_true, decide_eq_true_eq, List.all_eq_true, ih, List.pairwise_cons, List.forall_mem_cons]
    constructor
    · rintro ⟨⟨hi, hrest⟩, hpairwise, hbelow⟩
      exact ⟨⟨hrest, hpairwise⟩, hi, hbelow⟩
    · rintro ⟨⟨hrest, hpairwise⟩, hi, hbelow⟩
      exact ⟨⟨hi, hrest⟩, hpairwise, hbelow⟩

theorem Bank.put_pairwise {b : Bank α} (h : b.Pairwise fun x y => x.1 < y.1) (i : Nat) (v : α) :
    (b.put i v).Pairwise fun x y => x.1 < y.1 := by
  induction b with
  | nil => exact List.pairwise_singleton ..
  | cons x rest ih =>
    obtain ⟨k, w⟩ := x
    obtain ⟨hk, hrest⟩ := List.pairwise_cons.mp h
    simp only [Bank.put]
    split
    · rename_i hlt
      refine List.pairwise_cons.mpr ⟨fun y hy => ?_, h⟩
      obtain rfl | hy := List.mem_cons.mp hy
      · exact hlt
      · exact hlt.trans (hk y hy)
    · split
      · rename_i heq
        subst heq
        exact List.pairwise_cons.mpr ⟨hk, hrest⟩
      · refine List.pairwise_cons.mpr ⟨fun y hy => ?_, ih hrest⟩
        obtain rfl | hy := Bank.mem_put hy
        · show k < i
          omega
        · exact hk y hy

theorem Bank.wf_put {b : Bank α} {size i : Nat} (h : b.wf size = true) (hi : i < size) (v : α) : (b.put i v).wf size = true := by
  rw [Bank.wf_iff] at h ⊢
  refine ⟨Bank.put_pairwise h.1 i v, fun x hx => ?_⟩
  obtain rfl | hx := Bank.mem_put hx
  · exact hi
  · exact h.2 x hx

theorem Bank.wf_remove {b : Bank α} {size : Nat} (h : b.wf size = true) (i : Nat) : (b.remove i).wf size = true := by
  rw [Bank.wf_iff] at h ⊢
  exact ⟨h.1.filter _, fun x hx => h.2 x (Bank.mem_remove hx)⟩

end

theorem writeEntries_wf {size : Nat} (entries : List RawEntry) {b : Bank TimetableEntry} {first : Nat} (h : b.wf size = true)
    (hfits : first + entries.length ≤ size) : (writeEntries b first entries).wf size = true := by
  induction entries generalizing b first with
  | nil => exact h
  | cons e rest ih =>
    simp only [List.length_cons] at hfits
    simp only [writeEntries]
    split
    · exact ih (Bank.wf_put h (by omega) _) (by omega)
    · exact ih (Bank.wf_remove h _) (by omega)

/-! ### Every step -/

theorem State.BanksSound.of_eq {s t : State} (h : s.BanksSound) (helements : t.lys.stagingElements = s.lys.stagingElements)
    (hpoints : t.lys.stagingPoints = s.lys.stagingPoints) (htimetable : t.ttc.staging = s.ttc.staging) : t.BanksSound :=
  ⟨helements ▸ h.elements, hpoints ▸ h.points, htimetable ▸ h.timetable⟩

/-- Work on the element states and the planes leaves the staging banks. -/
theorem State.BanksSound.restated {s t : State} (h : s.BanksSound) (hlys : s.lys.Restated t.lys) (httc : s.ttc.Replaned t.ttc) :
    t.BanksSound := h.of_eq (by rw [hlys.frame]) (by rw [hlys.frame]) httc.staging

/-- A LAYOUT apply leaves the staging banks. -/
theorem State.applyLayout_banks (s : State) (ending : Instant) :
    (s.applyLayout ending).lys.stagingElements = s.lys.stagingElements ∧ (s.applyLayout ending).lys.stagingPoints = s.lys.stagingPoints := by
  rw [State.applyLayout_lys, (s.carryMovements_restated s.lys.stagingElements.values ending).frame]
  exact ⟨rfl, rfl⟩

theorem State.takeApply_banksSound {s : State} (h : s.BanksSound) (scope : Scope) (trigger : ApplyTrigger) (ending : Instant) :
    (s.takeApply scope trigger ending).BanksSound := by
  unfold State.takeApply
  extract_lets s1 s2 s3
  have h1 : s1.BanksSound := h.of_eq rfl rfl rfl
  have h2 : s2.BanksSound := by
    simp only [s2]
    split
    · exact h1.of_eq (s1.applyLayout_banks ending).1 (s1.applyLayout_banks ending).2 (by simp)
    · exact h1
  have h3 : s3.BanksSound := by
    simp only [s3]
    split
    · refine h2.of_eq (by simp) (by simp) ?_
      unfold State.applyTimetable
      dsimp only
      split <;> rfl
    · exact h2
  exact h3.of_eq rfl rfl rfl

theorem State.takeArmed_banksSound {s : State} (h : s.BanksSound) (trigger : ApplyTrigger) (ending : Instant) :
    (s.takeArmed trigger ending).BanksSound := by
  unfold State.takeArmed
  split
  · exact State.takeApply_banksSound h _ _ _
  · exact h

theorem State.takeLoss_banksSound {s : State} (h : s.BanksSound) : s.takeLoss.BanksSound := by
  unfold State.takeLoss
  split
  · unfold State.loseLine
    dsimp only
    refine State.takeArmed_banksSound (h.restated ?_ (.of_eq (by simp))) _ _
    exact .trans (.of_eq (by simp)) (State.lineKnowledgeLost_restated ..)
  · exact h

/-- A target released and a slot written or cleared leave the staging timetable. -/
theorem State.releaseTarget_replaned (s : State) (target : Nat) : s.ttc.Replaned (s.releaseTarget target).ttc :=
  (s.releaseTarget_worked target).frame

theorem State.clearSlot_staging (s : State) (k : Nat) : (s.clearSlot k).ttc.staging = s.ttc.staging := by
  unfold State.clearSlot
  split
  · exact (s.releaseTarget_replaned _).staging
  · rfl

theorem State.writeSlot_staging (s : State) (k target : Nat) (action : OverlayAction) :
    (s.writeSlot k target action).ttc.staging = s.ttc.staging := by
  unfold State.writeSlot
  dsimp only [State.onTtc_ttc]
  split
  · split
    · rfl
    · exact (s.releaseTarget_replaned _).staging
  · rfl

theorem State.takeRoundOpen_banksSound {s : State} (h : s.BanksSound) (number : Nat) (c : Capture) : (s.takeRoundOpen number c).BanksSound := by
  unfold State.takeRoundOpen
  dsimp only
  have hopened : (s.onLiu fun l => l.openRound c.rt s.orh.params.lossTimeout).BanksSound := h.of_eq rfl rfl rfl
  refine (State.takeArmed_banksSound hopened .roundOpen c.instant).restated ?_ (.of_eq (by simp))
  rw [State.onLiu_lys]
  exact .trans (.of_eq (by simp)) (State.judgeRound_restated ..)

theorem State.takeIndication_lys_restated (s : State) (address code : Nat) (age : Option Nat) (c : Capture)
    (hknown : s.indexOf address ≠ none) : s.lys.Restated (s.takeIndication address code age c).lys := by
  unfold State.takeIndication
  dsimp only
  split
  · split
    · split
      · exact s.validIndication_restated ..
      · exact s.badIndication_restated ..
    · exact .refl _
  · exact absurd ‹_› hknown

/-- An unknown address joins the list or does not, and the staging banks stand (R69). -/
theorem State.unknownAddress_banks (s : State) (address : Nat) (command : Bool) (code : Nat) (date : Date) (flags : Flags) :
    (s.unknownAddress address command code date flags).lys.stagingElements = s.lys.stagingElements ∧
      (s.unknownAddress address command code date flags).lys.stagingPoints = s.lys.stagingPoints := by
  unfold State.unknownAddress
  split
  · exact ⟨rfl, rfl⟩
  · exact ⟨rfl, rfl⟩

theorem State.Acts.banksSound {wf : Prop} {s t : State} (h : s.Acts wf t) (hs : s.BanksSound) : t.BanksSound := by
  cases h with
  | roundOpen number c => exact State.takeRoundOpen_banksSound hs number c
  | lineReset c => exact hs.restated (s.takeLineReset_restated c) (.of_eq (by simp))
  | command address code c =>
    unfold State.takeCommand
    split
    · split
      · split
        · exact hs.restated (s.validCommand_restated ..) (.of_eq (by simp))
        · exact hs.restated (s.badCommand_restated ..) (.of_eq (by simp))
      · exact hs
    · exact hs.of_eq (s.unknownAddress_banks ..).1 (s.unknownAddress_banks ..).2 (by simp)
  | indication address code age c =>
    cases hknown : s.indexOf address with
    | some index => exact hs.restated (s.takeIndication_lys_restated address code age c (by simp [hknown])) (s.takeIndication_worked ..).frame
    | none =>
      simp only [State.takeIndication, hknown]
      exact hs.of_eq (s.unknownAddress_banks ..).1 (s.unknownAddress_banks ..).2 (by simp)
  | timeSet ms offset => exact hs.restated (.of_eq (by simp)) (s.setTime_replaned ms offset)
  | seasonScheduled offset minute => exact hs.restated (.of_eq (by simp)) (State.takeSeason_replaned (s.onTbu _))
  | parameter parameter value date fits =>
    unfold State.setParameter State.takeUp
    dsimp only
    split
    · exact hs.of_eq (by simp) (by simp) (by simp)
    · split
      · exact State.takeLoss_banksSound (hs.of_eq rfl rfl rfl)
      · exact hs.of_eq rfl rfl rfl
  | elementPut index address kind limit cls e fits => exact { hs with elements := Bank.wf_put hs.elements (by omega) e }
  | elementRemoved index => exact { hs with elements := Bank.wf_remove hs.elements index }
  | pointPut index p fits => exact { hs with points := Bank.wf_put hs.points (by omega) p }
  | pointRemoved index => exact { hs with points := Bank.wf_remove hs.points index }
  | entriesWritten first entries fits => exact { hs with timetable := writeEntries_wf entries hs.timetable fits }
  | applied scope c => exact State.takeApply_banksSound hs scope _ _
  | slotWritten k target action train point booked mask act => exact hs.of_eq (by simp) (by simp) (s.writeSlot_staging k target act)
  | slotCleared k => exact hs.of_eq (by simp) (by simp) (s.clearSlot_staging k)
  | restarted c =>
    obtain ⟨l, hl, hlys⟩ := State.restartField_lys (s.write s.restartRecord c.date) c.instant
    have hlys : (s.warmRestart c).lys = { l with unknown := [], armed := none } := by simpa [State.warmRestart] using hlys
    exact hs.of_eq (by rw [hlys, hl.frame]; rfl) (by rw [hlys, hl.frame]; rfl) (by simp)
  | mark => exact hs.restated (.of_eq (by simp)) s.takeMark_replaned
  | loss => exact State.takeLoss_banksSound hs
  | season => exact hs.restated (.of_eq (by simp)) s.takeSeason_replaned
  | sweep => exact hs.restated (.of_eq (by simp)) (State.sweepEvent_worked (s.onClk _)).frame
  | abandon k r opened due => exact hs.restated (s.closeMovement_restated ..) (.of_eq (by simp))
  | _ => exact hs.of_eq (by simp) (by simp) (by simp)

theorem step_keeps_banksSound {s t : State} (h : step s = .next t) (hs : s.BanksSound) : t.BanksSound := by
  refine step_keeps (P := State.BanksSound) False (fun _ _ _ h => h.of_eq rfl rfl rfl) (fun s h => h.of_eq rfl rfl rfl)
    (fun c s t _ hexec hs => ?_) False.elim h hs
  exact exec_keeps (P := State.BanksSound) False (fun s t h hs => hs.of_eq (by rw [h]; rfl) (by rw [h]; rfl) (by rw [h]; rfl))
    (fun s t h hs => h.banksSound hs) (fun s straps rate _ => ⟨rfl, rfl, rfl⟩) False.elim hexec hs

/-- Settles O25: put and remove by induction on the bank; every step keeps the three banks canonical. -/
theorem stagingBankReadsBack : Obligations.StagingBankReadsBack :=
  ⟨fun _ i j e b hwf hi => ⟨Bank.wf_put hwf hi e, Bank.wf_remove hwf i, Bank.get?_put b i j e, Bank.get?_remove b i j⟩,
    ⟨rfl, rfl, rfl⟩, fun _ _ hs h => step_keeps_banksSound h hs⟩

end Sys2Proof.Machine
end

section
/-! What the checks of an APPLY that pass say of the staging banks (R72). -/

namespace Sys2Proof.Machine

/-! ### Active banks with their indexes -/

theorem Bank.get?_indexed {α : Type} (k i : Nat) (l : List α) : (indexed k l).get? i = if k ≤ i then l[i - k]? else none := by
  induction l generalizing k with
  | nil => simp [indexed, Bank.get?]
  | cons x rest ih =>
    simp only [indexed, Bank.get?, ih]
    obtain hlt | rfl | hgt := lt_trichotomy i k
    · rw [if_neg (by omega), if_neg (by omega), if_neg (by omega)]
    · simp
    · rw [if_neg (by omega), if_pos (by omega), if_pos (by omega), show i - k = (i - (k + 1)) + 1 by omega, List.getElem?_cons_succ]

theorem Bank.get?_indexed_zero {α : Type} (i : Nat) (l : List α) : (indexed 0 l).get? i = l[i]? := by
  rw [Bank.get?_indexed, if_pos (Nat.zero_le _), Nat.sub_zero]

theorem Bank.values_indexed {α : Type} (k : Nat) (l : List α) : (indexed k l).values = l := by
  induction l generalizing k with
  | nil => rfl
  | cons x rest ih =>
    simp only [indexed, Bank.values, List.map_cons]
    exact congrArg (x :: ·) (ih (k + 1))

/-! ### The checks that pass -/

/-- The element checks pass where the bank is used from its start on and its addresses rise (R72). -/
theorem checkElements_eq_none {k before : Nat} {b : Bank Element} (h : checkElements k before b = none) :
    b = indexed k b.values ∧ (before :: b.values.map (·.address)).Pairwise (· < ·) := by
  induction b generalizing k before with
  | nil => exact ⟨rfl, List.pairwise_singleton ..⟩
  | cons x rest ih =>
    obtain ⟨i, e⟩ := x
    simp only [checkElements] at h
    split at h
    · cases h
    · split at h
      · cases h
      · rename_i hi hbefore
        obtain rfl := not_ne_iff.mp hi
        obtain ⟨hindexed, hrising⟩ := ih h
        have hlt : before < e.address := by omega
        refine ⟨congrArg (_ :: ·) hindexed, List.pairwise_cons.mpr ⟨fun a ha => ?_, hrising⟩⟩
        obtain rfl | ha := List.mem_cons.mp ha
        · exact hlt
        · exact hlt.trans ((List.pairwise_cons.mp hrising).1 a ha)

theorem checkPoints_eq_none {elements : Bank Element} {k : Nat} {b : Bank TimingPoint} (h : checkPoints elements k b = none) :
    b = indexed k b.values ∧ ∀ p ∈ b.values, linksOk elements p = true := by
  induction b generalizing k with
  | nil => exact ⟨rfl, by simp [Bank.values]⟩
  | cons x rest ih =>
    obtain ⟨i, p⟩ := x
    simp only [checkPoints] at h
    split at h
    · cases h
    · split at h
      · cases h
      · rename_i hi hlinks
        obtain rfl := not_ne_iff.mp hi
        obtain ⟨hindexed, hall⟩ := ih h
        refine ⟨congrArg (_ :: ·) hindexed, fun q hq => ?_⟩
        obtain rfl | hq := List.mem_cons.mp hq
        · simpa using hlinks
        · exact hall q hq

theorem checkTimetable_eq_none {points k before : Nat} {b : Bank TimetableEntry} (h : checkTimetable points k before b = none) :
    b = indexed k b.values ∧ (before :: b.values.map (·.booked)).Pairwise (· ≤ ·) ∧ ∀ e ∈ b.values, e.point < points := by
  induction b generalizing k before with
  | nil => exact ⟨rfl, List.pairwise_singleton .., by simp [Bank.values]⟩
  | cons x rest ih =>
    obtain ⟨i, e⟩ := x
    simp only [checkTimetable] at h
    split at h
    · cases h
    · split at h
      · cases h
      · split at h
        · cases h
        · rename_i hi hbefore hpoint
          obtain rfl := not_ne_iff.mp hi
          obtain ⟨hindexed, hrising, hall⟩ := ih h
          have hle : before ≤ e.booked := by omega
          refine ⟨congrArg (_ :: ·) hindexed, List.pairwise_cons.mpr ⟨fun a ha => ?_, hrising⟩, fun q hq => ?_⟩
          · obtain rfl | ha := List.mem_cons.mp ha
            · exact hle
            · exact hle.trans ((List.pairwise_cons.mp hrising).1 a ha)
          · obtain rfl | hq := List.mem_cons.mp hq
            · exact not_le.mp hpoint
            · exact hall q hq

/-- The overlay check passes where every REPLACE slot names a timing point (R72). -/
theorem checkOverlay_eq_none_iff (points k : Nat) (l : List (Option OverlaySlot)) :
    checkOverlay points k l = none ↔
      ∀ target train point booked mask, some { target := target, action := .replace train point booked mask } ∈ l → point < points := by
  induction l generalizing k with
  | nil => simp [checkOverlay]
  | cons x rest ih =>
    match x with
    | none => simp [checkOverlay, ih]
    | some { target := target, action := .cancel } => simp [checkOverlay, ih]
    | some { target := target, action := .replace train point booked mask } =>
      simp only [checkOverlay, List.mem_cons]
      split
      · rename_i hle
        simp only [reduceCtorEq, false_iff]
        intro hall
        exact absurd (hall target train point booked mask (.inl rfl)) (by omega)
      · rename_i hlt
        rw [ih]
        constructor
        · rintro hrest target' train' point' booked' mask' (heq | hmem)
          · cases heq
            omega
          · exact hrest _ _ _ _ _ hmem
        · exact fun hall target' train' point' booked' mask' hmem => hall _ _ _ _ _ (.inr hmem)

/-- A slot is one of the overlay's. -/
theorem Ttc.mem_overlay_of_slot {t : Ttc} {k : Nat} {x : OverlaySlot} (h : t.slot k = some x) : some x ∈ t.overlay :=
  List.mem_of_getElem? (Option.join_eq_some_iff.mp h)

theorem Ttc.slot_of_mem_overlay {t : Ttc} {x : OverlaySlot} (h : some x ∈ t.overlay) : ∃ k, t.slot k = some x := by
  obtain ⟨k, hk⟩ := List.mem_iff_getElem?.mp h
  exact ⟨k, by rw [Ttc.slot, hk]; rfl⟩

/-- Links that pass are those of R60. -/
theorem linksOk_iff (elements : Bank Element) (p : TimingPoint) :
    linksOk elements p = true ↔ (∃ e, elements.get? p.sect = some e ∧ e.kind = .sect) ∧
      ∀ x, p.signal = some x → ∃ e, elements.get? x = some e ∧ e.kind = .signal := by
  unfold linksOk
  rw [Bool.and_eq_true]
  refine and_congr ?_ ?_
  · cases elements.get? p.sect <;> simp
  · cases p.signal with
    | none => simp
    | some x => cases h : elements.get? x <;> simp [h]

/-! ### What validation reads -/

/-- Validation reads the staging banks, the active timetable, the slots and the count of timing points. -/
theorem State.validate_congr {s t : State} (helements : t.lys.stagingElements = s.lys.stagingElements)
    (hpoints : t.lys.stagingPoints = s.lys.stagingPoints) (htimetable : t.ttc.staging = s.ttc.staging)
    (hentries : t.ttc.entries = s.ttc.entries) (hoverlay : t.ttc.overlay = s.ttc.overlay)
    (hcount : t.psd.points.length = s.psd.points.length) (scope : Scope) : t.validate scope = s.validate scope := by
  cases scope <;> simp only [State.validate, helements, hpoints, htimetable, hentries, hoverlay, hcount]

end Sys2Proof.Machine
end

section
/-! The active banks, the timetable and what is armed, sound after every step (R58 to R77, R122, R147). -/

namespace Sys2Proof.Machine

/-- The layout and the timetable, in the terms of what they are read from. -/
theorem linksIn_congr {elements elements' : List LiveElement} (h : elements'.map (·.entry) = elements.map (·.entry)) {p : TimingPoint}
    (hp : linksIn elements p) : linksIn elements' p := by
  have hat : ∀ (i : Nat) (P : Element → Prop), (∃ e, elements[i]? = some e ∧ P e.entry) → ∃ e, elements'[i]? = some e ∧ P e.entry := by
    rintro i P ⟨e, he, hP⟩
    have hi : (elements'.map (·.entry))[i]? = some e.entry := by rw [h, List.getElem?_map, he]; rfl
    rw [List.getElem?_map, Option.map_eq_some_iff] at hi
    obtain ⟨e', he', heq⟩ := hi
    exact ⟨e', he', heq ▸ hP⟩
  obtain ⟨hsect, hsignal⟩ := hp
  exact ⟨hat p.sect (·.kind = .sect) hsect, fun x hx => hat x (·.kind = .signal) (hsignal x hx)⟩

/-- Work on the element states, the point records and the planes keeps the layout sound, whatever becomes of the unknown-address list within its
size. -/
theorem State.LayoutSound.restated {s t : State} (h : s.LayoutSound) {l : Lys} (hlys : s.lys.Restated l)
    (hframe : t.lys = { l with unknown := t.lys.unknown }) (hunknown : t.lys.unknown.length ≤ 32 ∧ t.lys.unknown.Nodup)
    (hpsd : s.psd.Restated t.psd) (httc : s.ttc.Replaned t.ttc) : t.LayoutSound := by
  have helements : t.lys.elements.map (·.entry) = s.lys.elements.map (·.entry) := by rw [hframe]; exact hlys.entries
  have hslot : ∀ k, t.ttc.slot k = s.ttc.slot k := fun k => by rw [httc]; rfl
  have haddress : t.lys.elements.map (·.entry.address) = s.lys.elements.map (·.entry.address) := by
    simpa [Function.comp_def] using congrArg (List.map (·.address)) helements
  exact {
    rising := haddress ▸ h.rising
    addresses := fun e he => by
      have hmem := List.mem_map_of_mem (f := (·.entry)) he
      rw [helements] at hmem
      obtain ⟨e', he', heq⟩ := List.mem_map.mp hmem
      rw [← heq]
      exact h.addresses e' he'
    links := fun p hp => by
      obtain ⟨q, hq, heq⟩ := hpsd.mem hp
      exact heq ▸ linksIn_congr helements (h.links q hq)
    booked := by rw [httc.entries]; exact h.booked
    entries := by rw [httc.entries, hpsd.length]; exact h.entries
    slots := fun k target train point booked mask hk => by
      rw [hpsd.length]
      exact h.slots k target train point booked mask (hslot k ▸ hk)
    staging := by rw [hframe, hlys.frame]; exact h.staging
    unknown := hunknown
    armed := fun scope harmed => by
      have harmed : s.lys.armed = some scope := by rw [hframe, hlys.frame] at harmed; exact harmed
      rw [← h.armed scope harmed]
      exact State.validate_congr (by rw [hframe, hlys.frame]) (by rw [hframe, hlys.frame]) httc.staging httc.entries httc.overlay hpsd.length scope }

theorem State.LayoutSound.worked {s t : State} (h : s.LayoutSound) (hlys : s.lys.Restated t.lys) (hpsd : s.psd.Restated t.psd)
    (httc : s.ttc.Replaned t.ttc) : t.LayoutSound :=
  h.restated hlys rfl (by rw [hlys.frame]; exact h.unknown) hpsd httc

theorem State.LayoutSound.of_eq {s t : State} (h : s.LayoutSound) (hlys : t.lys = s.lys) (hpsd : t.psd = s.psd) (httc : t.ttc = s.ttc) :
    t.LayoutSound := h.worked (.of_eq hlys) (.of_eq hpsd) (.of_eq httc)

/-! ### An APPLY that has passed (R72, R74 to R77) -/

theorem carryElements_entries (old : List LiveElement) (new : List Element) (rt : Nat) :
    (carryElements old new rt).map (·.entry) = new := by
  unfold carryElements
  rw [List.map_map]
  conv_rhs => rw [← List.map_id new]
  refine List.map_congr_left fun e _ => ?_
  simp only [Function.comp_apply, id_eq]
  split <;> rfl

theorem matchPoints_length (oldElements newElements : List Element) (old : List LivePoint) (taken : List Nat) (new : List TimingPoint) :
    (matchPoints oldElements newElements old taken new).length = new.length := by
  induction new generalizing taken with
  | nil => rfl
  | cons p rest ih =>
    simp only [matchPoints]
    split <;> simp [ih]

theorem carryPoints_entries (old : List LivePoint) {new : List TimingPoint} {matched : List (Option Nat)} (h : matched.length = new.length) :
    (carryPoints old new matched).map (·.entry) = new := by
  rw [carryPoints, List.map_map]
  exact List.map_fst_zip h.ge

theorem State.matchedPoints_length (s : State) : s.matchedPoints.length = s.lys.stagingPoints.values.length := matchPoints_length ..

/-- The active banks after a LAYOUT apply are the staging banks (R75). -/
theorem State.applyLayout_entries (s : State) (ending : Instant) :
    (s.applyLayout ending).lys.elements.map (·.entry) = s.lys.stagingElements.values ∧
      (s.applyLayout ending).psd.points.map (·.entry) = s.lys.stagingPoints.values := by
  rw [State.applyLayout_lys, State.applyLayout_psd]
  generalize s.carryMovements s.lys.stagingElements.values ending = carried
  exact ⟨carryElements_entries .., carryPoints_entries _ s.matchedPoints_length⟩

/-- What a TIMETABLE apply makes of the timetable check, but for the planes (R146). -/
theorem State.applyTimetable_replaned (s : State) : s.renewedTtc.Replaned s.applyTimetable.ttc := by
  unfold State.applyTimetable
  dsimp only
  split <;> rfl

theorem State.renewedTtc_slot (s : State) (k : Nat) : s.renewedTtc.slot k = none := by
  simp only [State.renewedTtc, Ttc.slot, List.getElem?_replicate]
  split <;> rfl

/-- The active banks keep what R72 checks. -/
structure BanksPassed (elements : List Element) (points : List TimingPoint) (entries : List TimetableEntry)
    (slot : Nat → Option OverlaySlot) : Prop where
  rising : (elements.map (·.address)).Pairwise (· < ·)
  addresses : ∀ e ∈ elements, 1 ≤ e.address ∧ e.address ≤ 3999
  links : ∀ p ∈ points, (∃ e, elements[p.sect]? = some e ∧ e.kind = .sect) ∧
    ∀ x, p.signal = some x → ∃ e, elements[x]? = some e ∧ e.kind = .signal
  booked : (entries.map (·.booked)).Pairwise (· ≤ ·)
  entries : ∀ e ∈ entries, e.point < points.length
  slots : ∀ k target train point booked mask,
    slot k = some { target := target, action := .replace train point booked mask } → point < points.length

/-- With nothing armed and the unknown-address list within its size, the layout is sound where its active banks have passed. -/
theorem State.layoutSound_of_passed {t : State}
    (h : BanksPassed (t.lys.elements.map (·.entry)) (t.psd.points.map (·.entry)) t.ttc.entries t.ttc.slot)
    (hstaging : ∀ i e, (i, e) ∈ t.lys.stagingElements → 1 ≤ e.address ∧ e.address ≤ 3999)
    (hunknown : t.lys.unknown.length ≤ 32 ∧ t.lys.unknown.Nodup) (harmed : t.lys.armed = none) : t.LayoutSound where
  rising := by simpa [Function.comp_def] using h.rising
  addresses := fun e he => h.addresses e.entry (List.mem_map_of_mem (f := (·.entry)) he)
  links := fun p hp => by
    obtain ⟨hsect, hsignal⟩ := h.links p.entry (List.mem_map_of_mem (f := (·.entry)) hp)
    have hat : ∀ (i : Nat) (kind : ElementKind), (∃ e, (t.lys.elements.map (·.entry))[i]? = some e ∧ e.kind = kind) →
        ∃ e, t.lys.elements[i]? = some e ∧ e.entry.kind = kind := by
      rintro i kind ⟨e, he, hkind⟩
      rw [List.getElem?_map, Option.map_eq_some_iff] at he
      obtain ⟨e', he', rfl⟩ := he
      exact ⟨e', he', hkind⟩
    exact ⟨hat _ _ hsect, fun x hx => hat _ _ (hsignal x hx)⟩
  booked := h.booked
  entries := by simpa using h.entries
  slots := by simpa using h.slots
  staging := hstaging
  unknown := hunknown
  armed := fun scope hscope => by rw [harmed] at hscope; cases hscope

theorem State.LayoutSound.passed {s : State} (h : s.LayoutSound) :
    BanksPassed (s.lys.elements.map (·.entry)) (s.psd.points.map (·.entry)) s.ttc.entries s.ttc.slot where
  rising := by simpa [Function.comp_def] using h.rising
  addresses := fun e he => by
    obtain ⟨e', he', rfl⟩ := List.mem_map.mp he
    exact h.addresses e' he'
  links := fun p hp => by
    obtain ⟨q, hq, rfl⟩ := List.mem_map.mp hp
    obtain ⟨⟨e, he, hkind⟩, hsignal⟩ := h.links q hq
    refine ⟨⟨e.entry, by rw [List.getElem?_map, he]; rfl, hkind⟩, fun x hx => ?_⟩
    obtain ⟨e, he, hkind⟩ := hsignal x hx
    exact ⟨e.entry, by rw [List.getElem?_map, he]; rfl, hkind⟩
  booked := h.booked
  entries := by simpa using h.entries
  slots := by simpa using h.slots

section
variable {s : State}

theorem Bank.values_length {α : Type} (b : Bank α) : b.values.length = b.length := List.length_map ..

/-- The staging element and timing point banks that pass (R72). -/
theorem State.staged_passed (hstaging : ∀ i e, (i, e) ∈ s.lys.stagingElements → 1 ≤ e.address ∧ e.address ≤ 3999)
    (helements : checkElements 0 0 s.lys.stagingElements = none) (hpoints : checkPoints s.lys.stagingElements 0 s.lys.stagingPoints = none)
    {entries : List TimetableEntry} {slot : Nat → Option OverlaySlot} (hbooked : (entries.map (·.booked)).Pairwise (· ≤ ·))
    (hentries : ∀ e ∈ entries, e.point < s.lys.stagingPoints.length)
    (hslots : ∀ k target train point booked mask,
      slot k = some { target := target, action := .replace train point booked mask } → point < s.lys.stagingPoints.length) :
    BanksPassed s.lys.stagingElements.values s.lys.stagingPoints.values entries slot := by
  obtain ⟨hindexed, hrising⟩ := checkElements_eq_none helements
  obtain ⟨-, hlinks⟩ := checkPoints_eq_none hpoints
  have hat : ∀ i, s.lys.stagingElements.get? i = s.lys.stagingElements.values[i]? := fun i => by
    rw [← Bank.get?_indexed_zero, ← hindexed]
  exact {
    rising := (List.pairwise_cons.mp hrising).2
    addresses := fun e he => by
      obtain ⟨⟨i, e⟩, hmem, rfl⟩ := List.mem_map.mp he
      exact hstaging i e hmem
    links := fun p hp => by
      have h := (linksOk_iff _ _).mp (hlinks p hp)
      simpa only [hat] using h
    booked := hbooked
    entries := by rw [Bank.values_length]; exact hentries
    slots := by rw [Bank.values_length]; exact hslots }

/-- Where an APPLY's validation has passed, its taking effect leaves the layout sound (R72, R75, R146). -/
theorem State.takeApply_layoutSound (h : s.LayoutSound) {scope : Scope} (hvalid : s.validate scope = none) (trigger : ApplyTrigger)
    (ending : Instant) : (s.takeApply scope trigger ending).LayoutSound := by
  unfold State.takeApply
  extract_lets s1 s2 s3
  have hs1 : s1.lys = s.lys ∧ s1.psd = s.psd ∧ s1.ttc = s.ttc := ⟨rfl, rfl, rfl⟩
  clear_value s1
  obtain ⟨hlys1, hpsd1, httc1⟩ := hs1
  have hunknown : s2.lys.unknown.length ≤ 32 ∧ s2.lys.unknown.Nodup := by
    simp only [s2]
    split
    · rw [State.applyLayout_lys]
      exact ⟨Nat.zero_le _, List.nodup_nil⟩
    · rw [hlys1]
      exact h.unknown
  have hbanks2 : s2.lys.stagingElements = s.lys.stagingElements := by
    simp only [s2]
    split
    · rw [(s1.applyLayout_banks ending).1, hlys1]
    · rw [hlys1]
  have httc2 : s2.ttc = s.ttc := by
    simp only [s2]
    split <;> simp [httc1]
  have h3 : s3.lys = s2.lys ∧ s3.psd = s2.psd := by
    simp only [s3]
    split <;> simp
  have hentries2 : scope.hasLayout = true →
      s2.lys.elements.map (·.entry) = s.lys.stagingElements.values ∧ s2.psd.points.map (·.entry) = s.lys.stagingPoints.values := by
    intro hlayout
    simp only [s2, hlayout, if_true, ← hlys1]
    exact s1.applyLayout_entries ending
  have hrenewed : scope.hasTimetable = true → s3.ttc.entries = s.ttc.staging.values ∧ ∀ k, s3.ttc.slot k = none := by
    intro htimetable
    have hreplaned := s2.applyTimetable_replaned
    simp only [s3, htimetable, if_true]
    refine ⟨by rw [hreplaned.entries, ← httc2]; rfl, fun k => ?_⟩
    rw [hreplaned]
    exact s2.renewedTtc_slot k
  have hpassed : BanksPassed (s3.lys.elements.map (·.entry)) (s3.psd.points.map (·.entry)) s3.ttc.entries s3.ttc.slot := by
    rw [h3.1, h3.2]
    cases scope with
    | layout =>
      simp only [State.validate, Option.or_eq_none_iff] at hvalid
      obtain ⟨helements, hpoints, htimetable, hoverlay⟩ := hvalid
      obtain ⟨-, -, hentries⟩ := checkTimetable_eq_none htimetable
      rw [Bank.values_indexed] at hentries
      rw [(hentries2 rfl).1, (hentries2 rfl).2, show s3.ttc = s.ttc from httc2]
      refine State.staged_passed h.staging helements hpoints h.booked hentries fun k target train point booked mask hk => ?_
      exact (checkOverlay_eq_none_iff _ _ _).mp hoverlay _ _ _ _ _ (Ttc.mem_overlay_of_slot hk)
    | timetable =>
      obtain ⟨-, hbooked, hentries⟩ := checkTimetable_eq_none hvalid
      have h2 : s2.lys = s.lys ∧ s2.psd = s.psd := ⟨hlys1, hpsd1⟩
      rw [h2.1, h2.2, (hrenewed rfl).1]
      exact { h.passed with
        booked := (List.pairwise_cons.mp hbooked).2
        entries := by simpa using hentries
        slots := fun k target train point booked mask hk => by rw [(hrenewed rfl).2] at hk; cases hk }
    | both =>
      simp only [State.validate, Option.or_eq_none_iff] at hvalid
      obtain ⟨helements, hpoints, htimetable⟩ := hvalid
      obtain ⟨-, hbooked, hentries⟩ := checkTimetable_eq_none htimetable
      rw [(hentries2 rfl).1, (hentries2 rfl).2, (hrenewed rfl).1]
      refine State.staged_passed h.staging helements hpoints (List.pairwise_cons.mp hbooked).2 hentries ?_
      intro k target train point booked mask hk
      rw [(hrenewed rfl).2] at hk
      cases hk
  have hbanks3 : s3.lys.stagingElements = s.lys.stagingElements := by rw [h3.1, hbanks2]
  have hunknown3 : s3.lys.unknown.length ≤ 32 ∧ s3.lys.unknown.Nodup := by rw [h3.1]; exact hunknown
  clear_value s3
  exact State.layoutSound_of_passed hpassed (hbanks3.symm ▸ h.staging) hunknown3 rfl

end

end Sys2Proof.Machine
end

section
/-! The layout and the timetable after every step: every operation of an owner keeps them sound (R58 to R77, R122, R147). -/

namespace Sys2Proof.Machine

/-! ### What is armed takes effect (R74) -/

theorem State.takeArmed_layoutSound {s : State} (h : s.LayoutSound) (trigger : ApplyTrigger) (ending : Instant) :
    (s.takeArmed trigger ending).LayoutSound := by
  unfold State.takeArmed
  split
  · rename_i scope harmed
    exact State.takeApply_layoutSound h (h.armed scope harmed) trigger ending
  · exact h

theorem State.takeLoss_layoutSound {s : State} (h : s.LayoutSound) : s.takeLoss.LayoutSound := by
  unfold State.takeLoss
  split
  · unfold State.loseLine
    extract_lets s1 s2
    have hlys : s2.lys.Restated (s2.lineKnowledgeLost s.nowInstant).lys := s2.lineKnowledgeLost_restated _
    have hlys : s.lys.Restated (s2.lineKnowledgeLost s.nowInstant).lys := hlys
    exact State.takeArmed_layoutSound (h.worked hlys (.of_eq (by simp [s2, s1])) (.of_eq (by simp [s2, s1]))) _ _
  · exact h

theorem State.takeRoundOpen_layoutSound {s : State} (h : s.LayoutSound) (number : Nat) (c : Capture) :
    (s.takeRoundOpen number c).LayoutSound := by
  unfold State.takeRoundOpen
  dsimp only
  have hopened : (s.onLiu fun l => l.openRound c.rt s.orh.params.lossTimeout).LayoutSound := h.of_eq rfl rfl rfl
  refine (State.takeArmed_layoutSound hopened .roundOpen c.instant).worked ?_ (.of_eq (by simp)) (.of_eq (by simp))
  rw [State.onLiu_lys]
  exact .trans (.of_eq (by simp)) (State.judgeRound_restated ..)

/-! ### Unknown addresses (R69) -/

theorem State.unknownAddress_layoutSound {s : State} (h : s.LayoutSound) (address : Nat) (command : Bool) (code : Nat) (date : Date)
    (flags : Flags) : (s.unknownAddress address command code date flags).LayoutSound := by
  unfold State.unknownAddress
  split
  · exact h
  · rename_i hnew
    simp only [Bool.or_eq_true, decide_eq_true_eq, not_or, not_le] at hnew
    obtain ⟨hfresh, hroom⟩ := hnew
    obtain ⟨hlength, hnodup⟩ := h.unknown
    refine h.restated (.refl s.lys) rfl ?_ (.refl _) (.refl _)
    refine ⟨by simpa [unknownSize] using hroom, List.nodup_append.mpr ⟨hnodup, List.nodup_singleton _, fun a ha b hb => ?_⟩⟩
    obtain rfl := List.mem_singleton.mp hb
    rintro rfl
    exact hfresh (by simpa using ha)

/-! ### The staging writes, with nothing armed (R73) -/

/-- A staging bank written while nothing is armed leaves the layout sound. -/
theorem State.LayoutSound.staged {s t : State} (h : s.LayoutSound) (hunarmed : s.lys.armed = none)
    (hlys : ∃ elements points, t.lys = { s.lys with stagingElements := elements, stagingPoints := points } ∧
      ∀ i e, (i, e) ∈ elements → 1 ≤ e.address ∧ e.address ≤ 3999)
    (hpsd : t.psd = s.psd) (hentries : t.ttc.entries = s.ttc.entries) (hoverlay : t.ttc.overlay = s.ttc.overlay) : t.LayoutSound := by
  obtain ⟨elements, points, hlys, hstaging⟩ := hlys
  refine State.layoutSound_of_passed ?_ ?_ ?_ ?_
  · rw [hlys, hpsd, hentries, show t.ttc.slot = s.ttc.slot from funext fun k => by rw [Ttc.slot, hoverlay]; rfl]
    exact h.passed
  · rw [hlys]
    exact hstaging
  · rw [hlys]
    exact h.unknown
  · rw [hlys]
    exact hunarmed

theorem writtenElement_address {address kind limit cls : Nat} {e : Element} (h : writtenElement address kind limit cls = some e) :
    1 ≤ e.address ∧ e.address ≤ 3999 := by
  unfold writtenElement at h
  split at h
  · split at h
    · rename_i haddress
      cases h
      exact haddress
    · cases h
  · cases h

/-! ### The overlay (R142 to R147) -/

/-- A change of one overlay slot to one that passes the checks, armed ones too, leaves the layout sound. -/
theorem State.LayoutSound.reslotted {s t : State} (h : s.LayoutSound) (hlys : t.lys = s.lys) (hpsd : t.psd = s.psd)
    (hentries : t.ttc.entries = s.ttc.entries) (hstaging : t.ttc.staging = s.ttc.staging)
    (hslots : ∀ k target train point booked mask,
      t.ttc.slot k = some { target := target, action := .replace train point booked mask } →
        s.ttc.slot k = some { target := target, action := .replace train point booked mask } ∨
          (point < s.psd.points.length ∧ (layoutArmed s.lys.armed = true → point < s.lys.stagingPoints.length))) : t.LayoutSound where
  rising := hlys ▸ h.rising
  addresses := hlys ▸ h.addresses
  links := by rw [hlys, hpsd]; exact h.links
  booked := hentries ▸ h.booked
  entries := by rw [hentries, hpsd]; exact h.entries
  slots := fun k target train point booked mask hk => by
    rw [hpsd]
    obtain hk | ⟨hpoint, -⟩ := hslots k target train point booked mask hk
    · exact h.slots k target train point booked mask hk
    · exact hpoint
  staging := hlys ▸ h.staging
  unknown := hlys ▸ h.unknown
  armed := fun scope harmed => by
    rw [hlys] at harmed
    have hvalid := h.armed scope harmed
    cases scope with
    | layout =>
      simp only [State.validate, Option.or_eq_none_iff, hlys, hentries] at hvalid ⊢
      obtain ⟨helements, hpoints, htimetable, hoverlay⟩ := hvalid
      refine ⟨helements, hpoints, htimetable, (checkOverlay_eq_none_iff _ _ _).mpr fun target train point booked mask hmem => ?_⟩
      obtain ⟨k, hk⟩ := Ttc.slot_of_mem_overlay hmem
      obtain hk | ⟨-, hpoint⟩ := hslots k target train point booked mask hk
      · exact (checkOverlay_eq_none_iff _ _ _).mp hoverlay _ _ _ _ _ (Ttc.mem_overlay_of_slot hk)
      · exact hpoint (by rw [harmed]; rfl)
    | timetable => simpa only [State.validate, hpsd, hstaging] using hvalid
    | both => simpa only [State.validate, hlys, hstaging] using hvalid

/-- A slot whose content is set, where it has a place; the others are as they were. -/
theorem Ttc.slot_set_cases (t : Ttc) (k j : Nat) (x : Option OverlaySlot) :
    ({ t with overlay := t.overlay.set k x } : Ttc).slot j = t.slot j ∨
      (j = k ∧ ({ t with overlay := t.overlay.set k x } : Ttc).slot j = x) := by
  by_cases hk : k < t.overlay.length
  · rw [Ttc.slot_set t hk]
    split
    · rename_i heq
      exact .inr ⟨heq, rfl⟩
    · exact .inl rfl
  · exact .inl (by simp only [Ttc.slot, List.set_eq_of_length_le (not_lt.mp hk)])

theorem State.clearSlot_layoutSound {s : State} (h : s.LayoutSound) (k : Nat) : (s.clearSlot k).LayoutSound := by
  unfold State.clearSlot
  split
  · rename_i x _
    have hreleased := s.releaseTarget_replaned x.target
    refine h.reslotted (by simp) (by simp) hreleased.entries hreleased.staging fun j target train point booked mask hj => .inl ?_
    rw [State.onTtc_ttc] at hj
    obtain heq | ⟨-, heq⟩ := (s.releaseTarget x.target).ttc.slot_set_cases k j none
    · rw [heq, hreleased] at hj
      exact hj
    · rw [heq] at hj
      cases hj
  · exact h

theorem State.overlayAction_replace {s : State} {action : Nat} {train : TrainNumber} {point booked mask : Nat} {train' : TrainNumber}
    {point' booked' mask' : Nat} (h : s.overlayAction action train point booked mask = some (.replace train' point' booked' mask')) :
    point' < s.psd.points.length := by
  unfold State.overlayAction at h
  split at h
  · split at h
    · rename_i hfits
      cases h
      exact hfits.2.1
    · cases h
  · cases h
  · cases h

theorem State.writeSlot_layoutSound {s : State} (h : s.LayoutSound) {k target : Nat} {act : OverlayAction}
    (hpoint : ∀ train point booked mask, act = .replace train point booked mask → point < s.psd.points.length)
    (hallowed : s.overlayBarred k target act = false) : (s.writeSlot k target act).LayoutSound := by
  unfold State.writeSlot
  extract_lets s1
  have hreleased : s.ttc.Replaned s1.ttc := by
    simp only [s1]
    split
    · split
      · exact .refl _
      · exact s.releaseTarget_replaned _
    · exact .refl _
  have hs1 : s1.lys = s.lys ∧ s1.psd = s.psd := by
    simp only [s1]
    split
    · split <;> simp
    · exact ⟨rfl, rfl⟩
  refine h.reslotted hs1.1 hs1.2 hreleased.entries hreleased.staging fun j target' train point booked mask hj => ?_
  rw [State.onTtc_ttc] at hj
  obtain heq | ⟨-, heq⟩ := s1.ttc.slot_set_cases k j (some { target := target, action := act })
  · rw [heq, hreleased] at hj
    exact .inl hj
  · rw [heq] at hj
    cases hj
    refine .inr ⟨hpoint _ _ _ _ rfl, fun harmed => ?_⟩
    simp only [State.overlayBarred, harmed, Bool.or_eq_false_iff, Bool.true_and, decide_eq_false_iff_not, not_le] at hallowed
    exact hallowed.2

/-! ### Every step -/

theorem State.Acts.layoutSound {wf : Prop} {s t : State} (h : s.Acts wf t) (hs : s.LayoutSound) : t.LayoutSound := by
  cases h with
  | roundOpen number c => exact State.takeRoundOpen_layoutSound hs number c
  | lineReset c => exact hs.worked (s.takeLineReset_restated c) (.of_eq (by simp)) (.of_eq (by simp))
  | command address code c =>
    unfold State.takeCommand
    split
    · split
      · split
        · exact hs.worked (s.validCommand_restated ..) (.of_eq (by simp)) (.of_eq (by simp))
        · exact hs.worked (s.badCommand_restated ..) (.of_eq (by simp)) (.of_eq (by simp))
      · exact hs
    · exact State.unknownAddress_layoutSound hs _ _ _ _ _
  | indication address code age c =>
    cases hknown : s.indexOf address with
    | some index =>
      exact hs.worked (s.takeIndication_lys_restated address code age c (by simp [hknown])) (s.takeIndication_restated ..)
        (s.takeIndication_worked ..).frame
    | none =>
      simp only [State.takeIndication, hknown]
      exact State.unknownAddress_layoutSound hs _ _ _ _ _
  | timeSet ms offset => exact hs.worked (.of_eq (by simp)) (.of_eq (by simp)) (s.setTime_replaned ms offset)
  | seasonScheduled offset minute => exact hs.worked (.of_eq (by simp)) (.of_eq (by simp)) (State.takeSeason_replaned (s.onTbu _))
  | parameter parameter value date fits =>
    unfold State.setParameter State.takeUp
    dsimp only
    split
    · exact hs.of_eq (by simp) (by simp) (by simp)
    · split
      · exact State.takeLoss_layoutSound (hs.of_eq rfl rfl rfl)
      · exact hs.of_eq rfl rfl rfl
  | elementPut index address kind limit cls e fits written unarmed =>
    refine hs.staged unarmed ⟨_, s.lys.stagingPoints, rfl, fun i e' he' => ?_⟩ rfl rfl rfl
    obtain heq | he' := Bank.mem_put he'
    · cases heq
      exact writtenElement_address written
    · exact hs.staging i e' he'
  | elementRemoved index fits unarmed =>
    exact hs.staged unarmed ⟨_, s.lys.stagingPoints, rfl, fun i e he => hs.staging i e (Bank.mem_remove he)⟩ rfl rfl rfl
  | pointPut index p fits unarmed => exact hs.staged unarmed ⟨s.lys.stagingElements, _, rfl, hs.staging⟩ rfl rfl rfl
  | pointRemoved index fits unarmed => exact hs.staged unarmed ⟨s.lys.stagingElements, _, rfl, hs.staging⟩ rfl rfl rfl
  | entriesWritten first entries fits unarmed =>
    exact hs.staged unarmed ⟨s.lys.stagingElements, s.lys.stagingPoints, rfl, hs.staging⟩ rfl rfl rfl
  | armed scope valid =>
    exact { hs with
      armed := fun scope' hscope' => by
        cases hscope'
        exact valid }
  | applied scope c valid => exact State.takeApply_layoutSound hs valid _ _
  | slotWritten k target action train point booked mask act read fits allowed =>
    exact State.writeSlot_layoutSound hs (fun _ _ _ _ hact => State.overlayAction_replace (hact ▸ read)) allowed
  | slotCleared k => exact State.clearSlot_layoutSound hs k
  | trainNamed point p train date => exact hs.worked (.of_eq (by simp)) (s.identTrain_restated ..) (.of_eq (by simp))
  | trainCancelled train => exact hs.worked (.refl _) (Psd.Restated.map s.psd _) (.refl _)
  | trainCancelledAt point train => exact hs.worked (.refl _) (s.onPoint_restated ..) (.refl _)
  | restarted c =>
    obtain ⟨l, hl, hlys⟩ := State.restartField_lys (s.write s.restartRecord c.date) c.instant
    have hlys : (s.warmRestart c).lys = { l with unknown := [], armed := none } := by simpa [State.warmRestart] using hlys
    have hpsd : (s.warmRestart c).psd = { s.psd with points := s.psd.points.map fun p => { p with record := {} } } := by
      simp [State.warmRestart, State.restartField]
    refine State.layoutSound_of_passed ?_ ?_ ?_ ?_
    · have hpoints : (s.psd.points.map fun p => ({ p with record := {} } : LivePoint)).map (·.entry) = s.psd.points.map (·.entry) := by
        simp [Function.comp_def]
      rw [hlys, hpsd, hl.entries, hpoints, (s.warmRestart_frame c).2.2.2.1]
      exact hs.passed
    · rw [hlys, hl.frame]
      exact hs.staging
    · rw [hlys]
      exact ⟨Nat.zero_le _, List.nodup_nil⟩
    · rw [hlys]
  | mark => exact hs.worked (.of_eq (by simp)) (.of_eq (by simp)) s.takeMark_replaned
  | loss => exact State.takeLoss_layoutSound hs
  | season => exact hs.worked (.of_eq (by simp)) (.of_eq (by simp)) s.takeSeason_replaned
  | sweep => exact hs.worked (.of_eq (by simp)) (.of_eq (by simp)) (State.sweepEvent_worked (s.onClk _)).frame
  | abandon k r opened due => exact hs.worked (s.closeMovement_restated ..) (.of_eq (by simp)) (.of_eq (by simp))
  | _ => exact hs.of_eq (by simp) (by simp) (by simp)

theorem powerOn_layoutSound (s : State) (straps : Nat) (rate : LineRate) : (s.powerOn straps rate).LayoutSound := by
  refine State.layoutSound_of_passed ⟨.nil, by simp [State.powerOn, State.atPowerOn], by simp [State.powerOn, State.atPowerOn], .nil,
    by simp [State.powerOn, State.atPowerOn], fun k target train point booked mask hk => ?_⟩ ?_ ⟨Nat.zero_le _, List.nodup_nil⟩ rfl
  · simp only [State.powerOn, State.atPowerOn, Ttc.slot, List.getElem?_replicate] at hk
    split at hk <;> cases hk
  · simp [State.powerOn, State.atPowerOn]

theorem step_keeps_layoutSound {s t : State} (h : step s = .next t) (hs : s.LayoutSound) : t.LayoutSound := by
  refine step_keeps (P := State.LayoutSound) False (fun _ _ _ h => h.of_eq rfl rfl rfl) (fun s h => h.of_eq rfl rfl rfl)
    (fun c s t _ hexec hs => ?_) False.elim h hs
  exact exec_keeps (P := State.LayoutSound) False (fun s t h hs => hs.of_eq (by rw [h]; rfl) (by rw [h]; rfl) (by rw [h]; rfl))
    (fun s t h hs => h.layoutSound hs) (fun s straps rate _ => powerOn_layoutSound s straps rate) False.elim hexec hs

end Sys2Proof.Machine
end

section
/-! The movement table and the elements' links: what the operations of the movement supervision do to them (R80 to R100). -/

namespace Sys2Proof.Machine

/-! ### The table and the elements read after a write -/

theorem Mvs.at?_put (v : Mvs) {k : Nat} (hk : k < v.table.length) (r : Option Movement) (j : Nat) :
    (v.put k r).at? j = if j = k then r else v.at? j := by
  simp only [Mvs.at?, Mvs.put, List.getElem?_set]
  by_cases h : k = j
  · subst h
    simp [hk]
  · simp [h, Ne.symm h]

@[simp] theorem Mvs.put_length (v : Mvs) (k : Nat) (r : Option Movement) : (v.put k r).table.length = v.table.length := by simp [Mvs.put]

theorem Mvs.lt_of_at? {v : Mvs} {k : Nat} {r : Movement} (h : v.at? k = some r) : k < v.table.length :=
  (List.getElem?_eq_some_iff.mp (Option.join_eq_some_iff.mp h)).1

/-- The lowest FREE position is FREE (R80). -/
theorem Mvs.of_free? {v : Mvs} {k : Nat} (h : v.free? = some k) : k < v.table.length ∧ v.at? k = none := by
  obtain ⟨hk, hnone, -⟩ := List.findIdx?_eq_some_iff_getElem.mp h
  refine ⟨hk, ?_⟩
  rw [Mvs.at?, List.getElem?_eq_getElem hk]
  simpa using hnone

theorem State.onElement_elements (s : State) (i : Nat) (f : ElementState → ElementState) (j : Nat) :
    (s.onElement i f).lys.elements[j]? = (s.lys.elements[j]?).map fun e => if i = j then { e with state := f e.state } else e := by
  simp only [State.onElement, State.onLys_lys, List.getElem?_modify]
  cases s.lys.elements[j]? with
  | none => rfl
  | some e =>
    simp only [Option.map_eq_map, Option.map_some]

/-! ### The tie between the table and the elements -/

/-- What ties an element to the movement table: its entry and its link (R81). -/
def LiveElement.tie (e : LiveElement) : Element × Option Nat := (e.entry, e.state.movement)

/-- Work that leaves the table, the elements' entries and their links leaves the movements sound. -/
theorem State.MovementsSound.of_links {s t : State} (h : s.MovementsSound) (hmvs : t.mvs = s.mvs)
    (hlinks : ∀ i : Nat, (t.lys.elements[i]?).map LiveElement.tie = (s.lys.elements[i]?).map LiveElement.tie) : t.MovementsSound := by
  have hto : ∀ {i : Nat} {e : LiveElement}, s.lys.elements[i]? = some e → ∃ e', t.lys.elements[i]? = some e' ∧ e'.entry = e.entry ∧
      e'.state.movement = e.state.movement := by
    intro i e he
    have hi := hlinks i
    rw [he, Option.map_some, Option.map_eq_some_iff] at hi
    obtain ⟨e', he', heq⟩ := hi
    exact ⟨e', he', (Prod.mk.inj heq).1, (Prod.mk.inj heq).2⟩
  have hof : ∀ {i : Nat} {e : LiveElement}, t.lys.elements[i]? = some e →
      ∃ e', s.lys.elements[i]? = some e' ∧ e'.state.movement = e.state.movement := by
    intro i e he
    have hi := (hlinks i).symm
    rw [he, Option.map_some, Option.map_eq_some_iff] at hi
    obtain ⟨e', he', heq⟩ := hi
    exact ⟨e', he', (Prod.mk.inj heq).2⟩
  exact {
    positions := hmvs ▸ h.positions
    records := fun k r hr => by
      obtain ⟨e, he, haddress, hkind, hmoves, hlink⟩ := h.records k r (hmvs ▸ hr)
      obtain ⟨e', he', hentry, hmovement⟩ := hto he
      exact ⟨e', he', hentry ▸ haddress, hentry ▸ hkind, hmoves, hmovement.trans hlink⟩
    links := fun i e k he hlink => by
      obtain ⟨e', he', hmovement⟩ := hof he
      rw [hmvs]
      exact h.links i e' k he' (hmovement.trans hlink) }

theorem State.MovementsSound.of_eq {s t : State} (h : s.MovementsSound) (hmvs : t.mvs = s.mvs) (hlys : t.lys.elements = s.lys.elements) :
    t.MovementsSound := h.of_links hmvs fun i => by rw [hlys]

/-- An element state worked on, its link kept. -/
theorem State.MovementsSound.onElement {s : State} (h : s.MovementsSound) (i : Nat) {f : ElementState → ElementState}
    (hf : ∀ x, (f x).movement = x.movement) : (s.onElement i f).MovementsSound := by
  refine h.of_links rfl fun j => ?_
  rw [State.onElement_elements, Option.map_map]
  congr 1
  funext e
  simp only [Function.comp_apply]
  split
  · simp only [LiveElement.tie, hf]
  · rfl

theorem State.MovementsSound.onElements {s : State} (h : s.MovementsSound) {f : ElementState → ElementState}
    (hf : ∀ x, (f x).movement = x.movement) : (s.onElements f).MovementsSound := by
  refine h.of_links rfl fun j => ?_
  simp only [State.onElements, State.onLys_lys, List.getElem?_map, Option.map_map, Function.comp_def, LiveElement.tie, hf]
  rfl

/-- A record replaced by one of the same element, its address and kind. -/
theorem State.MovementsSound.put {s : State} (h : s.MovementsSound) {k : Nat} {r r' : Movement} (hr : s.mvs.at? k = some r)
    (hsame : r'.element = r.element ∧ r'.address = r.address ∧ r'.kind = r.kind) :
    (s.onMvs fun v => v.put k (some r')).MovementsSound := by
  obtain ⟨helement, haddress, hkind⟩ := hsame
  have hat := s.mvs.at?_put (Mvs.lt_of_at? hr) (some r')
  exact {
    positions := by simpa using h.positions
    records := fun j q hq => by
      rw [State.onMvs_mvs, hat] at hq
      split at hq
      · rename_i heq
        cases hq
        subst heq
        obtain ⟨e, he, hea, hek, hmoves, hlink⟩ := h.records _ r hr
        exact ⟨e, helement ▸ he, haddress ▸ hea, hkind ▸ hek, hkind ▸ hmoves, hlink⟩
      · exact h.records j q hq
    links := fun i e j he hlink => by
      obtain ⟨q, hq, hqi⟩ := h.links i e j he hlink
      rw [State.onMvs_mvs]
      simp only [hat]
      by_cases hjk : j = k
      · rw [if_pos hjk]
        obtain rfl : r = q := Option.some.inj (hr.symm.trans (hjk ▸ hq))
        exact ⟨r', rfl, helement.trans hqi⟩
      · rw [if_neg hjk]
        exact ⟨q, hq, hqi⟩ }

/-! ### Closing (R96) -/

theorem State.closeMovement_mvs (s : State) (position : Nat) (r : Movement) (outcome : MovementOutcome) (reason : Option AbandonReason)
    (ending : Instant) (flags : Flags) : (s.closeMovement position r outcome reason ending flags).mvs = s.mvs.put position none := by
  simp only [State.closeMovement, State.onMvs_mvs, State.onElement_frame]
  split <;> simp

theorem State.closeMovement_elements (s : State) (position : Nat) (r : Movement) (outcome : MovementOutcome) (reason : Option AbandonReason)
    (ending : Instant) (flags : Flags) (j : Nat) :
    (s.closeMovement position r outcome reason ending flags).lys.elements[j]? =
      (s.lys.elements[j]?).map fun e => if r.element = j then { e with state := { e.state with movement := none } } else e := by
  have hlys : ∀ u : State, u.lys = s.lys → u.lys.elements[j]? = s.lys.elements[j]? := fun u hu => by rw [hu]
  simp only [State.closeMovement, State.onMvs_lys, State.onElement_elements]
  rw [hlys _ (by split <;> simp)]

theorem State.MovementsSound.closed {s : State} (h : s.MovementsSound) {position : Nat} {r : Movement} (hr : s.mvs.at? position = some r)
    (outcome : MovementOutcome) (reason : Option AbandonReason) (ending : Instant) (flags : Flags) :
    (s.closeMovement position r outcome reason ending flags).MovementsSound := by
  have hat := s.mvs.at?_put (Mvs.lt_of_at? hr) none
  obtain ⟨e0, he0, -, -, -, hlink0⟩ := h.records position r hr
  exact {
    positions := by simpa [State.closeMovement_mvs] using h.positions
    records := fun k q hq => by
      rw [State.closeMovement_mvs, hat] at hq
      split at hq
      · cases hq
      · rename_i hk
        obtain ⟨e, he, haddress, hkind, hmoves, hlink⟩ := h.records k q hq
        have hother : r.element ≠ q.element := by
          intro heq
          rw [heq, he] at he0
          cases he0
          exact hk (Option.some.inj (hlink.symm.trans hlink0))
        exact ⟨e, by rw [State.closeMovement_elements, he, Option.map_some, if_neg hother], haddress, hkind, hmoves, hlink⟩
    links := fun i e k he hlink => by
      rw [State.closeMovement_elements, Option.map_eq_some_iff] at he
      obtain ⟨e', he', heq⟩ := he
      split at heq
      · subst heq
        cases hlink
      · rename_i hother
        subst heq
        obtain ⟨q, hq, hqi⟩ := h.links i e' k he' hlink
        have hk : k ≠ position := by
          rintro rfl
          obtain rfl : r = q := Option.some.inj (hr.symm.trans hq)
          exact hother hqi
        exact ⟨q, by rw [State.closeMovement_mvs, hat, if_neg hk]; exact hq, hqi⟩ }

theorem State.closeAll_movementsSound {s : State} (h : s.MovementsSound) (reason : AbandonReason) (ending : Instant) :
    (s.closeAll reason ending).MovementsSound := by
  unfold State.closeAll
  generalize List.range 64 = positions
  induction positions generalizing s with
  | nil => exact h
  | cons position positions ih =>
    refine ih ?_
    dsimp only
    split
    · exact h.closed ‹_› _ _ _ _
    · exact h

/-! ### Opening and indications (R82 to R92) -/

/-- A movement opened for an element with none, at a FREE position. -/
theorem State.MovementsSound.opened {s : State} (h : s.MovementsSound) {index k : Nat} {e : LiveElement} {r : Movement}
    (he : s.lys.elements[index]? = some e) (hnone : e.state.movement = none) (hk : k < 64) (hfree : s.mvs.at? k = none)
    (hr : r.element = index ∧ r.address = e.entry.address ∧ r.kind = e.entry.kind) (hmoves : e.entry.kind.moves = true) :
    ((s.onMvs fun v => v.put k (some r)).onElement index fun x => { x with movement := some k }).MovementsSound := by
  obtain ⟨hrelement, hraddress, hrkind⟩ := hr
  have hat := s.mvs.at?_put (h.positions ▸ hk) (some r)
  exact {
    positions := by simpa using h.positions
    records := fun j q hq => by
      replace hq : (s.mvs.put k (some r)).at? j = some q := hq
      rw [hat] at hq
      split at hq
      · rename_i hj
        cases hq
        refine ⟨{ e with state := { e.state with movement := some k } }, ?_, hraddress.symm, hrkind.symm, hrkind ▸ hmoves, by rw [hj]⟩
        rw [State.onElement_elements, State.onMvs_lys, hrelement, he, Option.map_some, if_pos rfl]
      · obtain ⟨e', he', haddress, hkind, hm, hlink⟩ := h.records j q hq
        have hother : index ≠ q.element := by
          rintro rfl
          rw [he] at he'
          cases he'
          rw [hnone] at hlink
          cases hlink
        exact ⟨e', by rw [State.onElement_elements, State.onMvs_lys, he', Option.map_some, if_neg hother], haddress, hkind, hm, hlink⟩
    links := fun i e' j he' hlink => by
      rw [State.onElement_elements, State.onMvs_lys, Option.map_eq_some_iff] at he'
      obtain ⟨e'', he'', heq⟩ := he'
      show ∃ q, (s.mvs.put k (some r)).at? j = some q ∧ q.element = i
      simp only [hat]
      split at heq
      · rename_i hi
        subst heq
        cases hlink
        exact ⟨r, by rw [if_pos rfl], hrelement.trans hi⟩
      · subst heq
        obtain ⟨q, hq, hqi⟩ := h.links i e'' j he'' hlink
        have hj : j ≠ k := by
          rintro rfl
          rw [hfree] at hq
          cases hq
        exact ⟨q, by rw [if_neg hj]; exact hq, hqi⟩ }

/-- A link names an open record (R81), so an element has none where no open record is found. -/
theorem State.MovementsSound.openRecordOf {s : State} (h : s.MovementsSound) {index : Nat} {e : LiveElement}
    (he : s.lys.elements[index]? = some e) :
    (s.openRecordOf e = none ∧ e.state.movement = none) ∨
      ∃ k r, s.openRecordOf e = some (k, r) ∧ e.state.movement = some k ∧ s.mvs.at? k = some r ∧ r.element = index := by
  cases hlink : e.state.movement with
  | none => exact .inl ⟨by simp [State.openRecordOf, hlink], rfl⟩
  | some k =>
    obtain ⟨r, hr, hri⟩ := h.links index e k he hlink
    exact .inr ⟨k, r, by simp [State.openRecordOf, hlink, hr], rfl, hr, hri⟩

theorem State.openMovement_movementsSound {s : State} (h : s.MovementsSound) {index : Nat} {e e0 : LiveElement}
    (he : s.lys.elements[index]? = some e) (hentry : e.entry = e0.entry) (hnone : e.state.movement = none)
    (hmoves : e0.entry.kind.moves = true) (target : Nat) (arrival : Instant) : (s.openMovement index e0 target arrival).MovementsSound := by
  unfold State.openMovement
  split
  · exact h
  · exact h.of_eq (by simp) (by simp)
  · split
    · rename_i k hfree
      obtain ⟨hk, hfree⟩ := Mvs.of_free? hfree
      exact h.opened he hnone (h.positions ▸ hk) hfree ⟨rfl, by rw [hentry]; rfl, by rw [hentry]; rfl⟩ (hentry ▸ hmoves)
    · exact h.of_eq (by simp) (by simp)

theorem State.commandChange_movementsSound {s : State} (h : s.MovementsSound) {index : Nat}
    (hmoves : ∀ e, s.lys.elements[index]? = some e → e.entry.kind.moves = true) (target : Nat) (arrival : Instant) :
    (s.commandChange index target arrival).MovementsSound := by
  unfold State.commandChange
  split
  · rename_i e he
    obtain ⟨hopen, hnone⟩ | ⟨k, r, hopen, -, hr, hri⟩ := h.openRecordOf he
    · simp only [hopen]
      exact State.openMovement_movementsSound h he rfl hnone (hmoves e he) target arrival
    · simp only [hopen]
      refine State.openMovement_movementsSound (h.closed hr _ _ _ _) (e := { e with state := { e.state with movement := none } }) ?_ rfl rfl
        (hmoves e he) target arrival
      rw [State.closeMovement_elements, he, Option.map_some, if_pos hri]
  · exact h

theorem State.indicationToMvs_movementsSound {s : State} (h : s.MovementsSound) (index code : Nat) (event : EventInstant) :
    (s.indicationToMvs index code event).MovementsSound := by
  unfold State.indicationToMvs
  split
  · rename_i e he
    obtain ⟨hopen, -⟩ | ⟨k, r, hopen, -, hr, -⟩ := h.openRecordOf he
    · simp only [hopen]
      exact h
    · simp only [hopen]
      split
      · exact h
      · exact h.put hr ⟨rfl, rfl, rfl⟩
      · split
        · exact (h.closed hr _ _ _ _).onElement _ fun _ => rfl
        · exact h.closed hr _ _ _ _
  · exact h

/-! ### Commands and indications (R64 to R68) -/

theorem State.validCommand_movementsSound {s : State} (h : s.MovementsSound) {index : Nat} {e : LiveElement}
    (he : s.lys.elements[index]? = some e) (code : Nat) (arrival : Instant) : (s.validCommand index e code arrival).MovementsSound := by
  unfold State.validCommand
  split
  · exact h.onElement _ fun _ => rfl
  · extract_lets s1 s2
    have h1 : s1.MovementsSound := h.onElement _ fun _ => rfl
    have h2 : s2.MovementsSound := h1.of_eq (by simp [s2]) (by simp [s2])
    split
    · rename_i hmoves
      refine State.commandChange_movementsSound h2 (fun e' he' => ?_) code arrival
      rw [show s2.lys = s1.lys by simp [s2], State.onElement_elements, he, Option.map_some, if_pos rfl] at he'
      cases he'
      exact hmoves
    · exact h2

theorem State.takeCommand_movementsSound {s : State} (h : s.MovementsSound) (address code : Nat) (c : Capture) :
    (s.takeCommand address code c).MovementsSound := by
  unfold State.takeCommand
  split
  · split
    · rename_i index _ _ _ _
      split
      · exact State.validCommand_movementsSound h ‹_› _ _
      · exact (h.onElement index (f := fun x => { x with seen := true, lastBadCommand := some code }) fun _ => rfl).of_eq
          (by simp [State.badCommand]) (by simp [State.badCommand])
    · exact h
  · exact h.of_eq (by simp) (by unfold State.unknownAddress; split <;> rfl)

theorem State.validIndication_movementsSound {s : State} (h : s.MovementsSound) (index : Nat) (e : LiveElement) (code : Nat)
    (event : EventInstant) : (s.validIndication index e code event).MovementsSound := by
  unfold State.validIndication
  extract_lets s1 s2
  have hindicated : (s.onElement index fun x => x.indicated e.entry.kind code event).MovementsSound := h.onElement _ fun _ => rfl
  have h1 : s1.MovementsSound := hindicated.of_eq (by simp [s1]) (by simp [s1])
  have h2 : s2.MovementsSound := by
    simp only [s2]
    split
    · exact State.indicationToMvs_movementsSound h1 _ _ _
    · exact h1
  split
  · exact h2.of_eq (by simp) (by simp)
  · exact h2

theorem State.takeIndication_movementsSound {s : State} (h : s.MovementsSound) (address code : Nat) (age : Option Nat) (c : Capture) :
    (s.takeIndication address code age c).MovementsSound := by
  unfold State.takeIndication
  dsimp only
  split
  · split
    · rename_i index _ _ _ _
      split
      · exact State.validIndication_movementsSound h _ _ _ _
      · have hbad : (s.onElement index fun x => { x with seen := true, lastBadIndication := some code }).MovementsSound :=
          h.onElement index fun _ => rfl
        unfold State.badIndication
        dsimp only
        split <;> exact hbad.of_eq (by simp) (by simp)
    · exact h
  · exact h.of_eq (by simp) (by unfold State.unknownAddress; split <;> rfl)

end Sys2Proof.Machine
end

section
/-! The movements at a LAYOUT apply, a RESTART, a line reset and the loss of the line, and after every step (R99 to R102). -/

namespace Sys2Proof.Machine

/-! ### The movements carried by a LAYOUT apply (R100) -/

/-- An open record at a LAYOUT apply: re-linked where its element is matched. -/
def Movement.carried (old : List LiveElement) (new : List Element) (r : Movement) : Option Movement :=
  (newIndexOf old new r.element).map fun i => { r with element := i }

/-- The new index of an element is found by the entries alone. -/
theorem newIndexOf_congr {old old' : List LiveElement} (h : old'.map (·.entry) = old.map (·.entry)) (new : List Element) (i : Nat) :
    newIndexOf old' new i = newIndexOf old new i := by
  have hi := congrArg (·[i]?) h
  simp only [List.getElem?_map] at hi
  unfold newIndexOf
  cases hold : old[i]? with
  | none => simp [hold] at hi; simp [hi]
  | some e =>
    rw [hold, Option.map_some, Option.map_eq_some_iff] at hi
    obtain ⟨e', he', heq⟩ := hi
    simp only [he', heq]

theorem State.carryMovement_at? (s : State) (new : List Element) (ending : Instant) (position k : Nat) :
    (s.carryMovement new ending position).mvs.at? k =
      if k = position then (s.mvs.at? k).bind (Movement.carried s.lys.elements new) else s.mvs.at? k := by
  unfold State.carryMovement
  split
  · rename_i r hr
    have hat := fun x => s.mvs.at?_put (Mvs.lt_of_at? hr) x k
    split
    · rename_i i hi
      rw [State.onMvs_mvs, hat]
      split
      · rename_i hk
        rw [hk, hr]
        simp [Movement.carried, hi]
      · rfl
    · rename_i hnone
      rw [State.closeMovement_mvs, hat]
      split
      · rename_i hk
        rw [hk, hr]
        simp [Movement.carried, hnone]
      · rfl
  · rename_i hnone
    split
    · rename_i hk
      rw [hk, hnone]
      rfl
    · rfl

/-- The state record of a matched element is not touched while the movements are carried. -/
theorem State.carryMovement_matched {s : State} {new : List Element} {j : Nat} (hmatched : newIndexOf s.lys.elements new j ≠ none)
    (ending : Instant) (position : Nat) : (s.carryMovement new ending position).lys.elements[j]? = s.lys.elements[j]? := by
  unfold State.carryMovement
  split
  · rename_i r hr
    split
    · rfl
    · rename_i hnone
      rw [State.closeMovement_elements]
      have hother : r.element ≠ j := by
        rintro rfl
        exact hmatched hnone
      simp [hother]
  · rfl

theorem State.foldl_carryMovement_at? (new : List Element) (ending : Instant) {positions : List Nat} (hnodup : positions.Nodup)
    (s : State) (k : Nat) :
    (positions.foldl (fun s position => s.carryMovement new ending position) s).mvs.at? k =
      if k ∈ positions then (s.mvs.at? k).bind (Movement.carried s.lys.elements new) else s.mvs.at? k := by
  induction positions generalizing s with
  | nil => simp
  | cons position positions ih =>
    obtain ⟨hfresh, hnodup⟩ := List.nodup_cons.mp hnodup
    have hcarried : Movement.carried (s.carryMovement new ending position).lys.elements new = Movement.carried s.lys.elements new := by
      funext r
      rw [Movement.carried, newIndexOf_congr (s.carryMovement_restated new ending position).entries]
      rfl
    rw [List.foldl_cons, ih hnodup, hcarried, State.carryMovement_at?]
    by_cases hk : k = position
    · subst hk
      simp [hfresh]
    · simp [hk]

/-- Every position after the movements are carried (R100): a record re-linked or closed. -/
theorem State.carryMovements_at? {s : State} (h : s.mvs.table.length = 64) (new : List Element) (ending : Instant) (k : Nat) :
    (s.carryMovements new ending).mvs.at? k = (s.mvs.at? k).bind (Movement.carried s.lys.elements new) := by
  unfold State.carryMovements
  rw [State.foldl_carryMovement_at? new ending List.nodup_range]
  split
  · rfl
  · rename_i hk
    have hnone : s.mvs.at? k = none := by
      cases hr : s.mvs.at? k with
      | none => rfl
      | some r => exact absurd (List.mem_range.mpr (h ▸ Mvs.lt_of_at? hr)) hk
    simp [hnone]

theorem State.carryMovements_matched {s : State} {new : List Element} {j : Nat} (hmatched : newIndexOf s.lys.elements new j ≠ none)
    (ending : Instant) : (s.carryMovements new ending).lys.elements[j]? = s.lys.elements[j]? := by
  unfold State.carryMovements
  generalize List.range 64 = positions
  induction positions generalizing s with
  | nil => rfl
  | cons position positions ih =>
    rw [List.foldl_cons, ih, State.carryMovement_matched hmatched]
    rwa [newIndexOf_congr (s.carryMovement_restated new ending position).entries]

theorem State.carryMovements_length (s : State) (new : List Element) (ending : Instant) :
    (s.carryMovements new ending).mvs.table.length = s.mvs.table.length := by
  unfold State.carryMovements
  generalize List.range 64 = positions
  induction positions generalizing s with
  | nil => rfl
  | cons position positions ih =>
    rw [List.foldl_cons, ih]
    unfold State.carryMovement
    split
    · split
      · simp
      · simp [State.closeMovement_mvs]
    · rfl

/-! ### Elements matched by address and kind (R76) -/

/-- Rising addresses name one entry each. -/
theorem eq_of_address {l : List Element} (h : (l.map (·.address)).Pairwise (· < ·)) {i j : Nat} {e e' : Element} (hi : l[i]? = some e)
    (hj : l[j]? = some e') (haddress : e.address = e'.address) : i = j := by
  have hnodup : (l.map (·.address)).Nodup := h.imp fun hlt => hlt.ne
  have hia : (l.map (·.address))[i]? = some e.address := by rw [List.getElem?_map, hi]; rfl
  have hja : (l.map (·.address))[j]? = some e.address := by rw [List.getElem?_map, hj, haddress]; rfl
  exact (List.nodup_iff_getElem?_ne_getElem?.mp hnodup |> fun hne => by
    by_contra hij
    obtain hlt | hgt := Nat.lt_or_gt_of_ne hij
    · exact hne i j hlt (List.getElem?_eq_some_iff.mp hja).1 (hia.trans hja.symm)
    · exact hne j i hgt (List.getElem?_eq_some_iff.mp hia).1 (hja.trans hia.symm))

/-- The old element that a new entry is matched with has its address and kind. -/
theorem matchElement_spec {old : List LiveElement} {e : Element} {j : Nat} (h : matchElement old e = some j) :
    ∃ x, old[j]? = some x ∧ x.entry.address = e.address ∧ x.entry.kind = e.kind := by
  obtain ⟨hj, hx, -⟩ := List.findIdx?_eq_some_iff_getElem.mp h
  exact ⟨_, List.getElem?_eq_getElem hj, by simpa using hx⟩

theorem newIndexOf_spec {old : List LiveElement} {new : List Element} {i j : Nat} (h : newIndexOf old new j = some i) :
    ∃ x e, old[j]? = some x ∧ new[i]? = some e ∧ e.address = x.entry.address ∧ e.kind = x.entry.kind := by
  unfold newIndexOf at h
  split at h
  · rename_i x hx
    obtain ⟨hi, he, -⟩ := List.findIdx?_eq_some_iff_getElem.mp h
    exact ⟨x, _, hx, List.getElem?_eq_getElem hi, by simpa using he⟩
  · cases h

/-- Where both banks' addresses rise, an old and a new element of one address and kind are matched with each other. -/
theorem matched_iff {old : List LiveElement} {new : List Element} (hold : (old.map (·.entry.address)).Pairwise (· < ·))
    (hnew : (new.map (·.address)).Pairwise (· < ·)) {i j : Nat} {x : LiveElement} {e : Element} (hx : old[j]? = some x) (he : new[i]? = some e)
    (haddress : e.address = x.entry.address) (hkind : e.kind = x.entry.kind) : newIndexOf old new j = some i ∧ matchElement old e = some j := by
  have hold' : ((old.map (·.entry)).map (·.address)).Pairwise (· < ·) := by simpa [Function.comp_def] using hold
  constructor
  · simp only [newIndexOf, hx]
    cases hfound : new.findIdx? fun e => e.address == x.entry.address && e.kind == x.entry.kind with
    | none =>
      have := List.findIdx?_eq_none_iff.mp hfound e (List.mem_of_getElem? he)
      simp [haddress, hkind] at this
    | some i' =>
      obtain ⟨hi', he', -⟩ := List.findIdx?_eq_some_iff_getElem.mp hfound
      simp only [Bool.and_eq_true, beq_iff_eq] at he'
      rw [eq_of_address hnew (List.getElem?_eq_getElem hi') he (he'.1.trans haddress.symm)]
  · cases hfound : matchElement old e with
    | none =>
      have := List.findIdx?_eq_none_iff.mp hfound x (List.mem_of_getElem? hx)
      simp [haddress, hkind] at this
    | some j' =>
      obtain ⟨x', hx', haddress', -⟩ := matchElement_spec hfound
      have hat : ∀ {k : Nat} {y : LiveElement}, old[k]? = some y → (old.map (·.entry))[k]? = some y.entry :=
        fun hy => by rw [List.getElem?_map, hy]; rfl
      rw [eq_of_address hold' (hat hx') (hat hx) (haddress'.trans haddress)]

/-- A new element after the carry-over (R76, R77): its entry, and the matched old element's state with the seen flag cleared, or a fresh one. -/
def carriedElement (old : List LiveElement) (rt : Nat) (e : Element) : LiveElement :=
  match (matchElement old e).bind fun j => old[j]? with
  | some x => { entry := e, state := { x.state with seen := false } }
  | none => { entry := e, state := freshElementState rt }

theorem carryElements_eq (old : List LiveElement) (new : List Element) (rt : Nat) : carryElements old new rt = new.map (carriedElement old rt) := rfl

theorem carriedElement_of_matched {old : List LiveElement} {rt : Nat} {e : Element} {j : Nat} {x : LiveElement}
    (hm : matchElement old e = some j) (hx : old[j]? = some x) :
    carriedElement old rt e = { entry := e, state := { x.state with seen := false } } := by
  simp only [carriedElement, hm, Option.bind_some, hx]

theorem carriedElement_of_new {old : List LiveElement} {rt : Nat} {e : Element} (hm : matchElement old e = none) :
    carriedElement old rt e = { entry := e, state := freshElementState rt } := by
  simp only [carriedElement, hm, Option.bind_none]

theorem matchElement_congr {old old' : List LiveElement} (h : old'.map (·.entry) = old.map (·.entry)) (e : Element) :
    matchElement old' e = matchElement old e := by
  have hmap : ∀ l : List LiveElement, matchElement l e =
      (l.map (·.entry)).findIdx? fun x => x.address == e.address && x.kind == e.kind := fun l => by
    rw [matchElement, List.findIdx?_map]
    rfl
  rw [hmap, hmap, h]

/-- The elements after a LAYOUT apply are those carried over from the elements before it: a matched one is not touched as the movements are
carried. -/
theorem State.applyLayout_elements {s : State} (hold : (s.lys.elements.map (·.entry.address)).Pairwise (· < ·))
    (hnew : (s.lys.stagingElements.values.map (·.address)).Pairwise (· < ·)) (ending : Instant) (i : Nat) :
    (s.applyLayout ending).lys.elements[i]? = (s.lys.stagingElements.values[i]?).map (carriedElement s.lys.elements ending.rt) := by
  rw [State.applyLayout_lys]
  dsimp only
  rw [carryElements_eq, List.getElem?_map]
  cases he : s.lys.stagingElements.values[i]? with
  | none => rw [Option.map_none, Option.map_none]
  | some e =>
    have hcongr := matchElement_congr (s.carryMovements_restated s.lys.stagingElements.values ending).entries e
    rw [Option.map_some, Option.map_some]
    cases hm : matchElement s.lys.elements e with
    | none => rw [carriedElement_of_new hm, carriedElement_of_new (hcongr.trans hm)]
    | some j =>
      obtain ⟨x, hx, haddress, hkind⟩ := matchElement_spec hm
      have hmatched := (matched_iff hold hnew hx he haddress.symm hkind.symm).1
      have hstands := State.carryMovements_matched (s := s) (new := s.lys.stagingElements.values) (j := j) (by rw [hmatched]; simp) ending
      rw [carriedElement_of_matched hm hx, carriedElement_of_matched (hcongr.trans hm) (hstands.trans hx)]

theorem State.applyLayout_mvs (s : State) (ending : Instant) :
    (s.applyLayout ending).mvs = (s.carryMovements s.lys.stagingElements.values ending).mvs := by
  simp only [State.applyLayout_eq, State.dropQueues_frame, State.onPsd_mvs, State.onLys_mvs]

/-- A LAYOUT apply carries the links with their elements (R76, R100). -/
theorem State.applyLayout_movementsSound {s : State} (h : s.MovementsSound) (hold : (s.lys.elements.map (·.entry.address)).Pairwise (· < ·))
    (hnew : (s.lys.stagingElements.values.map (·.address)).Pairwise (· < ·)) (ending : Instant) : (s.applyLayout ending).MovementsSound := by
  have hat := s.carryMovements_at? h.positions s.lys.stagingElements.values ending
  have hcarried := State.applyLayout_elements hold hnew ending
  exact {
    positions := by rw [State.applyLayout_mvs, State.carryMovements_length]; exact h.positions
    records := fun k q hq => by
      rw [State.applyLayout_mvs, hat, Option.bind_eq_some_iff] at hq
      obtain ⟨r, hr, hq⟩ := hq
      obtain ⟨x, hx, haddress, hkind, hmoves, hlink⟩ := h.records k r hr
      simp only [Movement.carried, Option.map_eq_some_iff] at hq
      obtain ⟨i, hi, rfl⟩ := hq
      obtain ⟨x', e, hx', he, headdress, hekind⟩ := newIndexOf_spec hi
      obtain rfl : x = x' := Option.some.inj (hx.symm.trans hx')
      have hm := (matched_iff hold hnew hx he headdress hekind).2
      refine ⟨{ entry := e, state := { x.state with seen := false } }, ?_, headdress.trans haddress, hekind.trans hkind, hmoves, hlink⟩
      rw [hcarried, he, Option.map_some, carriedElement_of_matched hm hx]
    links := fun i e' k he' hlink => by
      rw [hcarried, Option.map_eq_some_iff] at he'
      obtain ⟨e, he, rfl⟩ := he'
      cases hm : matchElement s.lys.elements e with
      | none =>
        rw [carriedElement_of_new hm] at hlink
        cases hlink
      | some j =>
        obtain ⟨x, hx, haddress, hkind⟩ := matchElement_spec hm
        rw [carriedElement_of_matched hm hx] at hlink
        obtain ⟨r, hr, hrj⟩ := h.links j x k hx hlink
        refine ⟨{ r with element := i }, ?_, rfl⟩
        rw [State.applyLayout_mvs, hat, hr, Option.bind_some, Movement.carried, hrj,
          (matched_iff hold hnew hx he haddress.symm hkind.symm).1]
        rfl }

/-! ### All movements closed (R99, R102) -/

/-- A position after every open record is closed is FREE. -/
theorem State.closeAll_at? {s : State} (h : s.mvs.table.length = 64) (reason : AbandonReason) (ending : Instant) (k : Nat) :
    (s.closeAll reason ending).mvs.at? k = none := by
  have hfold : ∀ (positions : List Nat) (s : State), (k ∈ positions ∨ s.mvs.at? k = none) →
      (positions.foldl (fun s position => match s.mvs.at? position with
        | some r => s.closeMovement position r .abandoned (some reason) ending {}
        | none => s) s).mvs.at? k = none := by
    intro positions
    induction positions with
    | nil =>
      rintro s (hk | hk)
      · cases hk
      · exact hk
    | cons position positions ih =>
      intro s hs
      rw [List.foldl_cons]
      refine ih _ ?_
      cases hr : s.mvs.at? position with
      | none =>
        obtain hk | hk := hs
        · obtain rfl | hk := List.mem_cons.mp hk
          · exact .inr hr
          · exact .inl hk
        · exact .inr hk
      | some r =>
        dsimp only
        rw [State.closeMovement_mvs, s.mvs.at?_put (Mvs.lt_of_at? hr)]
        split
        · exact .inr rfl
        · rename_i hne
          obtain hk | hk := hs
          · exact .inl ((List.mem_cons.mp hk).resolve_left hne)
          · exact .inr hk
  refine hfold _ s ?_
  by_cases hk : k < 64
  · exact .inl (List.mem_range.mpr hk)
  · cases hr : s.mvs.at? k with
    | none => exact .inr rfl
    | some r => exact absurd (h ▸ Mvs.lt_of_at? hr) hk

/-- Closing every open record keeps an element's link absent where it is. -/
theorem State.closeAll_unlinked {s : State} (hnone : ∀ (i : Nat) (e : LiveElement), s.lys.elements[i]? = some e → e.state.movement = none)
    (reason : AbandonReason) (ending : Instant) : ∀ (i : Nat) (e : LiveElement), (s.closeAll reason ending).lys.elements[i]? = some e →
      e.state.movement = none := by
  unfold State.closeAll
  generalize List.range 64 = positions
  induction positions generalizing s with
  | nil => exact hnone
  | cons position positions ih =>
    refine ih fun i e he => ?_
    dsimp only at he
    split at he
    · rw [State.closeMovement_elements, Option.map_eq_some_iff] at he
      obtain ⟨e', he', heq⟩ := he
      split at heq
      · exact heq ▸ rfl
      · exact heq ▸ hnone i e' he'
    · exact hnone i e he

theorem State.closeAll_length (s : State) (reason : AbandonReason) (ending : Instant) :
    (s.closeAll reason ending).mvs.table.length = s.mvs.table.length := by
  unfold State.closeAll
  generalize List.range 64 = positions
  induction positions generalizing s with
  | nil => rfl
  | cons position positions ih =>
    rw [List.foldl_cons, ih]
    split
    · simp [State.closeMovement_mvs]
    · rfl

/-- With no element linked, closing every record leaves nothing open, and nothing linked. -/
theorem State.closeAll_movementsSound_of_unlinked {s : State} (h : s.mvs.table.length = 64)
    (hnone : ∀ (i : Nat) (e : LiveElement), s.lys.elements[i]? = some e → e.state.movement = none) (reason : AbandonReason) (ending : Instant) :
    (s.closeAll reason ending).MovementsSound where
  positions := (s.closeAll_length reason ending).trans h
  records := fun k r hr => by
    rw [State.closeAll_at? h] at hr
    cases hr
  links := fun i e k he hlink => by
    rw [State.closeAll_unlinked hnone reason ending i e he] at hlink
    cases hlink

theorem State.restartField_movementsSound {s : State} (h : s.mvs.table.length = 64) (ending : Instant) :
    (s.restartField ending).MovementsSound := by
  unfold State.restartField
  extract_lets s1 s2
  have hclosed : s2.MovementsSound := by
    refine State.closeAll_movementsSound_of_unlinked (s := s1.onLys _) h (fun i e he => ?_) .restart ending
    simp only [State.onLys_lys, s1, State.onElements, List.getElem?_map, Option.map_eq_some_iff] at he
    obtain ⟨e', -, rfl⟩ := he
    rfl
  clear_value s2
  exact hclosed.of_eq rfl rfl

theorem State.lineKnowledgeLost_movementsSound {s : State} (h : s.MovementsSound) (ending : Instant) :
    (s.lineKnowledgeLost ending).MovementsSound := by
  unfold State.lineKnowledgeLost
  have hreset : (s.onElements fun x => x.lineReset ending.rt).MovementsSound := h.onElements fun _ => rfl
  exact State.closeAll_movementsSound hreset .line ending

/-! ### What is armed takes effect -/

theorem State.takeApply_movementsSound {s : State} (h : s.MovementsSound) (hl : s.LayoutSound) {scope : Scope}
    (hvalid : s.validate scope = none) (trigger : ApplyTrigger) (ending : Instant) : (s.takeApply scope trigger ending).MovementsSound := by
  unfold State.takeApply
  extract_lets s1 s2 s3
  have h1 : s1.MovementsSound := h.of_eq rfl rfl
  have h2 : s2.MovementsSound := by
    simp only [s2]
    split
    · rename_i hlayout
      refine State.applyLayout_movementsSound h1 hl.rising ?_ ending
      have helements : checkElements 0 0 s.lys.stagingElements = none := by
        cases scope with
        | layout => exact (Option.or_eq_none_iff.mp hvalid).1
        | timetable => cases hlayout
        | both => exact (Option.or_eq_none_iff.mp hvalid).1
      exact (List.pairwise_cons.mp (checkElements_eq_none helements).2).2
    · exact h1
  have h3 : s3.MovementsSound := by
    simp only [s3]
    split
    · exact h2.of_eq (by simp) (by simp)
    · exact h2
  exact h3.of_eq rfl rfl

theorem State.takeArmed_movementsSound {s : State} (h : s.MovementsSound) (hl : s.LayoutSound) (trigger : ApplyTrigger) (ending : Instant) :
    (s.takeArmed trigger ending).MovementsSound := by
  unfold State.takeArmed
  split
  · rename_i scope harmed
    exact State.takeApply_movementsSound h hl (hl.armed scope harmed) trigger ending
  · exact h

theorem State.takeLoss_movementsSound {s : State} (h : s.MovementsSound) (hl : s.LayoutSound) : s.takeLoss.MovementsSound := by
  unfold State.takeLoss
  split
  · unfold State.loseLine
    extract_lets s1 s2
    have hlost : (s2.lineKnowledgeLost s.nowInstant).MovementsSound :=
      State.lineKnowledgeLost_movementsSound (h.of_eq (by simp [s2, s1]) (by simp [s2, s1])) s.nowInstant
    have hlys : s2.lys.Restated (s2.lineKnowledgeLost s.nowInstant).lys := s2.lineKnowledgeLost_restated _
    have hlys : s.lys.Restated (s2.lineKnowledgeLost s.nowInstant).lys := hlys
    exact State.takeArmed_movementsSound hlost (hl.worked hlys (.of_eq (by simp [s2, s1])) (.of_eq (by simp [s2, s1]))) _ _
  · exact h

theorem State.takeRoundOpen_movementsSound {s : State} (h : s.MovementsSound) (hl : s.LayoutSound) (number : Nat) (c : Capture) :
    (s.takeRoundOpen number c).MovementsSound := by
  unfold State.takeRoundOpen
  dsimp only
  have hopened : (s.onLiu fun l => l.openRound c.rt s.orh.params.lossTimeout).MovementsSound := h.of_eq rfl rfl
  have hlopened : (s.onLiu fun l => l.openRound c.rt s.orh.params.lossTimeout).LayoutSound := hl.of_eq rfl rfl rfl
  have harmed := State.takeArmed_movementsSound hopened hlopened .roundOpen c.instant
  have hjudged : ∀ u : State, u.MovementsSound → (u.judgeRound number c).MovementsSound := by
    intro u hu
    unfold State.judgeRound
    split
    · exact hu
    · exact hu.of_eq (by simp) (by simp)
    · unfold State.returnLine
      have hwritten : (u.writeReport (.lineReturn (durationMs c.rt (u.liu.lostRt.getD c.rt)) number) c.date .lineReturn).MovementsSound :=
        hu.of_eq (by simp) (by simp)
      exact hwritten.onElements fun _ => rfl
  generalize (s.onLiu fun l => l.openRound c.rt s.orh.params.lossTimeout).takeArmed .roundOpen c.instant = applied at harmed
  have hended : applied.endTurn.MovementsSound := harmed.of_eq rfl rfl
  exact (hjudged _ hended).of_eq rfl rfl

/-! ### Every step -/

theorem State.Acts.movementsSound {wf : Prop} {s t : State} (h : s.Acts wf t) (hl : s.LayoutSound) (hs : s.MovementsSound) :
    t.MovementsSound := by
  cases h with
  | roundOpen number c => exact State.takeRoundOpen_movementsSound hs hl number c
  | lineReset c =>
    unfold State.takeLineReset
    extract_lets s1
    exact State.lineKnowledgeLost_movementsSound (hs.of_eq (by simp [s1]) (by simp [s1])) _
  | command address code c => exact State.takeCommand_movementsSound hs address code c
  | indication address code age c => exact State.takeIndication_movementsSound hs address code age c
  | parameter parameter value date fits =>
    unfold State.setParameter State.takeUp
    dsimp only
    split
    · exact hs.of_eq (by simp) (by simp)
    · split
      · exact State.takeLoss_movementsSound (hs.of_eq rfl rfl) (hl.of_eq rfl rfl rfl)
      · exact hs.of_eq rfl rfl
  | elementPut => exact hs.of_eq rfl rfl
  | elementRemoved => exact hs.of_eq rfl rfl
  | pointPut => exact hs.of_eq rfl rfl
  | pointRemoved => exact hs.of_eq rfl rfl
  | armed => exact hs.of_eq rfl rfl
  | applied scope c valid => exact State.takeApply_movementsSound hs hl valid _ _
  | restarted c =>
    have hwritten : (s.write s.restartRecord c.date).mvs.table.length = 64 := hs.positions
    exact (State.restartField_movementsSound hwritten c.instant).of_eq (by simp [State.warmRestart]) (by simp [State.warmRestart])
  | loss => exact State.takeLoss_movementsSound hs hl
  | limit k r opened => exact (hs.put opened (r' := { r with overdue := true }) ⟨rfl, rfl, rfl⟩).of_eq rfl rfl
  | abandon k r opened => exact hs.closed opened _ _ _ _
  | _ => exact hs.of_eq (by simp) (by simp)

theorem State.powerOn_movementsSound (s : State) (straps : Nat) (rate : LineRate) : (s.powerOn straps rate).MovementsSound where
  positions := by simp [State.powerOn, State.atPowerOn]
  records k r hr := by
    simp only [State.powerOn, State.atPowerOn, Mvs.at?, List.getElem?_replicate] at hr
    split at hr <;> cases hr
  links i e k he := by cases he

theorem step_keeps_movementsSound {s t : State} (h : step s = .next t) (hl : s.LayoutSound) (hs : s.MovementsSound) : t.MovementsSound := by
  refine (step_keeps (P := fun s => s.LayoutSound ∧ s.MovementsSound) False
    (fun _ _ _ h => ⟨h.1.of_eq rfl rfl rfl, h.2.of_eq rfl rfl⟩) (fun s h => ⟨h.1.of_eq rfl rfl rfl, h.2.of_eq rfl rfl⟩)
    (fun c s t _ hexec hs => ?_) False.elim h ⟨hl, hs⟩).2
  exact exec_keeps (P := fun s => s.LayoutSound ∧ s.MovementsSound) False
    (fun s t h hs => ⟨hs.1.of_eq (by rw [h]; rfl) (by rw [h]; rfl) (by rw [h]; rfl), hs.2.of_eq (by rw [h]; rfl) (by rw [h]; rfl)⟩)
    (fun s t h hs => ⟨h.layoutSound hs.1, h.movementsSound hs.1 hs.2⟩)
    (fun s straps rate _ => ⟨powerOn_layoutSound s straps rate, s.powerOn_movementsSound straps rate⟩) False.elim hexec hs

/-- Settles O60: what is armed has passed R72's checks and passes them still; links and records are made, moved and ended together. -/
theorem layoutAndMovementsStaySound : Obligations.LayoutAndMovementsStaySound :=
  ⟨fun _ _ hs h => step_keeps_layoutSound h hs, fun _ _ hl hs h => step_keeps_movementsSound h hl hs⟩

end Sys2Proof.Machine
end

section
/-! The two clock lines, sound after every step (R167 to R180). -/

namespace Sys2Proof.Machine

/-! ### A line read after an update of a line -/

theorem State.line_of_cld {s t : State} (h : t.cld = s.cld) (l : ClockLineName) : t.line l = s.line l := by
  cases l <;> simp only [State.line, h]

@[simp] theorem State.line_onLine (s : State) (l : ClockLineName) (f : ClockLine → ClockLine) : (s.onLine l f).line l = f (s.line l) := by
  cases l <;> rfl

theorem State.line_onLine_of_ne (s : State) {l l' : ClockLineName} (h : l' ≠ l) (f : ClockLine → ClockLine) :
    (s.onLine l f).line l' = s.line l' := by
  cases l <;> cases l' <;> first | rfl | exact absurd rfl h

@[simp] theorem State.line_write (s : State) (body : RecordBody) (date : Date) (flags : Flags) (l : ClockLineName) :
    (s.write body date flags).line l = s.line l := State.line_of_cld (by simp) l

@[simp] theorem State.line_writeReport (s : State) (body : RecordBody) (date : Date) (kind : ReportKind) (flags : Flags) (l : ClockLineName) :
    (s.writeReport body date kind flags).line l = s.line l := State.line_of_cld (by simp) l

@[simp] theorem State.line_onClk (s : State) (f : Clk → Clk) (l : ClockLineName) : (s.onClk f).line l = s.line l := rfl

@[simp] theorem State.line_takeBoundary (s : State) (l l' : ClockLineName) : (s.takeBoundary l).line l' = s.line l' := by
  cases l <;> rfl

@[simp] theorem State.line_withSense (s : State) (l l' : ClockLineName) (sense : Sense) : (s.withSense l sense).line l' = s.line l' := by
  cases l <;> rfl

@[simp] theorem State.line_startLine (s : State) (l : ClockLineName) :
    (s.startLine l).line l = (s.line l).startIfDue s.tbu.rt s.orh.params := by
  simp [State.startLine]

/-- An evaluation's record is of no account to the line. -/
theorem State.line_evaluateLine (s : State) (l : ClockLineName) (atBoundary : Bool) :
    (s.evaluateLine l atBoundary).line l =
      ((s.line l).evaluated s.ctMs s.orh.params.holdLimit atBoundary).startIfDue s.tbu.rt s.orh.params := by
  simp only [State.evaluateLine, State.line_startLine]
  split <;> simp

/-! ### Both lines sound -/

/-- The two clock lines are sound. -/
def State.ClockLinesSound (s : State) : Prop := ∀ l, (s.line l).Sound

theorem State.clockLinesSound_iff (s : State) : s.ClockLinesSound ↔ s.cld.a.Sound ∧ s.cld.b.Sound :=
  ⟨fun h => ⟨h .a, h .b⟩, fun ⟨ha, hb⟩ l => match l with | .a => ha | .b => hb⟩

theorem State.ClockLinesSound.of_cld {s t : State} (h : s.ClockLinesSound) (heq : t.cld = s.cld) : t.ClockLinesSound :=
  fun l => State.line_of_cld heq l ▸ h l

/-- Two states that differ in one clock line at most. -/
structure State.OnLine (s : State) (l : ClockLineName) (t : State) : Prop where
  others : ∀ l', l' ≠ l → t.line l' = s.line l'

theorem State.OnLine.refl (s : State) (l : ClockLineName) : s.OnLine l s := ⟨fun _ _ => rfl⟩

theorem State.OnLine.trans {s t u : State} {l : ClockLineName} (h : s.OnLine l t) (h' : t.OnLine l u) : s.OnLine l u :=
  ⟨fun l' hl => (h'.others l' hl).trans (h.others l' hl)⟩

theorem State.OnLine.onLine (s : State) (l : ClockLineName) (f : ClockLine → ClockLine) : s.OnLine l (s.onLine l f) :=
  ⟨fun _ h => s.line_onLine_of_ne h f⟩

theorem State.OnLine.write {s t : State} {l : ClockLineName} (h : s.OnLine l t) (body : RecordBody) (date : Date) (flags : Flags) :
    s.OnLine l (t.write body date flags) := ⟨fun l' hl => (t.line_write ..).trans (h.others l' hl)⟩

theorem State.OnLine.writeReport {s t : State} {l : ClockLineName} (h : s.OnLine l t) (body : RecordBody) (date : Date) (kind : ReportKind)
    (flags : Flags) : s.OnLine l (t.writeReport body date kind flags) := ⟨fun l' hl => (t.line_writeReport ..).trans (h.others l' hl)⟩

theorem State.OnLine.startLine {s t : State} {l : ClockLineName} (h : s.OnLine l t) : s.OnLine l (t.startLine l) := h.trans (.onLine ..)

theorem State.OnLine.evaluateLine (s : State) (l : ClockLineName) (atBoundary : Bool) : s.OnLine l (s.evaluateLine l atBoundary) := by
  have hset := State.OnLine.onLine s l fun x => x.evaluated s.ctMs s.orh.params.holdLimit atBoundary
  unfold State.evaluateLine
  dsimp only
  split
  · exact hset.startLine
  · exact (hset.write ..).startLine

theorem State.OnLine.applySet (s : State) (l : ClockLineName) (set : ClockSet) : s.OnLine l (s.applySet l set) := by
  cases set with
  | run => exact ((State.OnLine.onLine ..).write ..).startLine
  | stop => exact (State.OnLine.onLine ..).write ..

theorem State.OnLine.applyPendingSet (s : State) (l : ClockLineName) : s.OnLine l (s.applyPendingSet l) := by
  unfold State.applyPendingSet
  split
  · exact (State.OnLine.onLine ..).trans (.applySet ..)
  · exact .refl ..

theorem State.OnLine.completeImpulse (s : State) (l : ClockLineName) (impulse : Impulse) (sense : Sense) :
    s.OnLine l (s.completeImpulse l impulse sense) := by
  have hdone := State.OnLine.onLine s l fun x => { x with flight := none, lastSense := some sense }
  have hfailed (t : State) (sense : Sense) : t.OnLine l (t.normalFailed l sense) :=
    ((State.OnLine.onLine ..).writeReport ..).trans (.applyPendingSet ..)
  have hprobed (t : State) : t.OnLine l (t.probeFailed l) := (State.OnLine.onLine ..).trans (.applyPendingSet ..)
  unfold State.completeImpulse
  dsimp only
  split
  · refine hdone.trans ?_
    unfold State.normalOk
    dsimp only
    split
    · exact (State.OnLine.onLine ..).trans (.applyPendingSet ..)
    · exact (State.OnLine.onLine ..).trans (.evaluateLine ..)
  · exact hdone.trans (hfailed _ _)
  · exact hdone.trans (hfailed _ _)
  · refine hdone.trans ?_
    unfold State.probeOk
    dsimp only
    split
    · exact ((State.OnLine.onLine ..).writeReport ..).trans (.applyPendingSet ..)
    · exact ((State.OnLine.onLine ..).writeReport ..).startLine
  · exact hdone.trans (hprobed _)
  · exact hdone.trans (hprobed _)

/-- An operation on one line keeps both sound where it keeps that one sound. -/
theorem State.ClockLinesSound.on {s t : State} {l : ClockLineName} (h : s.ClockLinesSound) (hon : s.OnLine l t) (hl : (t.line l).Sound) :
    t.ClockLinesSound := fun l' => by
  by_cases hne : l' = l
  · exact hne ▸ hl
  · exact hon.others l' hne ▸ h l'

/-! ### A line on its own -/

theorem evaluation_cases (lag positions holdLimit : Nat) (atBoundary : Bool) :
    ((evaluation lag positions holdLimit atBoundary).1 = .run ∨ (evaluation lag positions holdLimit atBoundary).1 = .catchUp) ∨
      evaluation lag positions holdLimit atBoundary = (.hold, false) := by
  unfold evaluation
  split
  · exact .inl (.inl rfl)
  · split
    · exact .inr rfl
    · split
      · exact .inl (.inl rfl)
      · exact .inl (.inr rfl)

theorem dialHas_nextPosition {interval shown : Nat} (h : dialHas interval shown) : dialHas interval (nextPosition interval shown) := by
  obtain ⟨hi, hs⟩ := h
  exact ⟨hi, Nat.mod_lt _ (by omega)⟩

/-- What an evaluation needs of a line (R169): a dial with its position, nothing in flight and no probe due. -/
structure ClockLine.Ready (l : ClockLine) : Prop where
  dial : ∃ interval shown, l.interval = some interval ∧ l.shown = some shown ∧ dialHas interval shown
  polarity : l.polarity.isSome
  flight : l.flight = none
  probe : l.probe = none

theorem ClockLine.Ready.dials {l : ClockLine} (h : l.Ready) {i x : Nat} (hi : l.interval = some i) (hx : l.shown = some x) :
    dialHas i x := by
  obtain ⟨⟨interval, shown, hinterval, hshown, hdial⟩, -, -, -⟩ := h
  cases hinterval.symm.trans hi
  cases hshown.symm.trans hx
  exact hdial

theorem ClockLine.Ready.evaluated {l : ClockLine} (h : l.Ready) (hset : l.pendingSet = none) (ctMs holdLimit : Nat) (atBoundary : Bool) :
    (l.evaluated ctMs holdLimit atBoundary).Sound := by
  obtain ⟨⟨interval, shown, hi, hs, hdial⟩, hpolarity, hflight, hprobe⟩ := h
  have hstate := evaluation_cases (dialLag interval ctMs shown) (dialPositions interval) holdLimit atBoundary
  simp only [ClockLine.evaluated, hi, hs]
  exact {
    dial := fun i x hi' hs' => by cases hi'; cases hs'; exact hdial
    known := fun _ => ⟨rfl, rfl, hpolarity⟩
    wanted := fun hw => by
      rcases hstate with hstate | hstate
      · exact ⟨hstate, hflight⟩
      · simp [hstate] at hw
    normal := fun i hf => by simp [hflight] at hf
    probing := fun i hf => by simp [hflight] at hf
    probe := fun hp => by simp [hprobe] at hp
    fault := fun hf => by rcases hstate with (hstate | hstate) | hstate <;> simp [hstate] at hf
    noted := nofun
    pending := fun hp => by simp [hset] at hp
    pendingDial := fun i x p hp => by simp [hset] at hp }

/-- A line in service with nothing in flight can be evaluated. -/
theorem ClockLine.Sound.ready {l : ClockLine} (h : l.Sound) (hserving : l.inService = true) (hflight : l.flight = none) : l.Ready := by
  have hstate : l.state ≠ .stopped ∧ l.state ≠ .fault := by
    constructor <;> intro hs <;> simp [ClockLine.inService, hs] at hserving
  obtain ⟨hi, hs, hp⟩ := h.known hstate.1
  obtain ⟨interval, hi⟩ := Option.isSome_iff_exists.mp hi
  obtain ⟨shown, hs⟩ := Option.isSome_iff_exists.mp hs
  refine ⟨⟨interval, shown, hi, hs, h.dial _ _ hi hs⟩, hp, hflight, ?_⟩
  by_contra hne
  exact hstate.2 (h.probe (Option.isSome_iff_ne_none.mpr hne))

theorem ClockLine.Sound.noSet {l : ClockLine} (h : l.Sound) (hflight : l.flight = none) : l.pendingSet = none := by
  by_contra hne
  simpa [hflight] using h.pending (Option.isSome_iff_ne_none.mpr hne)

theorem ClockLine.Sound.startIfDue {l : ClockLine} (h : l.Sound) (rt : Nat) (c : Params) : (l.startIfDue rt c).Sound := by
  unfold ClockLine.startIfDue
  split
  · rename_i hmay
    have hstate : l.state = .run ∨ l.state = .catchUp := by
      simp only [ClockLine.mayStart, Bool.and_eq_true, Bool.or_eq_true, decide_eq_true_eq] at hmay
      exact hmay.1.1.1
    exact {
      dial := h.dial
      known := h.known
      wanted := nofun
      normal := fun _ _ _ => hstate
      probing := fun i hi hk => by cases hi; cases hk
      probe := h.probe
      fault := fun hf => by rcases hstate with hs | hs <;> simp [ClockLine.started, hs] at hf
      noted := fun _ => rfl
      pending := fun _ => rfl
      pendingDial := h.pendingDial }
  · exact h

/-- A counted impulse leaves a line with a dial that has its new position (R168). -/
theorem ClockLine.Ready.stepped {l : ClockLine} (h : l.Ready) : l.stepped.Ready := by
  obtain ⟨⟨interval, shown, hi, hs, hdial⟩, hpolarity, hflight, hprobe⟩ := h
  exact {
    dial := ⟨interval, nextPosition interval shown, hi, by simp [ClockLine.stepped, hi, hs], dialHas_nextPosition hdial⟩
    polarity := by simpa [ClockLine.stepped] using hpolarity
    flight := hflight
    probe := hprobe }

/-! ### What each operation makes of its line -/

/-- A set applied to a line with nothing in flight and no set held gives a sound line, whatever the line's state (R178, R179). -/
theorem State.applySet_sound (s : State) (l : ClockLineName) (set : ClockSet)
    (hdial : ∀ interval shown, (s.line l).interval = some interval → (s.line l).shown = some shown → dialHas interval shown)
    (hset : ∀ interval shown polarity, set = .run interval shown polarity → dialHas interval shown)
    (hflight : (s.line l).flight = none) (hheld : (s.line l).pendingSet = none) : ((s.applySet l set).line l).Sound := by
  cases set with
  | run interval shown polarity =>
    have hready : ((s.line l).setRun interval shown polarity).Ready :=
      { dial := ⟨interval, shown, rfl, rfl, hset _ _ _ rfl⟩, polarity := rfl, flight := hflight, probe := rfl }
    simpa [State.applySet] using (hready.evaluated hheld s.ctMs s.orh.params.holdLimit false).startIfDue s.tbu.rt s.orh.params
  | stop =>
    simp only [State.applySet, State.line_write, State.line_onLine]
    exact {
      dial := hdial
      known := fun h => absurd rfl h
      wanted := nofun
      normal := fun i h => by simp [ClockLine.setStop, hflight] at h
      probing := fun i h => by simp [ClockLine.setStop, hflight] at h
      probe := nofun
      fault := nofun
      noted := nofun
      pending := fun h => by simp [ClockLine.setStop, hheld] at h
      pendingDial := fun i x p h => by simp [ClockLine.setStop, hheld] at h }

/-- What the application of a set held needs of a line with nothing in flight: with no set held it is sound, and a set held names a position of its
dial. -/
structure ClockLine.Holding (l : ClockLine) : Prop where
  unheld : l.pendingSet = none → l.Sound
  dial : ∀ interval shown, l.interval = some interval → l.shown = some shown → dialHas interval shown
  flight : l.flight = none
  held : ∀ interval shown polarity, l.pendingSet = some (.run interval shown polarity) → dialHas interval shown

theorem State.applyPendingSet_sound (s : State) (l : ClockLineName) (h : (s.line l).Holding) : ((s.applyPendingSet l).line l).Sound := by
  unfold State.applyPendingSet
  split
  · rename_i set hset
    refine State.applySet_sound _ l set ?_ (fun i x p hp => h.held i x p (by rw [hset, hp])) ?_ ?_
    · simpa using h.dial
    · simpa using h.flight
    · simp
  · exact h.unheld ‹_›

theorem State.evaluateLine_sound (s : State) (l : ClockLineName) (atBoundary : Bool) (h : (s.line l).Ready)
    (hset : (s.line l).pendingSet = none) : ((s.evaluateLine l atBoundary).line l).Sound := by
  rw [State.line_evaluateLine]
  exact (h.evaluated hset ..).startIfDue ..

theorem State.takeSet_sound (s : State) (l : ClockLineName) (set : ClockSet) (h : (s.line l).Sound)
    (hset : ∀ interval shown polarity, set = .run interval shown polarity → dialHas interval shown) : ((s.takeSet l set).line l).Sound := by
  unfold State.takeSet
  split
  · rename_i hflight
    rw [State.line_onLine]
    exact { h with pending := fun _ => hflight, pendingDial := fun i x p hp => hset i x p (Option.some.inj hp) }
  · rename_i hflight
    have hflight : (s.line l).flight = none := by simpa using hflight
    exact s.applySet_sound l set h.dial hset hflight (h.noSet hflight)

/-- A line whose impulse has just completed (R172). -/
def ClockLine.landed (x : ClockLine) (sense : Sense) : ClockLine := { x with flight := none, lastSense := some sense }

theorem ClockLine.Sound.landed_ready {x : ClockLine} (h : x.Sound) (sense : Sense) (hknown : x.state ≠ .stopped) (hprobe : x.probe = none) :
    (x.landed sense).Ready := by
  obtain ⟨hi, hs, hp⟩ := h.known hknown
  obtain ⟨interval, hi⟩ := Option.isSome_iff_exists.mp hi
  obtain ⟨shown, hs⟩ := Option.isSome_iff_exists.mp hs
  exact ⟨⟨interval, shown, hi, hs, h.dial _ _ hi hs⟩, hp, rfl, hprobe⟩

theorem ClockLine.Sound.probe_none {x : ClockLine} (h : x.Sound) (hstate : x.state ≠ .fault) : x.probe = none := by
  by_contra hne
  exact hstate (h.probe (Option.isSome_iff_ne_none.mpr hne))

/-- A line in FAULT with its probe set and nothing in flight, whatever it held before (R175, R177). -/
theorem ClockLine.Sound.faulted {x : ClockLine} (h : x.Sound) (hstate : x.state ≠ .stopped) (sense : Sense) (probe : Nat) :
    { x.landed sense with state := .fault, wanted := false, noted := false, probe := some probe }.Holding where
  unheld := fun hset => {
    dial := h.dial
    known := fun _ => h.known hstate
    wanted := nofun
    normal := nofun
    probing := nofun
    probe := fun _ => rfl
    fault := fun _ _ => rfl
    noted := nofun
    pending := fun hp => by rw [hset] at hp; cases hp
    pendingDial := h.pendingDial }
  dial := h.dial
  flight := rfl
  held := h.pendingDial

/-- A line ready for evaluation, with any set held: evaluated, it is sound but for that set. -/
theorem ClockLine.Ready.evaluated_holding {x : ClockLine} (h : x.Ready) (ctMs holdLimit : Nat) (atBoundary : Bool)
    (hheld : ∀ interval shown polarity, x.pendingSet = some (.run interval shown polarity) → dialHas interval shown) :
    (x.evaluated ctMs holdLimit atBoundary).Holding := by
  obtain ⟨⟨interval, shown, hi, hs, hdial⟩, hpolarity, hflight, hprobe⟩ := h
  have hready : x.Ready := ⟨⟨interval, shown, hi, hs, hdial⟩, hpolarity, hflight, hprobe⟩
  have hx : (x.evaluated ctMs holdLimit atBoundary).interval = x.interval ∧ (x.evaluated ctMs holdLimit atBoundary).shown = x.shown ∧
      (x.evaluated ctMs holdLimit atBoundary).flight = x.flight ∧
      (x.evaluated ctMs holdLimit atBoundary).pendingSet = x.pendingSet := by
    simp [ClockLine.evaluated, hi, hs]
  obtain ⟨hxi, hxs, hxf, hxp⟩ := hx
  exact {
    unheld := fun hset => hready.evaluated (hxp ▸ hset) ..
    dial := fun i y hi' hs' => by
      rw [hxi, hi] at hi'; rw [hxs, hs] at hs'
      cases hi'; cases hs'; exact hdial
    flight := hxf.trans hflight
    held := by rwa [hxp] }

theorem State.completeImpulse_sound (s : State) (l : ClockLineName) (impulse : Impulse) (sense : Sense) (h : (s.line l).Sound)
    (hflight : (s.line l).flight = some impulse) : ((s.completeImpulse l impulse sense).line l).Sound := by
  have hline : (s.onLine l fun x => { x with flight := none, lastSense := some sense }).line l = (s.line l).landed sense :=
    s.line_onLine l _
  have hnormal (hk : impulse.kind = .normal) : (s.line l).state ≠ .stopped ∧ (s.line l).state ≠ .fault := by
    rcases h.normal impulse hflight hk with hs | hs <;> simp [hs]
  have hprobing (hk : impulse.kind = .probe) := h.probing impulse hflight hk
  have hdials : ∀ interval shown polarity, (s.line l).pendingSet = some (.run interval shown polarity) → dialHas interval shown :=
    h.pendingDial
  unfold State.completeImpulse
  generalize hs1 : (s.onLine l fun x => { x with flight := none, lastSense := some sense }) = s1 at hline
  have hfailed (hk : impulse.kind = .normal) (x : Sense) : ((s1.normalFailed l x).line l).Sound := by
    refine State.applyPendingSet_sound _ l ?_
    simpa [hline] using h.faulted (hnormal hk).1 sense _
  have hprobed (hk : impulse.kind = .probe) : ((s1.probeFailed l).line l).Sound := by
    refine State.applyPendingSet_sound _ l ?_
    have hfault := (hprobing hk).1
    have hwanted : (s.line l).wanted = false := by
      by_contra hw
      rcases (h.wanted (by simpa using hw)).1 with hs | hs <;> simp [hfault] at hs
    have := h.faulted (by simp [hfault]) sense (s1.tbu.rt + s1.orh.params.probePeriod * usPerSecond)
    simpa [hline, ClockLine.landed, hfault, hwanted] using this
  dsimp only
  split
  · rename_i hk
    have hready := (h.landed_ready .ok (hnormal hk).1 (h.probe_none (hnormal hk).2)).stepped
    unfold State.normalOk
    dsimp only
    split
    · rename_i hset
      refine State.applyPendingSet_sound _ l ?_
      rw [State.line_onLine, hline]
      exact {
        unheld := fun hnone => by rw [State.line_onLine, hline, hnone] at hset; cases hset
        dial := fun _ _ hi hx => hready.dials hi hx
        flight := rfl
        held := hdials }
    · rename_i hset
      rw [State.line_onLine, hline] at hset
      exact State.evaluateLine_sound _ l _ (by rw [State.line_onLine, hline]; exact hready) (by rw [State.line_onLine, hline]; exact hset)
  · exact hfailed ‹_› _
  · exact hfailed ‹_› _
  · rename_i hk
    have hfault := hprobing hk
    have hready := (h.landed_ready .ok (by simp [hfault.1]) hfault.2).stepped
    have hholding := hready.evaluated_holding s1.ctMs s1.orh.params.holdLimit ((s.line l).landed .ok).noted hdials
    unfold State.probeOk
    dsimp only
    split
    · refine State.applyPendingSet_sound _ l ?_
      simpa [hline] using hholding
    · rename_i hset
      simp only [State.line_writeReport, State.line_onLine, hline] at hset
      simp only [State.line_startLine, State.line_writeReport, State.line_onLine, hline]
      exact (hholding.unheld hset).startIfDue ..
  · exact hprobed ‹_›
  · exact hprobed ‹_›

end Sys2Proof.Machine
end

section
/-! The clock lines through every operation: the time changes' announcements, the lines' own events and the orders (R170 to R181). -/

namespace Sys2Proof.Machine

theorem State.ClockLinesSound.evaluateLine {s : State} (h : s.ClockLinesSound) (l : ClockLineName) (atBoundary : Bool)
    (hserving : (s.line l).inService = true) (hflight : (s.line l).flight = none) : (s.evaluateLine l atBoundary).ClockLinesSound :=
  h.on (.evaluateLine s l atBoundary) (s.evaluateLine_sound l atBoundary ((h l).ready hserving hflight) ((h l).noSet hflight))

theorem State.ClockLinesSound.announceToLine {s : State} (h : s.ClockLinesSound) (l : ClockLineName) :
    (s.announceToLine l).ClockLinesSound := by
  unfold State.announceToLine
  split
  · rename_i hanswers
    simp only [ClockLine.answersAnnouncement, Bool.and_eq_true, Option.isNone_iff_eq_none] at hanswers
    exact h.evaluateLine l false hanswers.1 hanswers.2
  · exact h

theorem State.ClockLinesSound.announceToLines {s : State} (h : s.ClockLinesSound) : s.announceToLines.ClockLinesSound := by
  unfold State.announceToLines
  split
  · have h1 : (s.onClk fun c => { c with choices := c.choices + 1 }).ClockLinesSound := h.of_cld rfl
    dsimp only
    split
    · exact (h1.announceToLine .a).announceToLine .b
    · exact (h1.announceToLine .b).announceToLine .a
  · exact (h.announceToLine .a).announceToLine .b

theorem State.ClockLinesSound.announce {s : State} (h : s.ClockLinesSound) (a : Announcement) : (s.announce a).ClockLinesSound :=
  (h.of_cld (by simp) : (s.announceToTtc a).ClockLinesSound).announceToLines

theorem State.ClockLinesSound.takeSeason {s : State} (h : s.ClockLinesSound) : s.takeSeason.ClockLinesSound := by
  unfold State.takeSeason
  split
  · exact (h.of_cld (by simp) : s.applySeasonIfReached.ClockLinesSound).announce _
  · exact h

theorem State.ClockLinesSound.setTime {s : State} (h : s.ClockLinesSound) (ms offset : Nat) : (s.setTime ms offset).ClockLinesSound := by
  unfold State.setTime
  exact (h.of_cld (by simp)).announce _

theorem State.ClockLinesSound.actOnMark {s : State} (h : s.ClockLinesSound) (n : Nat) (labelled : Bool) :
    (s.actOnMark n labelled).ClockLinesSound := by
  obtain ⟨e, heq | heq | ⟨heq, -, -⟩⟩ := s.actOnMark_cases n labelled <;> rw [heq]
  · unfold State.stepMark
    exact (h.of_cld (by simp [State.stepClock])).announce _
  · exact h.of_cld (by simp)
  · exact h.of_cld (by simp)

theorem State.ClockLinesSound.takeMark {s : State} (h : s.ClockLinesSound) : s.takeMark.ClockLinesSound := by
  unfold State.takeMark
  extract_lets s1
  have hacted (n : Nat) (labelled : Bool) : (s1.actOnMark n labelled).ClockLinesSound :=
    State.ClockLinesSound.actOnMark (s := s1) (h.of_cld rfl) n labelled
  split
  · exact hacted _ _
  · split
    · exact h.of_cld rfl
    · exact h.of_cld rfl
    · exact hacted _ _
    · exact hacted _ _
    · exact hacted _ _

/-- A boundary noted while an impulse is in flight (R170). -/
theorem ClockLine.Sound.noted_set {x : ClockLine} (h : x.Sound) (hflight : x.flight.isSome = true) : { x with noted := true }.Sound :=
  { h with noted := fun _ => hflight }

/-- A probe started at the probe expiry (R176). -/
theorem ClockLine.Sound.probing_started {x : ClockLine} (h : x.Sound) (hstate : x.state = .fault) (rt : Nat) (c : Params) :
    { x.started .probe rt c with probe := none }.Sound where
  dial := h.dial
  known := h.known
  wanted := fun hw => by rcases (h.wanted hw).1 with hs | hs <;> simp [hstate] at hs
  normal := fun i hi hk => by cases hi; cases hk
  probing := fun _ _ _ => ⟨hstate, rfl⟩
  probe := nofun
  fault := nofun
  noted := fun _ => rfl
  pending := fun _ => rfl
  pendingDial := h.pendingDial

theorem State.Acts.clockLinesSound {wf : Prop} {s t : State} (h : s.Acts wf t) (hs : s.ClockLinesSound) : t.ClockLinesSound := by
  cases h with
  | timeSet ms offset => exact hs.setTime ms offset
  | seasonScheduled offset minute => exact State.ClockLinesSound.takeSeason (s := s.onTbu _) (hs.of_cld rfl)
  | clockSet l set dial =>
    refine hs.on ⟨fun l' hl => ?_⟩ (s.takeSet_sound l set (hs l) dial)
    unfold State.takeSet
    split
    · exact s.line_onLine_of_ne hl _
    · exact (State.OnLine.applySet s l set).others l' hl
  | mark => exact hs.takeMark
  | season => exact hs.takeSeason
  | boundaryNoted l due flight =>
    have h1 : (s.takeBoundary l).ClockLinesSound := hs.of_cld (by simp)
    exact h1.on (.onLine ..) (by simpa using (hs l).noted_set flight)
  | boundaryEvaluated l due flight serving =>
    have h1 : (s.takeBoundary l).ClockLinesSound := hs.of_cld (by simp)
    exact h1.evaluateLine l true (by simpa using serving) (by simpa using flight)
  | spacing l => exact hs.on (State.OnLine.startLine (.refl ..)) (by simpa using (hs l).startIfDue ..)
  | completion l impulse sense flight =>
    have h1 : (s.withSense l sense).ClockLinesSound := hs.of_cld (by simp)
    exact h1.on (.completeImpulse ..) (State.completeImpulse_sound _ l impulse sense (h1 l) (by simpa using flight))
  | probe l due =>
    simp only [State.probeDue, Bool.and_eq_true, decide_eq_true_eq] at due
    exact hs.on (.onLine ..) (by simpa using (hs l).probing_started due.1.1 s.tbu.rt s.orh.params)
  | _ => exact hs.of_cld (by simp)

theorem ClockLine.fresh_sound : ({} : ClockLine).Sound where
  dial := nofun
  known := fun h => absurd rfl h
  wanted := nofun
  normal := nofun
  probing := nofun
  probe := nofun
  fault := nofun
  noted := nofun
  pending := nofun
  pendingDial := nofun

theorem step_keeps_clockLinesSound {s t : State} (h : step s = .next t) (hs : s.ClockLinesSound) : t.ClockLinesSound := by
  refine step_keeps False (fun s rest n h => h.of_cld rfl) (fun s h => h.of_cld rfl) ?_ nofun h hs
  exact fun c s t hwf h hs => exec_keeps False (fun s t hst h => h.of_cld (by rw [hst]; rfl)) (fun s t ht h => ht.clockLinesSound h)
    (fun s straps rate _ l => by cases l <;> exact ClockLine.fresh_sound) hwf h hs

end Sys2Proof.Machine
end

section
/-! The line unit and its receivers, sound after every byte and every operation (R2, R5, R7, R9 to R16). -/

namespace Sys2Proof.Machine

/-! ### A port's receiver and capture after an update -/

@[simp] theorem State.rx_onRx (s : State) (p : Port) (f : Receiver → Receiver) : (s.onRx p f).rx p = f (s.rx p) := by cases p <;> rfl
@[simp] theorem State.rx_setCapture (s : State) (p p' : Port) (c : Option Capture) : (s.setCapture p c).rx p' = s.rx p' := by cases p <;> rfl
@[simp] theorem State.rx_lineError (s : State) (p p' : Port) : (s.lineError p).rx p' = s.rx p' := by cases p <;> cases p' <;> rfl
@[simp] theorem State.capture_onRx (s : State) (p p' : Port) (f : Receiver → Receiver) : (s.onRx p f).capture p' = s.capture p' := by
  cases p <;> cases p' <;> rfl
@[simp] theorem State.capture_onLiu (s : State) (p : Port) (f : Liu → Liu) : (s.onLiu f).capture p = s.capture p := by cases p <;> rfl
@[simp] theorem State.capture_lineError (s : State) (p p' : Port) : (s.lineError p).capture p' = s.capture p' := by
  cases p <;> cases p' <;> rfl
@[simp] theorem State.capture_setCapture (s : State) (p : Port) (c : Option Capture) : (s.setCapture p c).capture p = c := by cases p <;> rfl
@[simp] theorem State.rx_release (s : State) (p : Port) : (s.release p).rx p = {} := by cases p <;> rfl
@[simp] theorem State.capture_release (s : State) (p : Port) : (s.release p).capture p = none := by cases p <;> rfl
@[simp] theorem State.capture_relayOn (s : State) (p p' : Port) (b : Byte) : (s.relayOn p b).capture p' = s.capture p' := by
  unfold State.relayOn
  split <;> simp

/-- Two states that agree at every other port. -/
structure State.AtPort (s : State) (p : Port) (t : State) : Prop where
  rx : ∀ p', p' ≠ p → t.rx p' = s.rx p'
  capture : ∀ p', p' ≠ p → t.capture p' = s.capture p'

theorem State.AtPort.refl (s : State) (p : Port) : s.AtPort p s := ⟨fun _ _ => rfl, fun _ _ => rfl⟩

theorem State.AtPort.trans {s t u : State} {p : Port} (h : s.AtPort p t) (h' : t.AtPort p u) : s.AtPort p u :=
  ⟨fun p' hp => (h'.rx p' hp).trans (h.rx p' hp), fun p' hp => (h'.capture p' hp).trans (h.capture p' hp)⟩

theorem State.AtPort.onRx (s : State) (p : Port) (f : Receiver → Receiver) : s.AtPort p (s.onRx p f) where
  rx p' hp := by cases p <;> cases p' <;> first | exact absurd rfl hp | rfl
  capture := by simp

theorem State.AtPort.setCapture (s : State) (p : Port) (c : Option Capture) : s.AtPort p (s.setCapture p c) where
  rx := by simp
  capture p' hp := by cases p <;> cases p' <;> first | exact absurd rfl hp | rfl

theorem State.AtPort.lineError (s : State) (p : Port) : s.AtPort p (s.lineError p) := ⟨by simp, by simp⟩

theorem State.AtPort.release (s : State) (p : Port) : s.AtPort p (s.release p) := (State.AtPort.onRx ..).trans (.setCapture ..)

/-! ### The relay -/

/-- Relaying touches the two transmitters, the F-port's count and the mark that its telegram has lost a byte, and keeps the line unit sound. -/
structure Liu.Relayed (l l' : Liu) : Prop where
  frame : l' = { l with holdBuffer := l'.holdBuffer, errorsF := l'.errorsF, tx := l'.tx, fOut := l'.fOut
                        rxF := { l.rxF with cut := l'.rxF.cut } }
  sound : l.Sound → l'.Sound

theorem Liu.Relayed.refl (l : Liu) : l.Relayed l := ⟨rfl, id⟩

theorem Liu.Relayed.trans {l l' l'' : Liu} (h : l.Relayed l') (h' : l'.Relayed l'') : l.Relayed l'' where
  frame := by rw [h'.frame, h.frame]
  sound hl := h'.sound (h.sound hl)

theorem countUp_le_max (n : Nat) : countUp n ≤ 65535 := Nat.min_le_right ..

theorem Liu.Sound.countedF {l : Liu} (h : l.Sound) : { l with errorsF := countUp l.errorsF }.Sound := { h with errorsF := countUp_le_max _ }
theorem Liu.Sound.countedI {l : Liu} (h : l.Sound) : { l with errorsI := countUp l.errorsI }.Sound := { h with errorsI := countUp_le_max _ }

theorem Liu.cutTelegram_relayed (l : Liu) : l.Relayed l.cutTelegram := by
  unfold Liu.cutTelegram
  split
  · exact ⟨rfl, fun h => { h with errorsF := countUp_le_max _ }⟩
  · exact .refl l

/-- A byte held joins what is sent already, or a part telegram is sent. -/
theorem Liu.hold_relayed (l : Liu) (b : Byte) (hbusy : l.Sound → l.tx ≠ .idle ∧ ∀ direct, l.tx = .relaying direct → l.holdBuffer ≠ []) :
    l.Relayed (l.hold b) := by
  unfold Liu.hold
  split
  · rename_i hroom
    refine ⟨rfl, fun h => ?_⟩
    obtain ⟨hidle, hholding⟩ := hbusy h
    exact { h with
      hold := by simpa [holdSize] using hroom
      idle := fun htx => absurd htx hidle
      relaying := fun direct htx => by
        have := (h.relaying direct htx).mpr (hholding direct htx)
        simp [this] }
  · exact l.cutTelegram_relayed

theorem Liu.relayUp_relayed (l : Liu) (b : Byte) : l.Relayed (l.relayUp b) := by
  unfold Liu.relayUp
  split
  · rename_i htx
    exact l.hold_relayed b fun _ => by simp [htx]
  · rename_i htx hempty
    exact ⟨rfl, fun h => { h with idle := nofun, relaying := fun direct hd => by cases hd; simp [hempty] }⟩
  · rename_i htx hfull
    exact l.hold_relayed b fun h => absurd (h.idle htx) (by simp [hfull])
  · rename_i direct htx hempty
    exact ⟨rfl, fun h => { h with idle := nofun, relaying := fun direct hd => by cases hd; simp [hempty] }⟩
  · rename_i htx hfull
    exact l.hold_relayed b fun _ => by simp [htx, hfull]

theorem Liu.relay_relayed (l : Liu) (p : Port) (b : Byte) : l.Relayed (l.relay p b) := by
  cases p with
  | i => exact ⟨rfl, fun h => { h with }⟩
  | f => exact l.relayUp_relayed b

theorem Liu.relayAll_relayed (l : Liu) (p : Port) (bs : List Byte) : l.Relayed (l.relayAll p bs) := by
  induction bs generalizing l with
  | nil => exact .refl l
  | cons b bs ih => exact (l.relay_relayed p b).trans (ih _)

/-- What relaying at a port makes of that port's receiver: it may mark its telegram cut. -/
theorem State.rx_relayed (s : State) (p : Port) {f : Liu → Liu} (h : s.liu.Relayed (f s.liu)) :
    ∃ cut, (s.onLiu f).rx p = { s.rx p with cut := cut } := by
  cases p with
  | i => exact ⟨s.liu.rxI.cut, by simp only [State.rx, State.onLiu_liu]; rw [h.frame]⟩
  | f => exact ⟨(f s.liu).rxF.cut, by simp only [State.rx, State.onLiu_liu]; conv_lhs => rw [h.frame]⟩

theorem State.AtPort.relayAll (s : State) (p : Port) (bs : List Byte) : s.AtPort p (s.onLiu fun l => l.relayAll p bs) where
  rx p' hp := by
    cases p with
    | i =>
      cases p' with
      | i => exact absurd rfl hp
      | f => simp [State.rx, Liu.relayAll_i]
    | f =>
      cases p' with
      | i => simp only [State.rx, State.onLiu_liu]; rw [(s.liu.relayAll_relayed .f bs).frame]
      | f => exact absurd rfl hp
  capture := by simp

theorem State.AtPort.relayOn (s : State) (p : Port) (b : Byte) : s.AtPort p (s.relayOn p b) := by
  unfold State.relayOn
  split
  · exact .refl s p
  · exact .relayAll s p [b]

theorem State.relayOn_relayed (s : State) (p : Port) (b : Byte) : s.liu.Relayed (s.relayOn p b).liu := by
  unfold State.relayOn
  split
  · exact .refl _
  · exact s.liu.relay_relayed p b

theorem State.rx_relayOn (s : State) (p : Port) (b : Byte) : ∃ cut, (s.relayOn p b).rx p = { s.rx p with cut := cut } := by
  unfold State.relayOn
  split
  · exact ⟨(s.rx p).cut, rfl⟩
  · exact s.rx_relayed p (s.liu.relay_relayed p b)

/-! ### The line unit sound, whatever its receivers -/

theorem State.onRx_liu_sound {s : State} (p : Port) (f : Receiver → Receiver) (h : s.liu.Sound) : (s.onRx p f).liu.Sound := by
  cases p with
  | i => exact { h with }
  | f => exact { h with }

theorem State.lineError_liu_sound {s : State} (p : Port) (h : s.liu.Sound) : (s.lineError p).liu.Sound := by
  cases p with
  | i => exact h.countedI
  | f => exact h.countedF

theorem State.release_liu_sound {s : State} (p : Port) (h : s.liu.Sound) : (s.release p).liu.Sound := by
  simpa [State.release] using s.onRx_liu_sound p _ h

theorem Liu.Sound.byteSent {l : Liu} (h : l.Sound) : l.byteSent.Sound := by
  unfold Liu.byteSent
  split
  · rename_i direct b rest htx hheld
    have hdirect : direct = [] := (h.relaying direct htx).mpr (by simp [hheld])
    have hsize := h.hold
    rw [hheld, List.length_cons] at hsize
    refine { h with hold := by simpa using Nat.le_of_succ_le hsize, idle := fun hi => ?_, relaying := fun d hd => ?_ }
    · by_contra hrest
      simp [hrest] at hi
    · split at hd
      · cases hd
      · rename_i hmore
        cases hd
        simpa [hdirect] using hmore
  · rename_i b rest htx hempty
    refine { h with idle := fun _ => hempty, relaying := fun d hd => ?_ }
    split at hd
    · cases hd
    · rename_i hmore
      cases hd
      simp [hmore, hempty]
  · rename_i hempty
    exact { h with idle := fun _ => hempty, relaying := nofun }
  · exact h
  · exact h

theorem Liu.byteSent_rx (l : Liu) : l.byteSent.rxI = l.rxI ∧ l.byteSent.rxF = l.rxF := by
  unfold Liu.byteSent
  split <;> exact ⟨rfl, rfl⟩

/-! ### Receivers -/

theorem Receiver.fresh_sound : ({} : Receiver).Sound none := ⟨rfl, by decide, nofun⟩

/-- A receiver outside a telegram, or in one that is skipped, holds nothing and no capture. -/
theorem Receiver.Sound.resting {r : Receiver} {c : Option Capture} (h : r.Sound c) (hh : r.state ≠ .header) (hb : r.state ≠ .body) :
    r.lag = [] ∧ c = none := by
  constructor
  · have := h.lag
    rw [if_neg fun hx => hh hx.1] at this
    exact List.length_eq_zero_iff.mp this
  · by_contra hne
    rcases h.capture.mp (Option.isSome_iff_ne_none.mpr hne) with hx | hx
    · exact hh hx
    · exact hb hx

/-- A receiver that stands outside every telegram being received, with nothing in the lag stage and no capture. -/
theorem Receiver.sound_of_resting {r : Receiver} (hh : r.state ≠ .header) (hb : r.state ≠ .body) (hlag : r.lag = []) : r.Sound none where
  lag := by rw [if_neg fun hx => hh hx.1, hlag]; rfl
  capture := by simp [hh, hb]
  expecting := fun hx => absurd hx hb

theorem State.lineSound_iff (s : State) : s.LineSound ↔ s.liu.Sound ∧ ∀ p, (s.rx p).Sound (s.capture p) :=
  ⟨fun ⟨hl, hi, hf⟩ => ⟨hl, fun p => match p with | .i => hi | .f => hf⟩, fun ⟨hl, hp⟩ => ⟨hl, hp .i, hp .f⟩⟩

/-- Work at one port keeps the line sound where it keeps the line unit and that port's receiver so. -/
theorem State.LineSound.at {s t : State} {p : Port} (h : s.LineSound) (hat : s.AtPort p t) (hliu : t.liu.Sound)
    (hrx : (t.rx p).Sound (t.capture p)) : t.LineSound := by
  refine t.lineSound_iff.mpr ⟨hliu, fun p' => ?_⟩
  by_cases hp : p' = p
  · exact hp ▸ hrx
  · rw [hat.rx p' hp, hat.capture p' hp]
    exact (s.lineSound_iff.mp h).2 p'

section
variable {s : State} (h : s.LineSound) (p : Port)
include h

theorem State.LineSound.rx : (s.rx p).Sound (s.capture p) := (s.lineSound_iff.mp h).2 p

theorem State.LineSound.release : (s.release p).LineSound :=
  h.at (.release s p) (s.release_liu_sound p h.1) (by simpa using Receiver.fresh_sound)

theorem State.LineSound.relayOn (b : Byte) : (s.relayOn p b).LineSound := by
  refine h.at (.relayOn s p b) ((s.relayOn_relayed p b).sound h.1) ?_
  obtain ⟨cut, hrx⟩ := s.rx_relayOn p b
  rw [hrx, State.capture_relayOn]
  exact { h.rx p with }

theorem State.LineSound.lineError : (s.lineError p).LineSound :=
  h.at (.lineError s p) (s.lineError_liu_sound p h.1) (by simpa using h.rx p)

theorem State.LineSound.relayAll (bs : List Byte) : (s.onLiu fun l => l.relayAll p bs).LineSound := by
  refine h.at (.relayAll s p bs) ((s.liu.relayAll_relayed p bs).sound h.1) ?_
  obtain ⟨cut, hrx⟩ := s.rx_relayed p (f := fun l => l.relayAll p bs) (s.liu.relayAll_relayed p bs)
  rw [hrx, State.capture_onLiu]
  exact { h.rx p with }

theorem State.LineSound.onRx {f : Receiver → Receiver} (hf : (f (s.rx p)).Sound (s.capture p)) : (s.onRx p f).LineSound :=
  h.at (.onRx s p f) (s.onRx_liu_sound p f h.1) (by simpa using hf)

theorem State.LineSound.takeSilence : (s.takeSilence p).LineSound := by
  have hcut : (s.truncate p).LineSound := ((h.relayAll p _).lineError p).release p
  have hrest (hh : (s.rx p).state ≠ .header) (hb : (s.rx p).state ≠ .body) : (s.onRx p fun _ => {}).LineSound :=
    h.onRx p (((h.rx p).resting hh hb).2 ▸ Receiver.fresh_sound)
  unfold State.takeSilence
  split
  · exact h
  · exact hrest (by simp [*]) (by simp [*])
  · exact hcut
  · exact hcut
  · exact hrest (by simp [*]) (by simp [*])

theorem State.LineSound.beginTelegram (b : Byte) : (s.beginTelegram p b).LineSound :=
  h.at ((State.AtPort.onRx ..).trans (.setCapture ..)) (by simpa [State.beginTelegram] using s.onRx_liu_sound p _ h.1)
    (by simpa [State.beginTelegram] using ⟨by simp, by simp, nofun⟩)

theorem State.LineSound.takeHeader (b : Byte) (hstate : (s.rx p).state = .header) : (s.takeHeader p b).LineSound := by
  have hrx := h.rx p
  have hcap : (s.capture p).isSome := hrx.capture.mpr (.inl hstate)
  unfold State.takeHeader
  split
  · rename_i hframe
    refine h.onRx p ⟨?_, by simp [hstate, hcap], by simp [hstate]⟩
    have := hrx.lag
    simp_all
  · rename_i kindByte hframe
    unfold State.releaseLag
    have hreleased (t : State) (ht : t.LineSound) (hr : ∃ cut, t.rx p = { s.rx p with cut := cut }) (hc : t.capture p = s.capture p)
        (consumed : Bool) : (t.onRx p fun x => { x with lag := [], frame := x.frame ++ [b], consumed := consumed }).LineSound := by
      obtain ⟨cut, hr⟩ := hr
      refine ht.onRx p ?_
      rw [hr, hc]
      exact ⟨by simp [hframe], by simp [hstate, hcap], by simp [hstate]⟩
    dsimp only
    refine hreleased _ ?_ ?_ ?_ _
    · split
      · exact h
      · exact h.relayAll p _
    · split
      · exact ⟨_, rfl⟩
      · exact s.rx_relayed p (s.liu.relayAll_relayed p _)
    · split <;> simp
  · rename_i hnil hone
    have hlag : (s.rx p).lag = [] := by
      have hlong : ¬ (s.rx p).frame.length ≤ 1 := fun hle => by
        rcases hf : (s.rx p).frame with _ | ⟨x, _ | ⟨y, rest⟩⟩
        · exact hnil hf
        · exact hone x hf
        · simp [hf] at hle
      have := hrx.lag
      rw [if_neg fun hx => hlong hx.2] at this
      exact List.length_eq_zero_iff.mp this
    have hon := h.relayOn p b
    obtain ⟨cut, hr⟩ := s.rx_relayOn p b
    unfold State.takeLength
    dsimp only
    split
    · refine hon.onRx p ?_
      rw [hr, State.capture_relayOn]
      exact ⟨by simp [hlag], by simp [hcap], by simp⟩
    · refine h.at ((((State.AtPort.relayOn ..).trans (.onRx ..)).trans (.lineError ..)).trans (.setCapture ..)) ?_ ?_
      · simpa using State.lineError_liu_sound p (State.onRx_liu_sound p _ hon.1)
      · simpa [hr] using Receiver.sound_of_resting (r := { s.rx p with state := .skip, frame := [], cut := cut }) (by simp) (by simp) hlag

theorem State.LineSound.takeByte (b : Byte) (more : (s.rx p).state = .body → 1 < (s.rx p).remaining) : (s.takeByte p b).LineSound := by
  have hrx := h.rx p
  unfold State.takeByte
  split
  · rename_i hstate
    split
    · exact h.beginTelegram p b
    · obtain ⟨hlag, hcap⟩ := hrx.resting (by simp [hstate]) (by simp [hstate])
      have hrelayed : (s.onLiu fun l => l.relay p b).LineSound := h.relayAll p [b]
      refine (hrelayed.lineError p).onRx p ?_
      obtain ⟨cut, hr⟩ := s.rx_relayed p (f := fun l => l.relay p b) (s.liu.relay_relayed p b)
      rw [State.rx_lineError, hr, State.capture_lineError, State.capture_onLiu, hcap]
      exact Receiver.sound_of_resting (by simp) (by simp) hlag
  · split
    · exact h.beginTelegram p b
    · exact h.relayAll p [b]
  · exact h.takeHeader p b ‹_›
  · rename_i hbody
    have hmore := more hbody
    simp only [State.takeBody]
    rw [if_neg (by omega)]
    refine (h.relayOn p b).onRx p ?_
    obtain ⟨cut, hr⟩ := s.rx_relayOn p b
    rw [hr, State.capture_relayOn]
    have := hrx.lag
    have hcap := hrx.capture
    exact ⟨by simp_all, by simp_all, by simp; omega⟩
  · exact h.relayOn p b

end

theorem State.Bytes.lineSound {s t : State} (h : s.Bytes t) (hs : s.LineSound) : t.LineSound := by
  cases h with
  | none => exact hs
  | released p => exact hs.release p
  | silence p => exact hs.takeSilence p
  | sent =>
    obtain ⟨hi, hf⟩ := s.liu.byteSent_rx
    exact ⟨hs.1.byteSent, hi ▸ hs.2.1, hf ▸ hs.2.2⟩
  | arrived p b more => exact hs.takeByte p b more
  | last p b => exact (hs.relayOn p b).release p

end Sys2Proof.Machine
end

section
/-! The line unit sound through its own operations: the rounds, the loss of the line, the turn and its part telegrams (R9 to R16). -/

namespace Sys2Proof.Machine

/-! ### The line unit on its own -/

section
variable {l : Liu} (h : l.Sound)
include h

theorem Liu.Sound.endedTurn : { l with turn := .closed }.Sound := { h with turn := nofun }

/-- A ROUND OPEN's work on the line unit, whose loss expiry is then that of a running line (R9, R12, R14). -/
theorem Liu.Sound.roundOpened (arrival timeout number : Nat) :
    ({ l.openRound arrival timeout with turn := .closed }.runRound number).Sound :=
  { h with loss := by simp [Liu.runRound, Liu.openRound], lostRt := by simp [Liu.runRound], phase := fun hx => absurd rfl hx, round := fun _ => rfl,
           lastOpen := fun _ => rfl, turn := nofun }

theorem Liu.Sound.roundClosed (hphase : l.phase = .opened) (allotment : Nat) :
    { l with phase := .closed, turn := .opened allotment 0 }.Sound where
  hold := h.hold
  errorsI := h.errorsI
  errorsF := h.errorsF
  loss := h.loss
  lostRt := h.lostRt
  phase hstate := by rw [h.phase hstate] at hphase; cases hphase
  round _ := h.round (by simp [hphase])
  lastOpen := h.lastOpen
  turn a n ht := by cases ht; exact ⟨rfl, Nat.zero_le _⟩
  idle := h.idle
  relaying := h.relaying

theorem Liu.Sound.lineReset : { l with phase := .none, round := none, turn := .closed }.Sound :=
  { h with phase := fun _ => rfl, round := fun hx => absurd rfl hx, turn := nofun }

theorem Liu.Sound.lost (rt : Nat) : { l.lose rt with turn := .closed }.Sound :=
  { h with loss := by simp [Liu.lose], lostRt := by simp [Liu.lose], phase := fun _ => rfl, round := fun hx => absurd rfl hx,
           lastOpen := nofun, turn := nofun }

theorem Liu.Sound.moveLossExpiry (timeout : Nat) : (l.moveLossExpiry timeout).Sound := by
  unfold Liu.moveLossExpiry
  split
  · rename_i hloss hopen
    exact { h with loss := by simpa [hloss] using h.loss, lastOpen := fun _ => by simp [hopen] }
  · exact h

theorem Liu.Sound.detached : { l with tx := l.tx.detach }.Sound := by
  have hdetach : (l.tx.detach = .idle ↔ l.tx = .idle) ∧ ∀ direct, l.tx.detach = .relaying direct ↔ l.tx = .relaying direct := by
    cases l.tx <;> simp [Transmitter.detach]
  exact { h with idle := fun hi => h.idle (hdetach.1.mp hi), relaying := fun d hd => h.relaying d ((hdetach.2 d).mp hd) }

theorem Liu.Sound.startPart (bytes : List Byte) (ofSlot : Bool) : (l.startPart bytes ofSlot).Sound :=
  { h with idle := nofun, relaying := nofun }

theorem Liu.Sound.reportCounted {allotment sent : Nat} (hturn : l.turn = .opened allotment sent) (hleft : sent < allotment) :
    { l with turn := .opened allotment (sent + 1) }.Sound :=
  { h with turn := fun a n ht => by cases ht; exact ⟨(h.turn _ _ hturn).1, hleft⟩ }

theorem Liu.Sound.endPart (bytes : List Byte) : (l.endPart bytes).Sound := by
  refine { h with idle := fun hi => ?_, relaying := fun d hd => ?_ }
  · by_contra hne
    simp [Liu.endPart, show l.holdBuffer ≠ [] from hne] at hi
  · by_cases hempty : l.holdBuffer = []
    · simp [Liu.endPart, hempty] at hd
    · simp only [Liu.endPart, List.isEmpty_iff, hempty, if_false] at hd
      cases hd
      exact ⟨fun _ => hempty, fun _ => rfl⟩

end

/-! ### Every operation -/

theorem State.LineSound.of_eq {s t : State} (h : s.LineSound) (hliu : t.liu = s.liu) (hdtu : t.dtu = s.dtu) : t.LineSound := by
  unfold State.LineSound
  rwa [hliu, hdtu]

/-- An operation that leaves the receivers and the captures. -/
theorem State.LineSound.owned {s t : State} (h : s.LineSound) (hliu : t.liu.Sound) (hrx : t.liu.rxI = s.liu.rxI ∧ t.liu.rxF = s.liu.rxF)
    (hdtu : t.dtu = s.dtu) : t.LineSound := by
  refine ⟨hliu, ?_, ?_⟩
  · rw [hrx.1, hdtu]; exact h.2.1
  · rw [hrx.2, hdtu]; exact h.2.2

/-- What each operation of the line unit makes of it, the rest aside. -/
theorem State.takeRoundOpen_liu (s : State) (number : Nat) (c : Capture) :
    (s.takeRoundOpen number c).liu =
      { s.liu.openRound c.rt s.orh.params.lossTimeout with turn := .closed }.runRound number := by
  simp [State.takeRoundOpen, State.endTurn]

theorem State.takeLineReset_liu (s : State) (c : Capture) :
    (s.takeLineReset c).liu = { s.liu with phase := .none, round := none, turn := .closed } := by
  simp [State.takeLineReset, State.endTurn]

theorem State.loseLine_liu (s : State) : s.loseLine.liu = { s.liu.lose s.tbu.rt with turn := .closed } := by
  simp [State.loseLine, State.endTurn]

theorem State.warmRestart_liu (s : State) (c : Capture) :
    (s.warmRestart c).liu = { s.liu with tx := s.liu.tx.detach, turn := .closed } := by
  simp [State.warmRestart, State.restartOrders, State.endTurn]

theorem State.LineSound.takeLoss {s : State} (h : s.LineSound) : s.takeLoss.LineSound := by
  unfold State.takeLoss
  split
  · exact h.owned (s.loseLine_liu ▸ h.1.lost s.tbu.rt) (by rw [s.loseLine_liu]; exact ⟨rfl, rfl⟩) (by simp)
  · exact h

theorem State.LineSound.setParameter {s : State} (h : s.LineSound) (parameter : Nat) (value : Int) (date : Date) :
    (s.setParameter parameter value date).LineSound := by
  unfold State.setParameter State.takeUp
  extract_lets taken s1
  have h2 : (s1.write (.config parameter value (s.orh.params.value parameter) taken) date).LineSound :=
    h.of_eq (by simp [s1]) (by simp [s1])
  generalize s1.write _ date = s2 at h2
  split
  · exact h2.of_eq (by simp) (by simp)
  · split
    · refine State.LineSound.takeLoss (h2.owned (h2.1.moveLossExpiry _) ?_ rfl)
      show (s2.liu.moveLossExpiry _).rxI = _ ∧ (s2.liu.moveLossExpiry _).rxF = _
      unfold Liu.moveLossExpiry
      split <;> exact ⟨rfl, rfl⟩
    · exact h2

theorem State.LineSound.startPartTelegram {s : State} (h : s.LineSound) {allotment sent : Nat}
    (hturn : s.liu.turn = .opened allotment sent) : (s.startPartTelegram allotment sent).LineSound := by
  have hended : s.endTurn.LineSound := h.owned h.1.endedTurn ⟨rfl, rfl⟩ rfl
  unfold State.startPartTelegram
  split
  · exact h.owned (h.1.startPart ..) ⟨rfl, rfl⟩ rfl
  · split
    · rename_i hleft
      split
      · exact h.owned (Liu.Sound.reportCounted (l := s.liu.startPart _ false) (h.1.startPart _ false) hturn hleft) ⟨rfl, rfl⟩ rfl
      · exact hended
    · exact hended

theorem State.LineSound.closeSpentTurn {s : State} (h : s.LineSound) : s.closeSpentTurn.LineSound := by
  unfold State.closeSpentTurn
  split
  · split
    · exact h.owned h.1.endedTurn ⟨rfl, rfl⟩ rfl
    · exact h
  · exact h

theorem State.LineSound.endPartTelegram {s : State} (h : s.LineSound) : s.endPartTelegram.LineSound := by
  unfold State.endPartTelegram
  split
  · rename_i bytes ofSlot _
    extract_lets s1
    have hs1 : s1.LineSound := h.of_eq (by simp only [s1]; split <;> rfl) (by simp only [s1]; split <;> rfl)
    exact State.LineSound.closeSpentTurn (hs1.owned (hs1.1.endPart bytes) ⟨rfl, rfl⟩ rfl)
  · exact h
  · exact h

theorem State.Acts.lineSound {wf : Prop} {s t : State} (h : s.Acts wf t) (hs : s.LineSound) : t.LineSound := by
  cases h with
  | lineError p => exact hs.lineError p
  | roundOpen number c =>
    exact hs.owned (s.takeRoundOpen_liu number c ▸ hs.1.roundOpened ..) (by rw [s.takeRoundOpen_liu]; exact ⟨rfl, rfl⟩) (by simp)
  | roundClose =>
    unfold State.takeRoundClose
    split
    · exact hs
    · exact hs.owned (hs.1.roundClosed ‹_› _) ⟨rfl, rfl⟩ rfl
    · exact hs
  | lineReset c =>
    exact hs.owned (s.takeLineReset_liu c ▸ hs.1.lineReset) (by rw [s.takeLineReset_liu]; exact ⟨rfl, rfl⟩) (by simp)
  | parameter parameter value date => exact hs.setParameter parameter value date
  | restarted c =>
    exact hs.owned (s.warmRestart_liu c ▸ hs.1.detached.endedTurn) (by rw [s.warmRestart_liu]; exact ⟨rfl, rfl⟩) (by simp)
  | loss => exact hs.takeLoss
  | partStart allotment sent turn => exact hs.startPartTelegram turn
  | partEnd => exact hs.endPartTelegram
  | _ => exact hs.of_eq (by simp) (by simp)

theorem State.powerOn_lineSound (s : State) (straps : Nat) (rate : LineRate) : (s.powerOn straps rate).LineSound :=
  ⟨⟨Nat.zero_le _, Nat.zero_le _, Nat.zero_le _, ⟨nofun, nofun⟩, ⟨nofun, nofun⟩, fun _ => rfl, fun h => absurd rfl h, nofun, nofun, fun _ => rfl,
    nofun⟩,
    Receiver.fresh_sound, Receiver.fresh_sound⟩

theorem exec_keeps_lineSound {c : Instr} {s t : State} (h : exec c s = .next t) (hs : s.LineSound) : t.LineSound := by
  by_cases hc : ∃ straps rate, c = .powerOn straps rate
  · obtain ⟨straps, rate, rfl⟩ := hc
    cases h
    exact s.powerOn_lineSound straps rate
  · obtain ⟨u, hu, h⟩ := exec_acts (wf := False) nofun (fun straps rate hc' => hc ⟨straps, rate, hc'⟩) h
    exact h.lineSound (hu.lineSound hs)

theorem step_keeps_lineSound {s t : State} (h : step s = .next t) (hs : s.LineSound) : t.LineSound :=
  step_keeps (P := State.LineSound) False (fun _ _ _ hs => hs.of_eq rfl rfl) (fun _ hs => hs.of_eq rfl rfl)
    (fun _ _ _ _ hexec hs => exec_keeps_lineSound hexec hs) nofun h hs

/-- Settles O58: the bytes and the line unit's operations keep the ports sound, the clock lines' events and orders keep the lines sound. -/
theorem linesStaySound : Obligations.LinesStaySound :=
  ⟨fun _ _ hs h => step_keeps_lineSound h hs, fun s t ha hb h =>
    t.clockLinesSound_iff.mp (step_keeps_clockLinesSound h (s.clockLinesSound_iff.mpr ⟨ha, hb⟩))⟩

end Sys2Proof.Machine
end

section
/-! What has one cause alone: the straps, RT and the trim (R1, R19, R22). -/

namespace Sys2Proof.Machine

/-! ### The straps (R1) -/

@[simp] theorem Liu.byteSent_straps (l : Liu) : l.byteSent.node = l.node ∧ l.byteSent.rate = l.rate := by
  unfold Liu.byteSent
  split <;> exact ⟨rfl, rfl⟩

@[simp] theorem State.onRx_straps (s : State) (p : Port) (f : Receiver → Receiver) :
    (s.onRx p f).liu.node = s.liu.node ∧ (s.onRx p f).liu.rate = s.liu.rate := by cases p <;> exact ⟨rfl, rfl⟩

@[simp] theorem State.lineError_straps (s : State) (p : Port) :
    (s.lineError p).liu.node = s.liu.node ∧ (s.lineError p).liu.rate = s.liu.rate := by cases p <;> exact ⟨rfl, rfl⟩

@[simp] theorem Liu.relayAll_straps (l : Liu) (p : Port) (bs : List Byte) :
    (l.relayAll p bs).node = l.node ∧ (l.relayAll p bs).rate = l.rate := by
  rw [(l.relayAll_relayed p bs).frame]
  exact ⟨rfl, rfl⟩

@[simp] theorem Liu.relay_straps (l : Liu) (p : Port) (b : Byte) : (l.relay p b).node = l.node ∧ (l.relay p b).rate = l.rate :=
  l.relayAll_straps p [b]

@[simp] theorem State.relayOn_straps (s : State) (p : Port) (b : Byte) :
    (s.relayOn p b).liu.node = s.liu.node ∧ (s.relayOn p b).liu.rate = s.liu.rate := by
  rw [(s.relayOn_relayed p b).frame]
  exact ⟨rfl, rfl⟩

@[simp] theorem Liu.moveLossExpiry_straps (l : Liu) (timeout : Nat) :
    (l.moveLossExpiry timeout).node = l.node ∧ (l.moveLossExpiry timeout).rate = l.rate := by
  unfold Liu.moveLossExpiry
  split <;> exact ⟨rfl, rfl⟩

theorem State.Bytes.straps {s t : State} (h : s.Bytes t) : t.liu.node = s.liu.node ∧ t.liu.rate = s.liu.rate := by
  cases h with
  | none => exact ⟨rfl, rfl⟩
  | released p => simp [State.release]
  | silence p =>
    unfold State.takeSilence
    split <;> simp [State.truncate, State.release]
  | sent => simp
  | arrived p b more =>
    unfold State.takeByte
    split
    · split <;> simp [State.beginTelegram]
    · split <;> simp [State.beginTelegram]
    · unfold State.takeHeader
      split
      · simp
      · unfold State.releaseLag
        dsimp only
        split <;> simp
      · unfold State.takeLength
        dsimp only
        split <;> simp
    · rename_i hbody
      simp only [State.takeBody]
      rw [if_neg (by have := more hbody; omega)]
      simp
    · simp
  | last p b => simp [State.release]

theorem State.takeLoss_straps (s : State) : s.takeLoss.liu.node = s.liu.node ∧ s.takeLoss.liu.rate = s.liu.rate := by
  unfold State.takeLoss
  split
  · rw [s.loseLine_liu]
    exact ⟨rfl, rfl⟩
  · exact ⟨rfl, rfl⟩

theorem State.Acts.straps {wf : Prop} {s t : State} (h : s.Acts wf t) : t.liu.node = s.liu.node ∧ t.liu.rate = s.liu.rate := by
  cases h with
  | lineError p => simp
  | roundOpen number c => rw [s.takeRoundOpen_liu]; exact ⟨rfl, rfl⟩
  | roundClose =>
    unfold State.takeRoundClose
    split <;> exact ⟨rfl, rfl⟩
  | lineReset c => rw [s.takeLineReset_liu]; exact ⟨rfl, rfl⟩
  | parameter parameter value date =>
    unfold State.setParameter State.takeUp
    dsimp only
    split
    · simp
    · split
      · obtain ⟨hn, hr⟩ := State.takeLoss_straps (State.onLiu _ _)
        rw [hn, hr]
        simp
      · simp
  | restarted c => rw [s.warmRestart_liu]; exact ⟨rfl, rfl⟩
  | loss => exact s.takeLoss_straps
  | partStart allotment sent =>
    unfold State.startPartTelegram
    repeat' split
    all_goals exact ⟨rfl, rfl⟩
  | partEnd =>
    unfold State.endPartTelegram
    split
    · dsimp only
      unfold State.closeSpentTurn
      repeat' split
      all_goals exact ⟨rfl, rfl⟩
    · exact ⟨rfl, rfl⟩
    · exact ⟨rfl, rfl⟩
  | _ => simp

/-! ### RT and the trim (R19, R22) -/

theorem State.Acts.rt {wf : Prop} {s t : State} (h : s.Acts wf t) : t.tbu.rt = s.tbu.rt := by
  cases h <;> simp [Tbu.heldOver, Tbu.trimCarried, Tbu.slewTicked]

/-- No command but a mark and power-on changes T (R22). -/
theorem exec_trim {c : Instr} {s t : State} (h : exec c s = .next t) (hmark : c ≠ .mark) (hpower : ∀ straps rate, c ≠ .powerOn straps rate) :
    t.tbu.trim = s.tbu.trim := by
  cases c with
  | mark => exact absurd rfl hmark
  | powerOn straps rate => exact absurd rfl (hpower straps rate)
  | timetableWrite m first count entries =>
    simp only [exec_timetableWrite, execTimetableWrite] at h
    repeat' split at h
    all_goals
      cases h
      simp
  | partTelegramStart =>
    simp only [exec_partTelegramStart, execPartTelegramStart] at h
    repeat' split at h
    all_goals
      cases h
      simp
  | trimCarry =>
    simp only [exec_trimCarry, execTrimCarry] at h
    repeat' split at h
    all_goals
      cases h
      simp [Tbu.trimCarried]
  | slewTick =>
    simp only [exec_slewTick, execSlewTick] at h
    repeat' split at h
    all_goals
      cases h
      simp [Tbu.slewTicked]
  | holdoverExpiry =>
    simp only [exec_holdoverExpiry, execHoldoverExpiry] at h
    repeat' split at h
    all_goals
      cases h
      simp
  | sweep =>
    simp only [exec_sweep, execSweep] at h
    repeat' split at h
    all_goals
      cases h
      simp
  | limitExpiry k =>
    simp only [exec_limitExpiry, execLimitExpiry] at h
    repeat' split at h
    all_goals
      cases h
      simp
  | abandonExpiry k =>
    simp only [exec_abandonExpiry, execAbandonExpiry] at h
    repeat' split at h
    all_goals
      cases h
      simp
  | intervalBoundary l =>
    simp only [exec_intervalBoundary, execIntervalBoundary] at h
    repeat' split at h
    all_goals
      cases h
      simp
  | impulseCompletion l sense =>
    simp only [exec_impulseCompletion, execImpulseCompletion] at h
    repeat' split at h
    all_goals
      cases h
      simp
  | probeExpiry l =>
    simp only [exec_probeExpiry, execProbeExpiry] at h
    repeat' split at h
    all_goals
      cases h
      simp
  | _ =>
    obtain rfl := Host.Outcome.next.inj h
    simp

/-- Settles O5: the line unit keeps its straps, no operation touches RT, and T is left by every row but a mark's. -/
theorem fixedQuantitiesHaveOneCause : Obligations.FixedQuantitiesHaveOneCause := by
  refine ⟨fun c s t h hpower => ?_, fun c s t h hpower => ?_, fun c s t h hmark hpower => exec_trim h hmark hpower⟩
  · obtain ⟨u, hu, hacts⟩ := exec_acts (wf := False) nofun hpower h
    exact ⟨hacts.straps.1.trans hu.straps.1, hacts.straps.2.trans hu.straps.2⟩
  · obtain ⟨u, hu, hacts⟩ := exec_acts (wf := False) nofun hpower h
    rw [hacts.rt, hu.lineOnly]
    rfl

end Sys2Proof.Machine
end

section
/-! What one command stores in the journal at most, and that what was stored before stands (R148, R149, R153). -/

namespace Sys2Proof.Machine

theorem State.unknownAddress_wrote (s : State) (address : Nat) (command : Bool) (code : Nat) (date : Date) (flags : Flags) :
    s.evj.Wrote (s.unknownAddress address command code date flags).evj 1 := by
  unfold State.unknownAddress
  split
  · exact .refl ..
  · exact State.writeReport_wrote (s.onLys _) ..

/-- A COMMAND writes at most its own record and those of the movement it supersedes and opens. -/
theorem State.takeCommand_wrote (s : State) (address code : Nat) (c : Capture) : s.evj.Wrote (s.takeCommand address code c).evj 3 := by
  unfold State.takeCommand
  split
  · split
    · split
      · unfold State.validCommand
        split
        · exact .refl ..
        · extract_lets s1 s2
          have h2 : s.evj.Wrote s2.evj 1 := s1.writeIf_wrote ..
          split
          · exact h2.trans (s2.commandChange_wrote ..)
          · exact h2.mono (by omega)
      · exact (State.writeIf_wrote (s.onElement _ _) ..).mono (by omega)
    · exact .refl ..
  · exact (s.unknownAddress_wrote ..).mono (by omega)

theorem State.takeIndication_wrote (s : State) (address code : Nat) (age : Option Nat) (c : Capture) :
    s.evj.Wrote (s.takeIndication address code age c).evj (2 + s.psd.points.length) := by
  unfold State.takeIndication
  dsimp only
  split
  · split
    · split
      · exact s.validIndication_wrote ..
      · unfold State.badIndication
        dsimp only
        split <;> exact (State.writeIf_wrote (s.onElement _ _) ..).mono (by omega)
    · exact .refl ..
  · exact (s.unknownAddress_wrote ..).mono (by omega)

theorem State.judgeRound_wrote (s : State) (number : Nat) (c : Capture) : s.evj.Wrote (s.judgeRound number c).evj 1 := by
  unfold State.judgeRound
  split
  · exact .refl ..
  · unfold State.compareRound
    split
    · exact s.write_wrote ..
    · exact .refl ..
  · unfold State.returnLine
    simpa using s.writeReport_wrote (kind := .lineReturn) ..

theorem State.takeRoundOpen_wrote (s : State) (number : Nat) (c : Capture) :
    s.evj.Wrote (s.takeRoundOpen number c).evj (66 + (s.psd.points.map fun p => p.record.queue.length).sum + 1) :=
  (State.takeArmed_wrote (s.onLiu _) ..).trans (State.judgeRound_wrote (State.endTurn _) number c)

theorem State.takeLineReset_wrote (s : State) (c : Capture) : s.evj.Wrote (s.takeLineReset c).evj (1 + 64) :=
  (State.write_wrote (s.onLiu _).endTurn ..).trans (State.lineKnowledgeLost_wrote ..)

theorem State.takeLoss_wrote (s : State) :
    s.evj.Wrote s.takeLoss.evj (131 + (s.psd.points.map fun p => p.record.queue.length).sum) := by
  unfold State.takeLoss
  split
  · exact s.loseLine_wrote.mono (by omega)
  · exact .refl ..

theorem State.takeHoldoverLimit_wrote (s : State) : s.evj.Wrote s.takeHoldoverLimit.evj 1 := by
  unfold State.takeHoldoverLimit
  split
  · exact State.writeReport_wrote (s.onTbu _) ..
  · exact .refl ..

theorem State.setParameter_wrote (s : State) (parameter : Nat) (value : Int) (date : Date) :
    s.evj.Wrote (s.setParameter parameter value date).evj (1 + (131 + (s.psd.points.map fun p => p.record.queue.length).sum)) := by
  refine (State.write_wrote (s.onOrh fun o => { o with params := o.params.store parameter (s.orh.params.clamp parameter value) })
    (.config parameter value (s.orh.params.value parameter) (s.orh.params.clamp parameter value)) date {}).trans ?_
  unfold State.setParameter State.takeUp
  extract_lets taken s1
  split
  · exact (State.takeHoldoverLimit_wrote _).mono (by omega)
  · split
    · simpa [s1] using State.takeLoss_wrote ((s1.write (.config parameter value (s.orh.params.value parameter) taken) date).onLiu _)
    · exact .refl ..

theorem State.takeSeason_wrote (s : State) : s.evj.Wrote s.takeSeason.evj (1 + (3 * s.ttc.entries.length + 192 + 2)) := by
  unfold State.takeSeason
  split
  · simpa using s.applySeasonIfReached_wrote.trans (State.announce_wrote _ _)
  · exact .refl ..

theorem State.setTime_wrote (s : State) (ms offset : Nat) :
    s.evj.Wrote (s.setTime ms offset).evj (1 + (3 * s.ttc.entries.length + 192 + 2)) := by
  unfold State.setTime
  extract_lets st s1
  simpa [s1] using (s1.writeReport_wrote ..).trans (State.announce_wrote _ _)

theorem State.actOnMark_wrote (s : State) (n : Nat) (labelled : Bool) :
    s.evj.Wrote (s.actOnMark n labelled).evj (1 + 1 + (3 * s.ttc.entries.length + 192 + 2)) := by
  obtain ⟨e, heq | heq | ⟨heq, -, -⟩⟩ := s.actOnMark_cases n labelled <;> rw [heq]
  · exact s.stepMark_wrote ..
  · exact (State.write_wrote (s.onTbu _) ..).mono (by omega)
  · unfold State.slewMark
    dsimp only
    split
    · exact .refl ..
    · exact (State.write_wrote (s.onTbu _) ..).mono (by omega)

theorem State.takeMark_wrote (s : State) : s.evj.Wrote s.takeMark.evj (1 + 1 + (3 * s.ttc.entries.length + 192 + 2)) := by
  unfold State.takeMark
  extract_lets s1
  have hacted (n : Nat) (labelled : Bool) : s.evj.Wrote (s1.actOnMark n labelled).evj _ := s1.actOnMark_wrote n labelled
  split
  · exact hacted ..
  · split
    · exact .refl ..
    · exact .refl ..
    · exact hacted ..
    · exact hacted ..
    · exact hacted ..

theorem State.identTrain_wrote (s : State) (point : Nat) (p : LivePoint) (train : TrainNumber) (date : Date) :
    s.evj.Wrote (s.identTrain point p train date).evj 1 := by
  unfold State.identTrain
  split
  · exact .of_eq (by simp) 1
  · split
    · exact .refl ..
    · split
      · simp only [State.dropExpectation, State.onPoint_frame]
        exact State.writeReport_wrote s ..
      · exact .refl ..

theorem State.restartField_wrote (s : State) (ending : Instant) : s.evj.Wrote (s.restartField ending).evj 64 := by
  unfold State.restartField
  extract_lets s1 s2
  have h2 : s.evj.Wrote s2.evj 64 := State.closeAll_wrote (s1.onLys _) .restart ending
  clear_value s2
  exact h2

theorem State.warmRestart_wrote (s : State) (c : Capture) : s.evj.Wrote (s.warmRestart c).evj (1 + 64) := by
  have horders : (s.warmRestart c).evj = ((s.write s.restartRecord c.date).restartField c.instant).evj := by simp [State.warmRestart]
  rw [horders]
  exact (s.write_wrote ..).trans (State.restartField_wrote ..)

/-- Moving the read mark stores nothing. -/
theorem Evj.Wrote.moveMark (e : Evj) (start n : Nat) : e.Wrote (e.moveMark start) n :=
  ⟨fun h => ⟨[], ⟨(List.take_of_length_le h).symm, rfl⟩, Nat.zero_le n⟩⟩

theorem State.Acts.wrote {wf : Prop} {s t : State} (h : s.Acts wf t) : s.evj.Wrote t.evj s.mostRecords := by
  have few {m : Nat} (hw : s.evj.Wrote t.evj m) (hm : m ≤ 512) : s.evj.Wrote t.evj s.mostRecords :=
    hw.mono (by unfold State.mostRecords; omega)
  cases h with
  | roundOpen number c => exact (s.takeRoundOpen_wrote number c).mono (by unfold State.mostRecords; omega)
  | lineReset c => exact few (s.takeLineReset_wrote c) (by omega)
  | command address code c => exact few (s.takeCommand_wrote ..) (by omega)
  | indication address code age c => exact (s.takeIndication_wrote ..).mono (by unfold State.mostRecords; omega)
  | timeSet ms offset => exact (s.setTime_wrote ms offset).mono (by unfold State.mostRecords; omega)
  | seasonScheduled offset minute =>
    exact (State.takeSeason_wrote (s.onTbu _)).mono (by simp only [State.onTbu_ttc]; unfold State.mostRecords; omega)
  | parameter parameter value date => exact (s.setParameter_wrote ..).mono (by unfold State.mostRecords; omega)
  | applied scope c => exact (s.takeApply_wrote ..).mono (by unfold State.mostRecords; omega)
  | trainNamed point p train date => exact few (s.identTrain_wrote ..) (by omega)
  | journalRead c start n => simpa using Evj.Wrote.moveMark s.evj start _
  | clockSet l set => exact few (s.takeSet_wrote l set) (by omega)
  | restarted c => exact few (s.warmRestart_wrote c) (by omega)
  | mark => exact s.takeMark_wrote.mono (by unfold State.mostRecords; omega)
  | loss => exact s.takeLoss_wrote.mono (by unfold State.mostRecords; omega)
  | season => exact s.takeSeason_wrote.mono (by unfold State.mostRecords; omega)
  | holdoverExpiry => exact few (State.write_wrote (s.onTbu _) ..) (by omega)
  | holdoverLimit => exact few s.takeHoldoverLimit_wrote (by omega)
  | sweep => exact (State.sweepEvent_wrote (s.onClk _)).mono (by simp only [State.onClk_ttc]; unfold State.mostRecords; omega)
  | limit k r => exact few (State.writeReport_wrote (s.onMvs _) ..) (by omega)
  | abandon k r => exact few (s.closeMovement_wrote ..) (by omega)
  | boundaryEvaluated l => exact few (by simpa using State.evaluateLine_wrote (s.takeBoundary l) l true) (by omega)
  | completion l impulse sense =>
    exact few (by simpa using State.completeImpulse_wrote (s.withSense l sense) l impulse sense) (by omega)
  | _ => exact .of_eq (by simp) _

/-- Settles O6: the line unit's bytes store nothing, and each operation of an owner at most what its tables allow. -/
theorem storedRecordsNeverChange : Obligations.StoredRecordsNeverChange := by
  intro c s t h hpower hs
  obtain ⟨u, hu, hacts⟩ := exec_acts (wf := False) nofun hpower h
  have hline := hu.lineOnly
  have hwrote := hacts.wrote
  rw [hline] at hwrote
  exact hwrote.grown hs

end Sys2Proof.Machine
end

section
/-! The step and reset: what a step takes, what comes due, and the machine right after power-on (entries 1, 2, 3, 28, 30). -/

namespace Sys2Proof.Machine

/-- Settles O1: with a command waiting, the step is that command's meaning. -/
theorem stepTakesFrontCommand : Obligations.StepTakesFrontCommand := fun _ _ _ h => step_of_pending h

/-- Settles O54: power-on builds the state from the straps and defaults, and copies what lies outside the part. -/
theorem powerOnSetsEveryBlock : Obligations.PowerOnSetsEveryBlock := fun _ _ _ => rfl

/-- Settles O55: reset is a power-on. -/
theorem resetIsSound : Obligations.ResetIsSound := by
  have hreset : State.reset = State.reset.powerOn 0 .r57600 := rfl
  rw [Obligations.ResetIsSound, hreset]
  exact ⟨State.powerOn_evj_sound .., State.powerOn_orh_sound .., State.powerOn_tbu_sound .., State.powerOn_lineSound .., ClockLine.fresh_sound,
    ClockLine.fresh_sound, nofun, State.powerOn_planesSound .., powerOn_layoutSound .., State.powerOn_movementsSound ..⟩

/-! ### What is due -/

section
variable (s : State)

theorem State.mem_dueEvents {c : Instr} : c ∈ s.dueEvents ↔
    (instantReached s.tbu.scheduled s.tbu.st = true ∧ c = .season) ∨ (s.holdoverExpiryDue = true ∧ c = .holdoverExpiry) ∨
      (s.holdoverLimitDue = true ∧ c = .holdoverLimit) ∨ (s.lossDue = true ∧ c = .lossExpiry) ∨ (s.sweepDue = true ∧ c = .sweep) ∨
      (∃ k < 64, (s.limitDue k = true ∧ c = .limitExpiry k) ∨ (s.abandonDue k = true ∧ c = .abandonExpiry k)) ∨
      (∃ l, (s.boundaryDue l = true ∧ c = .intervalBoundary l) ∨ ((s.line l).mayStart s.tbu.rt = true ∧ c = .spacingExpiry l) ∨
        (s.completionDue l = true ∧ c = .impulseCompletion l (s.pins.sense l)) ∨ (s.probeDue l = true ∧ c = .probeExpiry l)) ∨
      (s.partStartDue = true ∧ c = .partTelegramStart) := by
  have hlines {p : ClockLineName → Prop} : (∃ l, p l) ↔ p .a ∨ p .b :=
    ⟨fun ⟨l, h⟩ => match l with | .a => .inl h | .b => .inr h, fun h => h.elim (⟨_, ·⟩) (⟨_, ·⟩)⟩
  simp only [State.dueEvents, State.dueMovements, State.dueAtLine, List.mem_append, List.mem_flatMap, List.mem_range, mem_dueIf, hlines, or_assoc]

theorem State.mem_dueEvents_of_movement {c : Instr} {k : Nat} (hk : k < 64)
    (h : (s.limitDue k = true ∧ c = .limitExpiry k) ∨ (s.abandonDue k = true ∧ c = .abandonExpiry k)) : c ∈ s.dueEvents :=
  s.mem_dueEvents.mpr (.inr (.inr (.inr (.inr (.inr (.inl ⟨k, hk, h⟩))))))

theorem State.mem_dueEvents_of_line {c : Instr} (l : ClockLineName)
    (h : (s.boundaryDue l = true ∧ c = .intervalBoundary l) ∨ ((s.line l).mayStart s.tbu.rt = true ∧ c = .spacingExpiry l) ∨
      (s.completionDue l = true ∧ c = .impulseCompletion l (s.pins.sense l)) ∨ (s.probeDue l = true ∧ c = .probeExpiry l)) :
    c ∈ s.dueEvents :=
  s.mem_dueEvents.mpr (.inr (.inr (.inr (.inr (.inr (.inr (.inl ⟨l, h⟩)))))))

theorem State.dueCommand_of_no_adjustment (hnone : s.dueAdjustment = none) (hsome : s.dueEvents ≠ []) :
    ∃ c, s.dueCommand = some c ∧ c ∈ s.dueEvents := by
  obtain ⟨c, hc⟩ := s.raced_of_ne_nil hsome
  exact ⟨c, by simp only [State.dueCommand, hnone, hc], State.mem_of_raced hc⟩

theorem State.dueAdjustment_eq : s.dueAdjustment =
    if 100000000 ≤ s.tbu.accumulator then some .trimCarry else if 1000 ≤ s.tbu.slewPhase ∧ s.tbu.slew ≠ 0 then some .slewTick else none := by
  by_cases h : 100000000 ≤ s.tbu.accumulator <;>
    simp [State.dueAdjustment, State.trimCarryDue, trimCarryAt, State.slewTickDue, h]

end

/-- Settles O2: the idle step is a microsecond, or the command that is due; each event stands among those due by its own condition. -/
theorem emptyQueueLetsTimeRun : Obligations.EmptyQueueLetsTimeRun := by
  refine ⟨fun s hp hd => ?_, fun s c hp hd => ⟨State.dueCommand_cases hd, ?_⟩, fun s => ?_⟩
  · rw [step_of_idle hp, State.idle, hd]
    rfl
  · obtain ⟨n, hn⟩ := s.countChoice_eq
    exact ⟨n, by rw [step_of_idle hp, State.idle, hd, hn]⟩
  · have hadj := s.dueAdjustment_eq
    refine ⟨fun h => ?_, fun h hphase hslew => ?_, fun h hslew => s.dueCommand_of_no_adjustment ?_, ?_, ?_, ?_, ?_, ?_, ?_, ?_, ?_, ?_, ?_, ?_, ?_⟩
    · simp [State.dueCommand, hadj, h]
    · simp [State.dueCommand, hadj, Nat.not_le.mpr h, hphase, hslew]
    · have : ¬ (1000 ≤ s.tbu.slewPhase ∧ s.tbu.slew ≠ 0) := by omega
      rw [hadj, if_neg (Nat.not_le.mpr h), if_neg this]
    · intro offset minute hs hst
      exact s.mem_dueEvents.mpr (.inl ⟨by simp [instantReached, hs, usPerMinute, hst], rfl⟩)
    · intro expiry hstate he hrt
      exact s.mem_dueEvents.mpr (.inr (.inl ⟨by rcases hstate with hx | hx <;> simp [State.holdoverExpiryDue, hx, he, hrt], rfl⟩))
    · intro entry hstate he hrt
      exact s.mem_dueEvents.mpr (.inr (.inr (.inl ⟨by simp [State.holdoverLimitDue, hstate, he, usPerMinute, hrt], rfl⟩)))
    · intro expiry hstate he hrt
      exact s.mem_dueEvents.mpr (.inr (.inr (.inr (.inl ⟨by simp [State.lossDue, hstate, he, hrt], rfl⟩))))
    · intro hplanes hmark htaken
      exact s.mem_dueEvents.mpr (.inr (.inr (.inr (.inr (.inl
        ⟨by simp [State.sweepDue, Option.isSome_iff_ne_none, hplanes, usPerSecond, hmark, htaken], rfl⟩)))))
    · intro k r hk hr hover hrt
      exact s.mem_dueEvents_of_movement hk (.inl ⟨by simp [State.limitDue, hr, hover, hrt], rfl⟩)
    · intro k r hk hr hrt
      exact s.mem_dueEvents_of_movement hk (.inr ⟨by simp [State.abandonDue, hr, hrt], rfl⟩)
    · intro l interval hi hreached htaken
      exact s.mem_dueEvents_of_line l (.inl ⟨by simp [State.boundaryDue, hi, usPerSecond, hreached, htaken], rfl⟩)
    · intro l hstate hwanted hflight hspacing
      refine s.mem_dueEvents_of_line l (.inr (.inl ⟨?_, rfl⟩))
      unfold ClockLine.mayStart
      cases hx : (s.line l).spacing with
      | none => rcases hstate with hs | hs <;> simp [hs, hwanted, hflight]
      | some x => rcases hstate with hs | hs <;> simp [hs, hwanted, hflight, hspacing x hx]
    · intro l i hflight hend
      exact s.mem_dueEvents_of_line l (.inr (.inr (.inl ⟨by simp [State.completionDue, hflight, hend], rfl⟩)))
    · intro l expiry hstate hflight hprobe hrt
      exact s.mem_dueEvents_of_line l (.inr (.inr (.inr ⟨by simp [State.probeDue, hstate, hflight, hprobe, hrt], rfl⟩)))
    · intro hturn htx hheld hrx
      refine s.mem_dueEvents.mpr (.inr (.inr (.inr (.inr (.inr (.inr (.inr ⟨?_, rfl⟩)))))))
      rcases hrx with hx | hx <;> simp [State.partStartDue, Liu.mayStart, hturn, htx, hheld, hx, ReceiverState.inTelegram]

/-! ### Every command has a next state (entries 28, 30) -/

theorem exec_next (c : Instr) (s : State) : ∃ t, exec c s = .next t := by
  cases c with
  | timetableWrite m first count entries =>
    rw [exec_timetableWrite, execTimetableWrite]
    split <;> exact ⟨_, rfl⟩
  | partTelegramStart =>
    rw [exec_partTelegramStart, execPartTelegramStart]
    repeat' split
    all_goals exact ⟨_, rfl⟩
  | trimCarry =>
    rw [exec_trimCarry, execTrimCarry]
    split <;> exact ⟨_, rfl⟩
  | slewTick =>
    rw [exec_slewTick, execSlewTick]
    split <;> exact ⟨_, rfl⟩
  | holdoverExpiry =>
    rw [exec_holdoverExpiry, execHoldoverExpiry]
    split <;> exact ⟨_, rfl⟩
  | sweep =>
    rw [exec_sweep, execSweep]
    split <;> exact ⟨_, rfl⟩
  | limitExpiry k =>
    rw [exec_limitExpiry, execLimitExpiry]
    repeat' split
    all_goals exact ⟨_, rfl⟩
  | abandonExpiry k =>
    rw [exec_abandonExpiry, execAbandonExpiry]
    repeat' split
    all_goals exact ⟨_, rfl⟩
  | intervalBoundary l =>
    rw [exec_intervalBoundary, execIntervalBoundary]
    repeat' split
    all_goals exact ⟨_, rfl⟩
  | impulseCompletion l sense =>
    simp only [exec_impulseCompletion, execImpulseCompletion]
    repeat' split
    all_goals exact ⟨_, rfl⟩
  | probeExpiry l =>
    rw [exec_probeExpiry, execProbeExpiry]
    split <;> exact ⟨_, rfl⟩
  | _ => exact ⟨_, rfl⟩

theorem State.Acts.pending {wf : Prop} {s t : State} (h : s.Acts wf t) : t.pending = s.pending := by
  cases h <;> simp

/-- Settles O3: no row refuses, and no operation touches the queue. -/
theorem everyCommandAnswers : Obligations.EveryCommandAnswers := by
  intro c s
  obtain ⟨t, h⟩ := exec_next c s
  refine ⟨t, h, ?_⟩
  exact exec_keeps (P := fun t => t.pending = s.pending) False (fun u t hut hu => by rw [hut]; exact hu)
    (fun u t hut hu => hut.pending.trans hu) (fun u straps rate hu => hu) False.elim h rfl

/-! ### What is not due (entry 3) -/

/-- Settles O4: each row asks first whether its event is due. -/
theorem eventsNotDueDoNothing : Obligations.EventsNotDueDoNothing := by
  intro s
  refine ⟨fun h => ?_, fun h => ?_, fun h => ?_, fun h => ?_, fun h => ?_, fun h => ?_, fun h => ?_, fun h => ?_, fun k h => ?_, fun k h => ?_,
    fun l h => ?_, fun l h => ?_, fun l h => ?_⟩
  · rw [exec_lossExpiry, State.takeLoss, h]
    rfl
  · rw [exec_partTelegramStart, execPartTelegramStart, h]
    split <;> rfl
  · have hnot : s.trimCarryDue = false := decide_eq_false (Nat.not_le.mpr h)
    rw [exec_trimCarry, execTrimCarry, hnot]
    rfl
  · rw [exec_slewTick, execSlewTick, if_neg (by simp only [State.slewTickDue, Bool.and_eq_true, decide_eq_true_eq]; omega)]
  · have hnot : instantReached s.tbu.scheduled s.tbu.st = false := by
      unfold instantReached
      split
      · rename_i offset minute hs
        simpa [usPerMinute] using h offset minute hs
      · rfl
    rw [exec_season, State.takeSeason, hnot]
    rfl
  · rw [exec_holdoverExpiry, execHoldoverExpiry, h]
    rfl
  · rw [exec_holdoverLimit, State.takeHoldoverLimit, h]
    rfl
  · rw [exec_sweep, execSweep, h]
    rfl
  · rw [exec_limitExpiry, execLimitExpiry, h]
    split <;> rfl
  · rw [exec_abandonExpiry, execAbandonExpiry, h]
    split <;> rfl
  · rw [exec_intervalBoundary, execIntervalBoundary, h]
    rfl
  · have hline : (s.onLine l fun x => x.startIfDue s.tbu.rt s.orh.params) = s := by
      cases l <;> simp_all [State.onLine, State.onCld, ClockLine.startIfDue, State.line]
    rw [exec_spacingExpiry, State.startLine, hline]
  · rw [exec_probeExpiry, execProbeExpiry, h]
    rfl

end Sys2Proof.Machine
end

section
/-! The receiver byte by byte (R2, R4, R5, R7, R44, R45): what each byte does in each state, and the hold buffer. -/

namespace Sys2Proof.Machine

/-! ### A byte in each state of the receiver -/

section
variable {s : State} {p : Port} {b : Byte}

theorem State.takeByte_noise_begins (h : (s.rx p).state = .idle) (hb : b ≠ startByte) :
    s.takeByte p b = ((s.onLiu fun l => l.relay p b).lineError p).onRx p fun x => { x with state := .noise } := by
  simp only [State.takeByte, h, if_neg hb]

theorem State.takeByte_noise (h : (s.rx p).state = .noise) (hb : b ≠ startByte) : s.takeByte p b = s.onLiu fun l => l.relay p b := by
  simp only [State.takeByte, h, if_neg hb]

theorem State.takeByte_start (h : (s.rx p).state = .idle ∨ (s.rx p).state = .noise) : s.takeByte p startByte = s.beginTelegram p startByte := by
  rcases h with h | h <;> simp only [State.takeByte, h, if_true]

theorem State.takeByte_header (h : (s.rx p).state = .header) : s.takeByte p b = s.takeHeader p b := by
  simp only [State.takeByte, h]

theorem State.takeByte_body_more (h : (s.rx p).state = .body) (hmore : 2 ≤ (s.rx p).remaining) :
    s.takeByte p b = (s.relayOn p b).onRx p fun x => { x with frame := x.frame ++ [b], remaining := x.remaining - 1 } := by
  simp only [State.takeByte, h, State.takeBody, if_neg (Nat.not_le.mpr hmore)]

theorem State.takeByte_body_last (h : (s.rx p).state = .body) (hlast : (s.rx p).remaining ≤ 1) :
    s.takeByte p b = ((s.relayOn p b).release p).takeFrame p ((s.rx p).frame ++ [b]) (s.captureAt p) := by
  simp only [State.takeByte, h, State.takeBody, if_pos hlast]

theorem State.takeByte_skip (h : (s.rx p).state = .skip) : s.takeByte p b = s.relayOn p b := by
  simp only [State.takeByte, h]

/-- A length byte above 58 (R2). -/
theorem State.takeByte_too_long {kindByte addressByte : Byte} (h : (s.rx p).state = .header) (hframe : (s.rx p).frame = [kindByte, addressByte])
    (hb : 59 ≤ b.toNat) :
    s.takeByte p b = (((s.relayOn p b).onRx p fun x => { x with state := .skip, frame := [] }).lineError p).setCapture p none := by
  have hlong : ¬ b.toNat ≤ maxPayload := Nat.not_le.mpr hb
  rw [State.takeByte_header h]
  simp only [State.takeHeader, hframe, State.takeLength, if_neg hlong]

theorem State.relayOn_of_not_consumed (h : (s.rx p).consumed = false) : s.relayOn p b = s.onLiu fun l => l.relay p b := by
  simp only [State.relayOn, h, Bool.false_eq_true, if_false]

theorem State.takeSilence_in_telegram (h : (s.rx p).state = .header ∨ (s.rx p).state = .body) : s.takeSilence p = s.truncate p := by
  rcases h with h | h <;> simp only [State.takeSilence, h]

theorem State.takeSilence_between (h : (s.rx p).state = .noise ∨ (s.rx p).state = .skip) : s.takeSilence p = s.onRx p fun _ => {} := by
  rcases h with h | h <;> simp only [State.takeSilence, h]

theorem State.takeSilence_idle (h : (s.rx p).state = .idle) : s.takeSilence p = s := by
  simp only [State.takeSilence, h]

end

/-! ### The bytes relayed upstream -/

/-- The transmitter may be given a byte straight: nothing is held, and it is idle or sends relayed bytes. -/
def Liu.PassesOn (l : Liu) (direct : List Byte) : Prop := l.holdBuffer = [] ∧ (l.tx = .idle ∧ direct = [] ∨ l.tx = .relaying direct)

theorem Liu.relay_f_direct {l : Liu} {direct : List Byte} (h : l.PassesOn direct) (b : Byte) :
    l.relay .f b = { l with tx := .relaying (direct ++ [b]) } := by
  obtain ⟨hempty, ⟨htx, rfl⟩ | htx⟩ := h <;> simp only [Liu.relay, Liu.relayUp, htx, hempty, List.nil_append]

theorem Liu.relayAll_f_direct {l : Liu} {direct : List Byte} (h : l.PassesOn direct) (bs : List Byte) :
    l.relayAll .f bs = { l with tx := if bs = [] then l.tx else .relaying (direct ++ bs) } := by
  induction bs generalizing l direct with
  | nil => rfl
  | cons b bs ih =>
    have hone : (l.relay .f b).PassesOn (direct ++ [b]) := by
      rw [Liu.relay_f_direct h]
      exact ⟨h.1, .inr rfl⟩
    have hrest : l.relayAll .f (b :: bs) = (l.relay .f b).relayAll .f bs := rfl
    rw [hrest, ih hone, Liu.relay_f_direct h]
    cases bs <;> simp

/-- A byte is held while a part telegram is sent, or behind bytes that are held already (R7). -/
theorem Liu.relay_f_held {l : Liu} (hroom : l.holdBuffer.length < 128) (hbusy : (∃ bytes ofSlot, l.tx = .part bytes ofSlot) ∨ l.holdBuffer ≠ [])
    (b : Byte) : l.relay .f b = { l with holdBuffer := l.holdBuffer ++ [b] } := by
  have hhold : l.hold b = { l with holdBuffer := l.holdBuffer ++ [b] } := if_pos hroom
  rw [← hhold]
  simp only [Liu.relay]
  unfold Liu.relayUp
  split
  · rfl
  · simp_all
  · rfl
  · simp_all
  · rfl

/-- A byte of a telegram that finds the buffer full is lost (R7). -/
theorem Liu.relay_f_lost {l : Liu} {bytes : List Byte} {ofSlot : Bool} (htx : l.tx = .part bytes ofSlot) (hfull : 128 ≤ l.holdBuffer.length)
    (hin : l.rxF.state.inTelegram = true) (b : Byte) :
    l.relay .f b = { l with errorsF := if l.rxF.cut then l.errorsF else countUp l.errorsF, rxF := { l.rxF with cut := true } } := by
  have hhold : l.hold b = l.cutTelegram := if_neg (Nat.not_lt.mpr hfull)
  have hrelay : l.relay .f b = l.hold b := by simp only [Liu.relay, Liu.relayUp, htx]
  rw [hrelay, hhold, Liu.cutTelegram]
  cases hcut : l.rxF.cut
  · rw [if_pos (by simp [hin])]
    rfl
  · rw [if_neg (by simp)]
    simp [← hcut]

/-! ### The receiver's table -/

/-- Settles O7: each byte and silence in each state, at the port's own transmitter. -/
theorem receiverFollowsItsTable : Obligations.ReceiverFollowsItsTable := by
  refine ⟨fun b s hb => ⟨fun h => ?_, fun h => ?_⟩, fun s => ⟨fun h => ?_, fun h => ?_⟩,
    fun kindByte addressByte b s h hframe hconsumed hlong => ?_,
    fun s => ⟨fun h => ?_, fun h => ?_, fun h => ?_⟩, fun b direct s hempty htx => ?_⟩
  · rw [exec_byteArrival, State.takeByte_noise_begins (p := .i) h hb]
    rfl
  · rw [exec_byteArrival, State.takeByte_noise (p := .i) h hb]
    rfl
  · exact congrArg _ (State.takeByte_start (p := .i) h)
  · exact congrArg _ (State.takeByte_start (p := .f) h)
  · rw [exec_byteArrival, State.takeByte_too_long (p := .i) h hframe hlong, State.relayOn_of_not_consumed (p := .i) hconsumed]
    rfl
  · rw [exec_lineSilent, State.takeSilence_in_telegram (p := .i) h, State.truncate]
    simp only [Liu.relayAll_i]
    rfl
  · exact congrArg _ (State.takeSilence_between (p := .i) h)
  · exact congrArg _ (State.takeSilence_idle (p := .i) h)
  · have hpass : s.liu.PassesOn direct := ⟨hempty, htx⟩
    have hrelay := Liu.relay_f_direct hpass b
    refine ⟨fun hb h => ?_, fun hb h => ?_, fun kindByte addressByte h hframe hconsumed hlong => ?_, fun h hconsumed => ?_, fun h => ?_,
      fun h => ?_, fun h => ?_⟩
    · rw [exec_byteArrival, State.takeByte_noise_begins (p := .f) h hb]
      simp only [State.onLiu, hrelay]
      rfl
    · rw [exec_byteArrival, State.takeByte_noise (p := .f) h hb]
      simp only [State.onLiu, hrelay]
    · rw [exec_byteArrival, State.takeByte_too_long (p := .f) h hframe hlong, State.relayOn_of_not_consumed (p := .f) hconsumed]
      simp only [State.onLiu, hrelay]
      rfl
    · rw [exec_byteArrival, State.takeByte_skip (p := .f) h, State.relayOn_of_not_consumed (p := .f) hconsumed]
      simp only [State.onLiu, hrelay]
    · rw [exec_lineSilent, State.takeSilence_in_telegram (p := .f) h, State.truncate]
      simp only [State.onLiu, Liu.relayAll_f_direct hpass]
      rfl
    · exact congrArg _ (State.takeSilence_between (p := .f) h)
    · exact congrArg _ (State.takeSilence_idle (p := .f) h)

/-- Settles O10: the bytes sent leave their store, and a byte relayed is held, passed on or lost. -/
theorem upstreamBytesLeaveInOrder : Obligations.UpstreamBytesLeaveInOrder := by
  refine ⟨fun b rest s => ⟨fun htx hempty => ?_, fun htx hheld => ?_⟩,
    fun b direct s => ⟨fun hroom hbusy => ?_, fun hempty htx h hmore hconsumed => ?_⟩,
    fun b bytes ofSlot s h hmore hconsumed htx hfull => ?_⟩
  · rw [exec_relayedByteSent]
    simp only [State.onLiu, Liu.byteSent, htx, hempty]
  · rw [exec_relayedByteSent]
    simp only [State.onLiu, Liu.byteSent, htx, hheld, and_true]
  · have hrelay := Liu.relay_f_held hroom hbusy b
    refine ⟨fun hb h => ?_, fun hb h => ?_, fun h hconsumed => ?_, fun h hmore hconsumed => ?_⟩
    · rw [exec_byteArrival, State.takeByte_noise_begins (p := .f) h hb]
      simp only [State.onLiu, hrelay]
      rfl
    · rw [exec_byteArrival, State.takeByte_noise (p := .f) h hb]
      simp only [State.onLiu, hrelay]
    · rw [exec_byteArrival, State.takeByte_skip (p := .f) h, State.relayOn_of_not_consumed (p := .f) hconsumed]
      simp only [State.onLiu, hrelay]
    · rw [exec_byteArrival, State.takeByte_body_more (p := .f) h hmore, State.relayOn_of_not_consumed (p := .f) hconsumed]
      simp only [State.onLiu, hrelay]
      rfl
  · rw [exec_byteArrival, State.takeByte_body_more (p := .f) h hmore, State.relayOn_of_not_consumed (p := .f) hconsumed]
    simp only [State.onLiu, Liu.relay_f_direct ⟨hempty, htx⟩ b]
    rfl
  · rw [exec_byteArrival, State.takeByte_body_more (p := .f) h hmore, State.relayOn_of_not_consumed (p := .f) hconsumed]
    simp only [State.onLiu, Liu.relay_f_lost htx hfull (by rw [h]; rfl) b]
    rfl

end Sys2Proof.Machine
end

section
/-! A whole telegram byte by byte, and a telegram as its row (R2, R3, R5, R6, R7, R8, R44). -/

namespace Sys2Proof.Machine

/-! ### A telegram as its row (R8, entry 6) -/

/-- The row of a telegram with a right check hands it to its owner, the port released (R3, R8). -/
theorem exec_rowOf (s : State) (p : Port) (kind address : Nat) (payload : List Byte) :
    exec (rowOf s.liu.node p kind address payload) s =
      .next ((s.release p).handOn p address payload (s.captureAt p) (readTelegram s.liu.node p kind address payload)) := by
  have hown (r : Reading) (hr : readTelegram s.liu.node p kind address payload = r) (hnone : r = .notInterpreted ∨ r = .form) :
      exec (.telegramNotInterpreted p kind address payload (telegramCheck kind address payload)) s =
        .next ((s.release p).handOn p address payload (s.captureAt p) r) := by
    have hnode : (s.release p).liu.node = s.liu.node := by cases p <;> rfl
    rw [exec_telegramNotInterpreted, State.takeTelegram, if_pos rfl, hnode, hr]
  unfold rowOf
  cases p with
  | i =>
    cases hr : readTelegram s.liu.node .i kind address payload with
    | notInterpreted => exact hown _ hr (.inl rfl)
    | form => exact hown _ hr (.inr rfl)
    | indication code age =>
      unfold readTelegram at hr
      repeat' split at hr
      all_goals simp_all
    | _ => rfl
  | f =>
    cases hr : readTelegram s.liu.node .f kind address payload with
    | notInterpreted => exact hown _ hr (.inl rfl)
    | form => exact hown _ hr (.inr rfl)
    | indication code age => rfl
    | _ =>
      unfold readTelegram at hr
      repeat' split at hr
      all_goals simp_all

/-- A telegram with a right check is its row, whatever row it came as (entry 6). -/
theorem exec_telegramNotInterpreted_right (s : State) (p : Port) (kind address : Nat) (payload : List Byte) :
    exec (.telegramNotInterpreted p kind address payload (telegramCheck kind address payload)) s =
      exec (rowOf s.liu.node p kind address payload) s := by
  have hnode : (s.release p).liu.node = s.liu.node := by cases p <;> rfl
  rw [exec_rowOf, exec_telegramNotInterpreted, State.takeTelegram, if_pos rfl, hnode]

theorem readTelegram_i_form {kind address : Nat} {payload : List Byte} (node : Nat)
    (h : kind = 1 ∧ (address ≠ 0 ∨ payload.length ≠ 1) ∨ kind = 2 ∧ (address ≠ 0 ∨ payload.length ≠ 0) ∨
      kind = 3 ∧ (address = 0 ∨ payload.length ≠ 1) ∨ kind = 5 ∧ (address ≠ 0 ∨ payload.length ≠ 0)) :
    readTelegram node .i kind address payload = .form := by
  obtain ⟨rfl, h⟩ | ⟨rfl, h⟩ | ⟨rfl, h⟩ | ⟨rfl, h⟩ := h <;> exact if_neg (by omega)

theorem readTelegram_i_notInterpreted {node kind address : Nat} {payload : List Byte}
    (h : kind = 8 ∧ address ≠ node ∧ address ≠ 4095 ∨ kind ∉ [1, 2, 3, 5, 8]) :
    readTelegram node .i kind address payload = .notInterpreted := by
  obtain ⟨rfl, hnode, hall⟩ | h := h
  · exact (if_neg hnode).trans (if_neg hall)
  · unfold readTelegram
    split <;> simp_all

theorem readTelegram_f_form {address : Nat} {payload : List Byte} (node : Nat) (h : address = 0 ∨ payload.length ≠ 1 ∧ payload.length ≠ 3) :
    readTelegram node .f 4 address payload = .form :=
  (if_neg (by omega)).trans (if_neg (by omega))

theorem readTelegram_f_notInterpreted {kind : Nat} (node address : Nat) (payload : List Byte) (h : kind ≠ 4) :
    readTelegram node .f kind address payload = .notInterpreted := by
  unfold readTelegram
  split <;> simp_all

/-- Settles O9: the check first, and then the reading of the telegram at its port. -/
theorem telegramNotTakenIsCountedOrIgnored : Obligations.TelegramNotTakenIsCountedOrIgnored := by
  intro kind address payload check s
  refine ⟨fun hwrong => ?_, fun hright => ?_⟩
  · have hcounted (p : Port) : exec (.telegramNotInterpreted p kind address payload check) s = .next ((s.release p).lineError p) := by
      rw [exec_telegramNotInterpreted, State.takeTelegram, if_neg hwrong]
    exact ⟨hcounted .i, hcounted .f⟩
  · subst hright
    have hread (p : Port) (r : Reading) (hr : readTelegram s.liu.node p kind address payload = r) :
        exec (.telegramNotInterpreted p kind address payload (telegramCheck kind address payload)) s =
          .next ((s.release p).handOn p address payload (s.captureAt p) r) := by
      rw [exec_telegramNotInterpreted_right, exec_rowOf, hr]
    refine ⟨fun h => hread .i .form (readTelegram_i_form _ h), fun h => hread .i .notInterpreted (readTelegram_i_notInterpreted h), ?_,
      fun h => hread .f .notInterpreted (readTelegram_f_notInterpreted _ _ _ h), fun p => exec_telegramNotInterpreted_right s p ..⟩
    rintro ⟨rfl, h⟩
    exact hread .f .form (readTelegram_f_form _ h)

/-! ### A telegram's bytes (11 "The frame") -/

theorem ofBytes_pair (x y : Byte) : ofBytes [x, y] = x.toNat * 256 + y.toNat := by simp [ofBytes]

theorem ofBytes_toBytes_two {n : Nat} (h : n < 65536) : ofBytes (toBytes 2 n) = n := by
  simp only [toBytes, ofBytes_pair, BitVec.toNat_ofNat]
  omega

theorem telegramCheck_lt (kind address : Nat) (payload : List Byte) : telegramCheck kind address payload < 65536 := (crc _).isLt

/-- The bytes after a start byte. -/
def frameOf (kind address : Nat) (payload : List Byte) : List Byte :=
  checkedBytes kind address payload ++ toBytes 2 (telegramCheck kind address payload)

theorem telegram_eq (kind address : Nat) (payload : List Byte) : telegram kind address payload = startByte :: frameOf kind address payload := rfl

theorem frameOf_eq (kind address : Nat) (payload : List Byte) :
    frameOf kind address payload =
      BitVec.ofNat 8 (kind * 16 + address / 256) :: BitVec.ofNat 8 address :: BitVec.ofNat 8 payload.length ::
        (payload ++ toBytes 2 (telegramCheck kind address payload)) := rfl

section
variable {kind address : Nat} {payload : List Byte} (hkind : kind < 16) (haddress : address < 4096) (hsize : payload.length ≤ 58)
include hkind haddress hsize

/-- The frame of a telegram is read back as that telegram. -/
theorem State.takeFrame_frameOf (s : State) (p : Port) (c : Capture) :
    s.takeFrame p (frameOf kind address payload) c =
      s.handOn p address payload c (readTelegram s.liu.node p kind address payload) := by
  have hka : field (frameOf kind address payload) 0 2 = kind * 4096 + address := by
    simp only [frameOf_eq, field, List.drop_zero, List.take_succ_cons, List.take_zero, ofBytes_pair, BitVec.toNat_ofNat]
    omega
  have hlength : field (frameOf kind address payload) 2 1 = payload.length := by
    simp [frameOf_eq, field, ofBytes]
    omega
  have hpayload : ((frameOf kind address payload).drop 3).take payload.length = payload := by simp [frameOf_eq]
  have hcheck : field (frameOf kind address payload) (3 + payload.length) 2 = telegramCheck kind address payload := by
    have hdrop : (frameOf kind address payload).drop (3 + payload.length) = toBytes 2 (telegramCheck kind address payload) := by
      simp [frameOf_eq, ← List.drop_drop]
    rw [field, hdrop]
    exact ofBytes_toBytes_two (telegramCheck_lt ..)
  have hk : (kind * 4096 + address) / 4096 = kind := by omega
  have ha : (kind * 4096 + address) % 4096 = address := by omega
  simp only [State.takeFrame, hka, hlength, hk, ha, hpayload, hcheck, State.takeTelegram, if_true]

omit hsize in
theorem consumes_frameOf (node : Nat) (p : Port) :
    consumes node p (BitVec.ofNat 8 (kind * 16 + address / 256)) (BitVec.ofNat 8 address) =
      decide (p = .i ∧ kind = 8 ∧ address = node) := by
  have h1 : (BitVec.ofNat 8 (kind * 16 + address / 256)).toNat = kind * 16 + address / 256 := by
    rw [BitVec.toNat_ofNat]; omega
  have h2 : (BitVec.ofNat 8 address).toNat = address % 256 := BitVec.toNat_ofNat ..
  have h3 : (kind * 16 + address / 256) / 16 = kind := by omega
  have h4 : (kind * 16 + address / 256) % 16 * 256 + address % 256 = address := by omega
  simp only [consumes, h1, h2, h3, h4, Bool.decide_and, Bool.and_assoc]

end

/-! ### The bytes one by one -/

/-- The line unit with bytes relayed from a port whose receiver stands so: out of the F-port, or to an I-port transmitter that was idle. -/
def Liu.carried (l : Liu) (p : Port) (bs : List Byte) (r : Receiver) : Liu :=
  match p with
  | .i => { l with fOut := l.fOut ++ bs, rxI := r }
  | .f => { l with tx := if bs = [] then l.tx else .relaying bs, rxF := r }

/-- The captures with a port's at a value. -/
def Dtu.captured (d : Dtu) (p : Port) (c : Option Capture) : Dtu :=
  match p with
  | .i => { d with capI := c }
  | .f => { d with capF := c }

/-- The state as the bytes of a telegram arrive: the commands that wait, the bytes relayed, the port's receiver and its capture. -/
def State.receiving (s : State) (p : Port) (rest : List Instr) (bs : List Byte) (r : Receiver) (c : Option Capture) : State :=
  { s with pending := rest, liu := s.liu.carried p bs r, dtu := s.dtu.captured p c }

/-- The I-port transmitter takes an upstream byte straight. -/
def Liu.FreeFor (l : Liu) (p : Port) : Prop := p = .f → l.tx = .idle ∧ l.holdBuffer = []

section
variable {s : State} {p : Port} (rest : List Instr) (bs : List Byte) (r : Receiver) (c : Option Capture)

theorem State.receiving_rx : (s.receiving p rest bs r c).rx p = r := by cases p <;> rfl
theorem State.receiving_capture : (s.receiving p rest bs r c).capture p = c := by cases p <;> rfl
theorem State.receiving_onRx (f : Receiver → Receiver) : (s.receiving p rest bs r c).onRx p f = s.receiving p rest bs (f r) c := by
  cases p <;> rfl
theorem State.receiving_setCapture (c' : Option Capture) : (s.receiving p rest bs r c).setCapture p c' = s.receiving p rest bs r c' := by
  cases p <;> rfl
theorem State.receiving_release : (s.receiving p rest bs r c).release p = s.receiving p rest bs {} none := by cases p <;> rfl
theorem State.receiving_captureNow : (s.receiving p rest bs r c).captureNow = s.captureNow := rfl
theorem State.receiving_node : (s.receiving p rest bs r c).liu.node = s.liu.node := by cases p <;> rfl

variable (hfree : s.liu.FreeFor p)
include hfree

theorem State.receiving_relay (b : Byte) :
    ((s.receiving p rest bs r c).onLiu fun l => l.relay p b) = s.receiving p rest (bs ++ [b]) r c := by
  cases p with
  | i => simp [State.receiving, State.onLiu, Liu.carried, Liu.relay]
  | f =>
    obtain ⟨htx, hempty⟩ := hfree rfl
    have hpass : (s.liu.carried .f bs r).PassesOn bs := by
      refine ⟨hempty, ?_⟩
      by_cases hbs : bs = []
      · exact .inl ⟨by simp [Liu.carried, hbs, htx], hbs⟩
      · exact .inr (by simp [Liu.carried, hbs])
    simp only [State.receiving, State.onLiu, Liu.relay_f_direct hpass]
    simp [Liu.carried]

theorem State.receiving_relayAll (more : List Byte) :
    ((s.receiving p rest bs r c).onLiu fun l => l.relayAll p more) = s.receiving p rest (bs ++ more) r c := by
  induction more generalizing bs with
  | nil => simp [Liu.relayAll, State.onLiu]
  | cons b more ih =>
    have hcons : ((s.receiving p rest bs r c).onLiu fun l => l.relayAll p (b :: more)) =
        ((s.receiving p rest bs r c).onLiu fun l => l.relay p b).onLiu fun l => l.relayAll p more := rfl
    rw [hcons, State.receiving_relay rest bs r c hfree, ih, List.append_assoc]
    rfl

/-- The bytes that have gone on, of a telegram consumed or not. -/
theorem State.receiving_relayOn (b : Byte) : (s.receiving p rest bs r c).relayOn p b =
    s.receiving p rest (if r.consumed then bs else bs ++ [b]) r c := by
  unfold State.relayOn
  rw [State.receiving_rx]
  split
  · rfl
  · exact State.receiving_relay rest bs r c hfree b

end

/-! ### The steps that take them -/

/-- The machine's run, on its states. -/
def State.run (n : Nat) (s : State) : Host.Outcome State Fault Refusal := Sys2Proof.core.run n s

theorem State.run_zero (s : State) : s.run 0 = .next s := rfl

theorem coreRun_succ {M : Host.Core} {s t : M.State} (n : Nat) (h : M.step s = .next t) : M.run (n + 1) s = M.run n t := by
  rw [Host.Core.run, h]

theorem State.run_succ {s t : State} (n : Nat) (h : step s = .next t) : s.run (n + 1) = t.run n :=
  coreRun_succ (M := Sys2Proof.core) n h

/-- A byte that waits is taken on the state with the others waiting. -/
theorem step_receiving (s : State) (p : Port) (b : Byte) (rest : List Instr) (bs : List Byte) (r : Receiver) (c : Option Capture) :
    step (s.receiving p (.byteArrival p b :: rest) bs r c) = .next ((s.receiving p rest bs r c).takeByte p b) :=
  (step_of_pending (s := s.receiving p (.byteArrival p b :: rest) bs r c) rfl).trans rfl

/-- The bytes of the length byte's count and the check, after which the telegram is complete (R2, R3). -/
theorem run_body {s : State} {p : Port} (hfree : s.liu.FreeFor p) (c : Capture) (more : List Byte) (hmore : more ≠ []) :
    ∀ (bs : List Byte) (r : Receiver), r.state = .body → r.remaining = more.length →
      (s.receiving p (more.map (.byteArrival p)) bs r (some c)).run more.length =
        .next ((s.receiving p [] (if r.consumed then bs else bs ++ more) {} none).takeFrame p (r.frame ++ more) c) := by
  induction more with
  | nil => exact absurd rfl hmore
  | cons b more ih =>
    intro bs r hstate hremaining
    have hrx := State.receiving_rx (s := s) (p := p) (more.map (.byteArrival p)) bs r (some c)
    rw [List.length_cons, List.map_cons, State.run_succ _ (step_receiving ..)]
    cases more with
    | nil =>
      rw [State.takeByte_body_last (by rw [hrx, hstate]) (by rw [hrx, hremaining]; exact le_refl 1), State.receiving_relayOn _ _ _ _ hfree,
        State.receiving_release, hrx, State.captureAt, State.receiving_capture]
      rfl
    | cons b' more =>
      rw [State.takeByte_body_more (by rw [hrx, hstate]) (by rw [hrx, hremaining]; simp), State.receiving_relayOn _ _ _ _ hfree,
        State.receiving_onRx, ih (by simp) _ { r with frame := r.frame ++ [b], remaining := r.remaining - 1 } hstate (by simp [hremaining])]
      cases r.consumed <;> simp

/-- The header: the start byte, the kind and address, at the second byte of which the lag stage is released or the telegram consumed, and the
length (R2, R5, R6). -/
theorem run_header {s : State} {p : Port} (hfree : s.liu.FreeFor p) (hidle : (s.rx p).state = .idle ∨ (s.rx p).state = .noise)
    (k a n : Byte) (hn : n.toNat ≤ 58) (rest : List Instr) (m : Nat)
    (hp : s.pending = .byteArrival p startByte :: .byteArrival p k :: .byteArrival p a :: .byteArrival p n :: rest) :
    s.run (m + 4) = (s.receiving p rest (if consumes s.liu.node p k a then [] else [startByte, k, a, n])
      { state := .body, lag := [], frame := [k, a, n], remaining := n.toNat + 2, consumed := consumes s.liu.node p k a }
      (some s.captureNow)).run m := by
  have h1 : step s = .next (s.receiving p (.byteArrival p k :: .byteArrival p a :: .byteArrival p n :: rest) []
      { state := .header, lag := [startByte] } (some s.captureNow)) := by
    rw [step_of_pending hp, exec_byteArrival, State.takeByte_start (by cases p <;> exact hidle)]
    cases p <;> simp [State.beginTelegram, State.onRx, State.setCapture, State.onLiu, State.onDtu, State.receiving, Liu.carried, Dtu.captured,
      State.captureNow, State.quality]
  rw [State.run_succ (m + 3) h1, State.run_succ (m + 2) (step_receiving ..), State.takeByte_header (by rw [State.receiving_rx])]
  simp only [State.takeHeader, State.receiving_rx, State.receiving_onRx]
  rw [State.run_succ (m + 1) (step_receiving ..), State.takeByte_header (by rw [State.receiving_rx])]
  simp only [State.takeHeader, State.receiving_rx, State.releaseLag, State.receiving_node, List.cons_append, List.nil_append]
  have hlength : n.toNat ≤ maxPayload := hn
  generalize consumes s.liu.node p k a = consumed
  cases consumed
  all_goals
    simp only [Bool.false_eq_true, if_false, if_true, State.receiving_relayAll _ _ _ _ hfree, State.receiving_onRx]
    rw [State.run_succ m (step_receiving ..), State.takeByte_header (by rw [State.receiving_rx])]
    simp only [State.takeHeader, State.receiving_rx, State.takeLength, State.receiving_relayOn _ _ _ _ hfree, if_pos hlength, State.receiving_onRx]
    rfl

/-- The bytes of a whole telegram are its row, on the state with its bytes gone on and its capture held (R8). -/
theorem run_telegram {s : State} {p : Port} (hfree : s.liu.FreeFor p) (hidle : (s.rx p).state = .idle ∨ (s.rx p).state = .noise)
    {kind address : Nat} {payload : List Byte} (hkind : kind < 16) (haddress : address < 4096) (hsize : payload.length ≤ 58)
    (hp : s.pending = (telegram kind address payload).map (.byteArrival p)) :
    s.run (payload.length + 6) = exec (rowOf s.liu.node p kind address payload)
      (s.receiving p [] (if p = .i ∧ kind = 8 ∧ address = s.liu.node then [] else telegram kind address payload) {} (some s.captureNow)) := by
  have hn : (BitVec.ofNat 8 payload.length).toNat = payload.length := by
    rw [BitVec.toNat_ofNat]
    omega
  have hmore : payload.length + 2 = (payload ++ toBytes 2 (telegramCheck kind address payload)).length := by
    simp [toBytes]
  rw [run_header hfree hidle _ _ _ (by rw [hn]; exact hsize) ((payload ++ toBytes 2 (telegramCheck kind address payload)).map (.byteArrival p))
    (payload.length + 2) hp, hmore]
  rw [run_body hfree _ _ (by simp [toBytes]) _ _ rfl (by rw [hn]; exact hmore), consumes_frameOf hkind haddress]
  have hrow := exec_rowOf (s.receiving p [] (if p = .i ∧ kind = 8 ∧ address = s.liu.node then [] else telegram kind address payload) {}
    (some s.captureNow)) p kind address payload
  rw [State.receiving_node, State.receiving_release, State.captureAt, State.receiving_capture] at hrow
  rw [hrow]
  have hframe := State.takeFrame_frameOf hkind haddress hsize
    (s.receiving p [] (if p = .i ∧ kind = 8 ∧ address = s.liu.node then [] else telegram kind address payload) {} none) p s.captureNow
  rw [State.receiving_node] at hframe
  refine congrArg _ (Eq.trans ?_ hframe)
  by_cases hown : p = .i ∧ kind = 8 ∧ address = s.liu.node
  · simp only [hown, decide_true, and_self, if_true]
    rfl
  · simp only [hown, decide_false, Bool.false_eq_true, if_false]
    rfl

/-- Settles O8: the header, the body and the last byte, at the I-port and at an F-port whose bytes pass straight on. -/
theorem telegramBytesAreTheirRow : Obligations.TelegramBytesAreTheirRow := by
  refine ⟨fun kind address payload s hkind haddress hsize hidle hp => ?_, fun kind address payload s hkind haddress hsize hidle htx hempty hp => ?_⟩
  · refine (run_telegram (p := .i) nofun hidle hkind haddress hsize hp).trans ?_
    by_cases hown : kind = 8 ∧ address = s.liu.node
    · simp [hown, State.receiving, Liu.carried, Dtu.captured]
    · simp [hown, State.receiving, Liu.carried, Dtu.captured]
  · refine (run_telegram (p := .f) (fun _ => ⟨htx, hempty⟩) hidle hkind haddress hsize hp).trans ?_
    simp [State.receiving, Liu.carried, Dtu.captured, telegram_eq]

end Sys2Proof.Machine
end

section
/-! What an operation writes, record by record, with its reports; the closing of every open movement (R96, R99, R102), and the field forgotten by a
line reset, the loss of the line and a RESTART (R11, R13, R71, R194). -/

namespace Sys2Proof.Machine

/-! ### Records told in order -/

/-- From a ring within its size, these records are stored in this order, and of them the dropped expectations alone are reported (R96, R119). -/
structure State.Logged (s t : State) (said : List (RecordBody × Date)) : Prop where
  logged : s.evj.stored ≤ 16384 → ∃ more, s.evj.Grown t.evj more ∧ t.orh = (droppedReports more).foldl Orh.raise s.orh ∧
    more.reverse.map (fun x => (x.body, x.date)) = said

theorem droppedReports_append (xs ys : List Record) : droppedReports (ys ++ xs) = droppedReports xs ++ droppedReports ys := by
  simp [droppedReports]

theorem State.Logged.of_eq {s t : State} (hevj : t.evj = s.evj) (horh : t.orh = s.orh) : s.Logged t [] :=
  ⟨fun h => ⟨[], by rw [hevj]; exact .refl h, horh, rfl⟩⟩

theorem State.Logged.refl (s : State) : s.Logged s [] := .of_eq rfl rfl

theorem State.Logged.trans {s t u : State} {xs ys : List (RecordBody × Date)} (h : s.Logged t xs) (h' : t.Logged u ys) :
    s.Logged u (xs ++ ys) := ⟨fun hs => by
  obtain ⟨more, hgrown, horh, hsaid⟩ := h.logged hs
  obtain ⟨more', hgrown', horh', hsaid'⟩ := h'.logged hgrown.stored_le
  refine ⟨more' ++ more, hgrown.trans hgrown', ?_, ?_⟩
  · rw [horh', horh, droppedReports_append, List.foldl_append]
  · rw [List.reverse_append, List.map_append, hsaid, hsaid']⟩

/-- A block that another state shares. -/
theorem State.Logged.congr {s s' t t' : State} {said : List (RecordBody × Date)} (h : s.Logged t said) (hs : s'.evj = s.evj ∧ s'.orh = s.orh)
    (ht : t'.evj = t.evj ∧ t'.orh = t.orh) : s'.Logged t' said :=
  ⟨fun hstored => by rw [ht.1, ht.2, hs.1, hs.2]; exact h.logged (hs.1 ▸ hstored)⟩

theorem droppedReports_of_other {x : Record} (h : ∀ point address edge train byApply, x.body ≠ .expectationDropped point address edge train byApply) :
    droppedReports [x] = [] := by
  obtain ⟨seq, body, date, flags⟩ := x
  cases body with
  | expectationDropped point address edge train byApply => exact (h _ _ _ _ _ rfl).elim
  | _ => rfl

theorem State.Logged.write (s : State) {body : RecordBody} (hclass : body.cls ≠ .minor)
    (hother : ∀ point address edge train byApply, body ≠ .expectationDropped point address edge train byApply) (date : Date) (flags : Flags) :
    s.Logged (s.write body date flags) [(body, date)] :=
  ⟨fun _ => ⟨[{ seq := s.evj.next, body := body, date := date, flags := flags }], by
    rw [State.write_evj, Evj.offer_of_not_minor hclass]
    exact .store .., by rw [droppedReports_of_other hother]; rfl, rfl⟩⟩

theorem State.dropExpectation_logged (s : State) (point address : Nat) (edge : Edge) (train : TrainNumber) (byApply : Bool) (date : Date) :
    s.Logged (s.dropExpectation point address edge train byApply date) [(.expectationDropped point address edge train byApply, date)] :=
  ⟨fun _ => ⟨[{ seq := s.evj.next, body := .expectationDropped point address edge train byApply, date := date, flags := {} }], by
    have hclass : (RecordBody.expectationDropped point address edge train byApply).cls ≠ .minor := nofun
    rw [State.dropExpectation, State.writeReport_of_not_minor hclass]
    exact ⟨.store .., rfl, rfl⟩⟩⟩

/-- A fold tells what its steps tell, where no step changes what another tells. -/
theorem foldl_logged {β : Type} {f : State → β → State} {said : State → β → List (RecordBody × Date)}
    (hsaid : ∀ (s : State) (b : β), s.Logged (f s b) (said s b)) (hsame : ∀ (s : State) (b b' : β), b' ≠ b → said (f s b) b' = said s b')
    {l : List β} (hnodup : l.Nodup) (s : State) : s.Logged (l.foldl f s) (l.flatMap (said s)) := by
  induction l generalizing s with
  | nil => exact .refl s
  | cons b l ih =>
    obtain ⟨hnew, hnodup⟩ := List.nodup_cons.mp hnodup
    have hrest : l.flatMap (said (f s b)) = l.flatMap (said s) :=
      List.flatMap_congr fun b' hb' => hsame s b b' fun heq => hnew (heq ▸ hb')
    have htail := ih hnodup (f s b)
    rw [hrest] at htail
    exact (hsaid s b).trans htail

/-! ### Every movement closed -/

theorem State.closeMovement_logged (s : State) (position : Nat) (r : Movement) {reason : AbandonReason} (hreason : reason ≠ .noEnd)
    (ending : Instant) :
    s.Logged (s.closeMovement position r .abandoned (some reason) ending {})
      [(r.endRecord position .abandoned (some reason) ending.rt, ending.date)] := by
  have hwrite := State.Logged.write s (body := r.endRecord position .abandoned (some reason) ending.rt) nofun nofun ending.date
    (r.endFlags {} ending.rt)
  refine hwrite.congr ⟨rfl, rfl⟩ ?_
  cases reason with
  | noEnd => exact absurd rfl hreason
  | _ => exact ⟨rfl, rfl⟩

/-- What the closing of every movement tells at a position. -/
def State.endAt (s : State) (reason : AbandonReason) (ending : Instant) (k : Nat) : List (RecordBody × Date) :=
  ((s.mvs.at? k).map fun r => (r.endRecord k .abandoned (some reason) ending.rt, ending.date)).toList

theorem State.closeMovement_at?_of_ne (s : State) (position : Nat) (r : Movement) (outcome : MovementOutcome) (reason : Option AbandonReason)
    (ending : Instant) (flags : Flags) {k : Nat} (hk : k ≠ position) :
    (s.closeMovement position r outcome reason ending flags).mvs.at? k = s.mvs.at? k := by
  rw [State.closeMovement_mvs]
  simp [Mvs.at?, Mvs.put, List.getElem?_set_ne hk.symm]

theorem State.closeAll_logged (s : State) {reason : AbandonReason} (hreason : reason ≠ .noEnd) (ending : Instant) :
    s.Logged (s.closeAll reason ending) ((List.range 64).flatMap (s.endAt reason ending)) := by
  refine foldl_logged (said := fun s => s.endAt reason ending) (fun s k => ?_) (fun s k k' hk => ?_) List.nodup_range s
  · unfold State.endAt
    cases h : s.mvs.at? k with
    | none => exact .refl s
    | some r => exact s.closeMovement_logged k r hreason ending
  · unfold State.endAt
    cases h : s.mvs.at? k with
    | none => rfl
    | some r => simp only [State.closeMovement_at?_of_ne s k r .abandoned (some reason) ending {} hk]

/-! ### The links after all are closed -/

/-- An element with no open movement. -/
def LiveElement.unlinked (e : LiveElement) : LiveElement := { e with state := { e.state with movement := none } }

theorem map_unlinked_of_unlinked {l : List LiveElement} (h : ∀ (i : Nat) (e : LiveElement), l[i]? = some e → e.state.movement = none) :
    l.map LiveElement.unlinked = l := by
  refine (List.map_congr_left fun e he => ?_).trans (List.map_id l)
  obtain ⟨i, hi⟩ := List.getElem?_of_mem he
  rw [LiveElement.unlinked, ← h i e hi]
  rfl

/-- Closing movements changes links alone. -/
theorem State.closeAll_map_unlinked (s : State) (reason : AbandonReason) (ending : Instant) :
    (s.closeAll reason ending).lys.elements.map LiveElement.unlinked = s.lys.elements.map LiveElement.unlinked := by
  unfold State.closeAll
  generalize List.range 64 = positions
  induction positions generalizing s with
  | nil => rfl
  | cons position positions ih =>
    rw [List.foldl_cons, ih]
    split
    · refine List.ext_getElem? fun i => ?_
      rw [List.getElem?_map, List.getElem?_map, State.closeMovement_elements]
      cases s.lys.elements[i]? with
      | none => rfl
      | some e =>
        simp only [Option.map_some]
        split <;> rfl
    · rfl

/-- The layout store after every movement is closed: where every link was a movement's, none is left (R99, R102). -/
theorem State.closeAll_lys {s : State} (h : s.MovementsSound) (reason : AbandonReason) (ending : Instant) :
    (s.closeAll reason ending).lys = { s.lys with elements := s.lys.elements.map LiveElement.unlinked } := by
  have hnone : ∀ (i : Nat) (e : LiveElement), (s.closeAll reason ending).lys.elements[i]? = some e → e.state.movement = none := by
    intro i e he
    cases hlink : e.state.movement with
    | none => rfl
    | some k =>
      obtain ⟨r, hr, -⟩ := (s.closeAll_movementsSound (h := h) reason ending).links i e k he hlink
      rw [State.closeAll_at? h.positions] at hr
      cases hr
  rw [(s.closeAll_restated reason ending).frame, ← s.closeAll_map_unlinked reason ending, map_unlinked_of_unlinked hnone]

/-! ### How many are closed -/

theorem length_flatMap_toList_join {α β : Type} (l : List (Option α)) (f : Nat → α → β) :
    ((List.range l.length).flatMap fun k => ((l[k]?).join.map (f k)).toList).length = (l.filter (·.isSome)).length := by
  induction l using List.reverseRecOn with
  | nil => rfl
  | append_singleton l x ih =>
    have hinit : ((List.range l.length).flatMap fun k => (((l ++ [x])[k]?).join.map (f k)).toList) =
        (List.range l.length).flatMap fun k => ((l[k]?).join.map (f k)).toList :=
      List.flatMap_congr fun k hk => by rw [List.getElem?_append_left (List.mem_range.mp hk)]
    rw [List.length_append, List.length_singleton, List.range_succ, List.flatMap_append, List.length_append, hinit, ih, List.filter_append,
      List.length_append]
    cases x <;> simp

theorem State.length_ends {s : State} (h : s.mvs.table.length = 64) (reason : AbandonReason) (ending : Instant) :
    ((List.range 64).flatMap (s.endAt reason ending)).length = s.mvs.openCount := by
  rw [← h]
  exact length_flatMap_toList_join s.mvs.table _

/-- What the closing of every movement tells, in the words of the statements. -/
theorem State.map_ends (s : State) (reason : AbandonReason) (ending : Instant) :
    ((List.range 64).flatMap (s.endAt reason ending)).map (·.1) =
      (List.range 64).filterMap fun k => (s.mvs.at? k).map fun r => r.endRecord k .abandoned (some reason) ending.rt := by
  rw [List.map_flatMap, List.filterMap_eq_flatMap_toList]
  refine List.flatMap_congr fun k _ => ?_
  unfold State.endAt
  cases s.mvs.at? k <;> rfl

theorem State.date_of_mem_ends {s : State} {reason : AbandonReason} {ending : Instant} {x : RecordBody × Date}
    (h : x ∈ (List.range 64).flatMap (s.endAt reason ending)) : x.2 = ending.date := by
  obtain ⟨k, -, hk⟩ := List.mem_flatMap.mp h
  unfold State.endAt at hk
  cases hr : s.mvs.at? k with
  | none => simp [hr] at hk
  | some r => simp_all

/-- After a record that is always stored, every movement is closed: the records that follow it, one for each open movement, in rising order of
position. -/
theorem State.closeAll_ends {s : State} (h : s.mvs.table.length = 64) {reason : AbandonReason} (hreason : reason ≠ .noEnd) (ending : Instant)
    {before : Evj} {first : Record} (hfirst : before.Grown s.evj [first]) :
    (s.closeAll reason ending).orh = s.orh ∧
      ∃ ends, before.Grown (s.closeAll reason ending).evj (ends ++ [first]) ∧ ends.length = s.mvs.openCount ∧
        ends.reverse.map (·.body) =
          (List.range 64).filterMap (fun k => (s.mvs.at? k).map fun r => r.endRecord k .abandoned (some reason) ending.rt) ∧
        ∀ x ∈ ends, x.date = ending.date := by
  obtain ⟨ends, hgrown, horh, hsaid⟩ := (s.closeAll_logged hreason ending).logged hfirst.stored_le
  have hbodies : ends.reverse.map (·.body) = (ends.reverse.map fun x => (x.body, x.date)).map (·.1) := by simp
  have hlength : ends.length = (ends.reverse.map fun x => (x.body, x.date)).length := by simp
  have hdates : ∀ x ∈ ends, x.date = ending.date := fun x hx => by
    have hmem : (x.body, x.date) ∈ ends.reverse.map fun x => (x.body, x.date) :=
      List.mem_map_of_mem (f := fun x : Record => (x.body, x.date)) (List.mem_reverse.mpr hx)
    rw [hsaid] at hmem
    exact State.date_of_mem_ends hmem
  refine ⟨?_, ends, hfirst.trans hgrown, ?_, ?_, hdates⟩
  · have hnone : droppedReports ends = [] := by
      rw [droppedReports, List.map_eq_nil_iff, List.filter_eq_nil_iff]
      intro x hx
      have hmem : (x.body, x.date) ∈ ends.reverse.map fun x => (x.body, x.date) :=
        List.mem_map_of_mem (f := fun x : Record => (x.body, x.date)) hx
      rw [hsaid] at hmem
      obtain ⟨k, -, hk⟩ := List.mem_flatMap.mp hmem
      unfold State.endAt at hk
      cases hr : s.mvs.at? k with
      | none => simp [hr] at hk
      | some r =>
        simp only [hr, Option.map_some, Option.toList_some, List.mem_singleton, Prod.mk.injEq] at hk
        rw [hk.1]
        simp [Movement.endRecord]
    rw [horh, hnone]
    rfl
  · rw [hlength, hsaid, State.length_ends h]
  · rw [hbodies, hsaid, State.map_ends]

end Sys2Proof.Machine
end

section
/-! The rounds, the line reset, the loss of the line and the RESTART, state by state (R9 to R14, R70, R71, R99, R118, R194). -/

namespace Sys2Proof.Machine

/-! ### ROUND OPEN (R9, R12, R14) -/

theorem State.write_of_not_minor {body : RecordBody} (hclass : body.cls ≠ .minor) (s : State) (date : Date) (flags : Flags) :
    s.write body date flags = { s with evj := s.evj.store body date flags } := by
  rw [State.write, State.onEvj, Evj.offer_of_not_minor hclass]

theorem State.takeArmed_of_none {s : State} (h : s.lys.armed = none) (trigger : ApplyTrigger) (ending : Instant) :
    s.takeArmed trigger ending = s := by
  simp only [State.takeArmed, h]

/-- A ROUND OPEN with nothing armed: the line unit's work around the comparison of the round's number (R9). -/
theorem exec_roundOpen_unarmed {s : State} (h : s.lys.armed = none) (number : Nat) :
    exec (.roundOpen number) s =
      .next (({ s.release .i with
          liu := { (s.release .i).liu.openRound (s.captureAt .i).rt s.orh.params.lossTimeout with turn := .closed } }.judgeRound
        number (s.captureAt .i)).onLiu fun l => l.runRound number) := by
  rw [exec_roundOpen, State.takeRoundOpen]
  dsimp only
  rw [State.takeArmed_of_none (by simpa using h)]
  rfl

/-- Settles O11: nothing armed, the number is compared as the line state governs. -/
theorem roundOpenBeginsRound : Obligations.RoundOpenBeginsRound := by
  refine ⟨fun number s h => ⟨fun hstate => ?_, fun n hstate hround hgap => ?_⟩, fun number lostAt s h hstate hlost => ?_⟩
  · rw [exec_roundOpen_unarmed h]
    obtain hstate | ⟨hstate, hround⟩ := hstate
    · simp only [State.judgeRound, State.release_i, Liu.openRound, hstate]
      rfl
    · have hnone : isGap s.liu.round number = none := by
        obtain hround | ⟨n, hround, hnext⟩ := hround
        · rw [hround]; rfl
        · rw [hround, isGap, if_pos hnext]
      simp only [State.judgeRound, State.release_i, Liu.openRound, hstate, State.compareRound, hnone]
      rfl
  · have hclass : (RecordBody.roundGap ((n + 1) % 256) number).cls ≠ .minor := nofun
    have hgap : isGap s.liu.round number = some ((n + 1) % 256) := by rw [hround, isGap, if_neg hgap]
    rw [exec_roundOpen_unarmed h]
    simp only [State.judgeRound, State.release_i, Liu.openRound, hstate, State.compareRound, hgap, State.write_of_not_minor hclass]
    rfl
  · have hclass : (RecordBody.lineReturn (((s.captureAt .i).rt - lostAt) / 1000) number).cls ≠ .minor := nofun
    rw [exec_roundOpen_unarmed h]
    simp only [State.judgeRound, State.release_i, Liu.openRound, hstate, State.returnLine, hlost, Option.getD_some, durationMs,
      State.writeReport_of_not_minor hclass]
    rfl

/-! ### The field forgotten (R71, R99) -/

theorem State.lineKnowledgeLost_lys {s : State} (h : s.MovementsSound) (ending : Instant) :
    (s.lineKnowledgeLost ending).lys = { s.lys with elements := s.lys.elements.map (LiveElement.forgotten ending.rt) } := by
  have hreset : (s.onElements fun x => x.lineReset ending.rt).MovementsSound := h.onElements fun _ => rfl
  rw [State.lineKnowledgeLost, State.closeAll_lys hreset]
  simp only [State.onElements, State.onLys_lys, List.map_map]
  rfl

theorem State.lineKnowledgeLost_at? {s : State} (h : s.MovementsSound) (ending : Instant) (k : Nat) :
    (s.lineKnowledgeLost ending).mvs.at? k = none := State.closeAll_at? (s := s.onElements _) h.positions ..

/-- Settles O13: the line unit's part, the record, and the field forgotten with every movement closed. -/
theorem resetAndLossForgetTheField : Obligations.ResetAndLossForgetTheField := by
  refine ⟨fun s h => ?_, fun s h harmed hdue => ?_⟩
  · have hclass : RecordBody.lineReset.cls ≠ .minor := nofun
    let s1 : State := ((((s.release .i).onLiu fun l => { l with phase := .none, round := none }).endTurn).write .lineReset (s.captureAt .i).date)
    have hs1 : s1.MovementsSound := h.of_eq rfl rfl
    have hfirst : s.evj.Grown s1.evj [{ seq := s.evj.next, body := .lineReset, date := (s.captureAt .i).date, flags := {} }] := by
      have := Evj.Grown.store s.evj .lineReset (s.captureAt .i).date {}
      rwa [← Evj.offer_of_not_minor hclass] at this
    obtain ⟨horh, ends, hends⟩ := State.closeAll_ends (s := s1.onElements fun x => x.lineReset (s.captureAt .i).rt) h.positions
      (reason := .line) nofun (s.captureAt .i).instant hfirst
    refine ⟨s1.lineKnowledgeLost (s.captureAt .i).instant, rfl, ?_, ?_, State.lineKnowledgeLost_lys hs1 _, State.lineKnowledgeLost_at? hs1 _,
      ⟨ends, hends⟩, ?_, ?_, ?_, ?_, horh, ?_, ?_⟩
    all_goals simp [s1, State.endTurn, State.release_i]
  · intro body
    have hclass : body.cls ≠ .minor := nofun
    let s1 : State := ((s.onLiu fun l => l.lose s.tbu.rt).endTurn).writeReport body s.now .lineLost
    have hs1 : s1.MovementsSound := h.of_eq rfl rfl
    have hwritten : s1 = { s with
        liu := { s.liu.lose s.tbu.rt with turn := .closed }
        evj := s.evj.store body s.now {}
        orh := s.orh.raise { kind := .lineLost, priority := 1, seq := s.evj.next, date := s.now, flags := {}, summary := .ofRecord body } } :=
      State.writeReport_of_not_minor hclass _ _ _ _
    have hfirst : s.evj.Grown s1.evj [{ seq := s.evj.next, body := body, date := s.now, flags := {} }] := by
      rw [hwritten]
      exact .store ..
    obtain ⟨horh, ends, hends⟩ := State.closeAll_ends (s := s1.onElements fun x => x.lineReset s.nowInstant.rt) h.positions
      (reason := .line) nofun s.nowInstant hfirst
    have hlys := State.lineKnowledgeLost_lys hs1 s.nowInstant
    have hexec : exec .lossExpiry s = .next (s1.lineKnowledgeLost s.nowInstant) := by
      have hnone : (s1.lineKnowledgeLost s.nowInstant).lys.armed = none := by rw [hlys, hwritten]; exact harmed
      rw [exec_lossExpiry, State.takeLoss, if_pos hdue, State.loseLine]
      exact congrArg _ (State.takeArmed_of_none hnone _ _)
    refine ⟨s1.lineKnowledgeLost s.nowInstant, hexec, ?_, ?_, State.lineKnowledgeLost_at? hs1 _, ⟨ends, hends⟩, ?_, ?_, ?_, ?_, ?_, ?_, ?_, ?_⟩
    · simp [hwritten, Liu.lose]
    · rw [hlys, hwritten]
      rfl
    · rw [State.lineKnowledgeLost, horh, hwritten]
      rfl
    all_goals simp [hwritten]

/-! ### RESTART (R18, R79, R102, R120, R163, R194) -/

/-- An element given up at a RESTART (R79). -/
def LiveElement.refreshed (rt : Nat) (e : LiveElement) : LiveElement := { e with state := freshElementState rt }

/-- Where no element is linked, closing movements changes none. -/
theorem State.closeAll_elements_of_unlinked {s : State}
    (h : ∀ (i : Nat) (e : LiveElement), s.lys.elements[i]? = some e → e.state.movement = none) (reason : AbandonReason) (ending : Instant) :
    (s.closeAll reason ending).lys = s.lys := by
  rw [(s.closeAll_restated reason ending).frame, ← map_unlinked_of_unlinked (State.closeAll_unlinked h reason ending),
    s.closeAll_map_unlinked reason ending, map_unlinked_of_unlinked h]

/-- The state in which a RESTART closes the movements: its record written, the elements fresh, the unknown addresses gone (R79, R194). -/
def State.restarting (s : State) (c : Capture) : State :=
  ((s.write s.restartRecord c.date).onElements fun _ => freshElementState s.tbu.rt).onLys fun l => { l with unknown := [] }

theorem State.warmRestart_eq (s : State) (c : Capture) : s.warmRestart c =
    ((((s.restarting c).closeAll .restart c.instant).onPsd fun d => { d with points := d.points.map fun p => { p with record := {} } }).onLys
      fun l => { l with armed := none }).restartOrders := by
  unfold State.warmRestart State.restartField State.restarting
  rfl

theorem State.restarting_unlinked (s : State) (c : Capture) (i : Nat) (e : LiveElement) (he : (s.restarting c).lys.elements[i]? = some e) :
    e.state.movement = none := by
  simp only [State.restarting, State.onElements, State.onLys_lys, List.getElem?_map, Option.map_eq_some_iff] at he
  obtain ⟨e', -, rfl⟩ := he
  rfl

/-- Settles O53: the record first, then every movement closed among elements made fresh, and the orders emptied. -/
theorem restartGivesUpTheField : Obligations.RestartGivesUpTheField := by
  refine fun s h => ⟨?_, rfl⟩
  have hclass : (s.release .i).restartRecord.cls ≠ .minor := nofun
  have hexec : exec (.restart .unicast) s = .next ((s.release .i).warmRestart (s.captureAt .i)) := rfl
  rw [State.warmRestart_eq] at hexec
  generalize hr : (s.release .i).restarting (s.captureAt .i) = r at hexec
  have hlys : r.lys = { s.lys with elements := s.lys.elements.map (LiveElement.refreshed s.tbu.rt), unknown := [] } := by
    rw [← hr]
    rfl
  have hevj : r.evj = s.evj.store (s.release .i).restartRecord (s.captureAt .i).date {} := by
    rw [← hr]
    exact Evj.offer_of_not_minor hclass
  have hmvs : r.mvs = s.mvs := by rw [← hr]; rfl
  have hliu : r.liu = (s.release .i).liu := by rw [← hr]; rfl
  have horh : r.orh = s.orh := by rw [← hr]; rfl
  have hrest : r.tbu = s.tbu ∧ r.ttc = s.ttc ∧ r.cld = s.cld ∧ r.pins = s.pins ∧ r.clk = s.clk ∧ r.psd = s.psd := by
    rw [← hr]
    exact ⟨rfl, rfl, rfl, rfl, rfl, rfl⟩
  have hunlinked : ∀ (i : Nat) (e : LiveElement), r.lys.elements[i]? = some e → e.state.movement = none := hr ▸ State.restarting_unlinked _ _
  have hpositions : r.mvs.table.length = 64 := hmvs ▸ h.positions
  have hfirst : s.evj.Grown r.evj
      [{ seq := s.evj.next, body := (s.release .i).restartRecord, date := (s.captureAt .i).date, flags := {} }] := hevj ▸ .store ..
  obtain ⟨hclosedOrh, ends, hends⟩ := State.closeAll_ends hpositions (reason := .restart) nofun (s.captureAt .i).instant hfirst
  have hfree (k : Nat) := State.closeAll_at? hpositions .restart (s.captureAt .i).instant k
  have hclosedLys := State.closeAll_elements_of_unlinked hunlinked .restart (s.captureAt .i).instant
  obtain ⟨hpins, hcliu, -, htbu, hpsd, httc, hcld, hclk, -⟩ := r.closeAll_frame .restart (s.captureAt .i).instant
  generalize r.closeAll .restart (s.captureAt .i).instant = closed at *
  obtain ⟨htbu', httc', hcld', hpins', hclk', hpsd'⟩ := hrest
  rw [hmvs] at hends
  refine ⟨_, hexec, ?_, hfree, ?_, ?_, rfl, ?_, ?_, ?_, ?_, ?_, ⟨ends, (s.release .i).restartRecord, hends.1, hends.2.1, ?_, hends.2.2⟩, ?_, ?_,
    ?_, ?_, ?_⟩
  all_goals
    simp [State.restartOrders, State.endTurn, State.release_i, State.restartRecord, Psd.trains, LiveElement.refreshed, freshElementState, hclosedLys,
      hlys, hpsd, hpsd', hclosedOrh, horh, hcliu, hliu, htbu, htbu', httc, httc', hcld, hcld', hpins, hpins', hclk, hclk']

end Sys2Proof.Machine
end

section
/-! The quality class, the adjustments of ST, the seasonal change, the holdover events and TIME SET, state by state (R20 to R27, R36,
R37, R40, R41). -/

namespace Sys2Proof.Machine

/-! ### The quality class (R26) -/

theorem State.quality_of_unset {s : State} (h : s.tbu.timeState = .unset) : s.quality = .u := by simp only [State.quality, h]

theorem State.quality_of_free {s : State} (h : s.tbu.timeState = .free) : s.quality = .c := by simp only [State.quality, h]

theorem State.quality_of_acquire {s : State} (h : s.tbu.timeState = .acquire) : s.quality = .b := by simp only [State.quality, h]

theorem State.quality_of_locked {s : State} (h : s.tbu.timeState = .locked) : s.quality = .a := by simp only [State.quality, h]

theorem State.quality_of_holdover {s : State} {entry : Nat} (h : s.tbu.timeState = .holdover) (hentry : s.tbu.holdoverEntry = some entry) :
    s.quality = if s.tbu.rt ≤ entry + 900000000 then .b else .c := by
  simp only [State.quality, h, hentry, Nat.sub_le_iff_le_add']

theorem State.quality_of_holdover_unentered {s : State} (h : s.tbu.timeState = .holdover) (hentry : s.tbu.holdoverEntry = none) :
    s.quality = .c := by
  simp only [State.quality, h, hentry]

/-- A date of this instant, with the class that the time state gives (R24, R26). -/
theorem State.now_of_quality {s : State} {q : Quality} (h : s.quality = q) :
    s.now = { ms := s.tbu.st / 1000, season := s.tbu.season, quality := q } := by
  rw [State.now, h]
  rfl

/-- Settles O15: the STATUS, the capture and the date all read the one class, which each time state gives. -/
theorem qualityFollowsTimeState : Obligations.QualityFollowsTimeState := by
  intro s
  refine ⟨rfl, rfl, ?_⟩
  change s.quality = _
  cases hstate : s.tbu.timeState with
  | unset => rw [State.quality_of_unset hstate]
  | free => rw [State.quality_of_free hstate]
  | acquire => rw [State.quality_of_acquire hstate]
  | locked => rw [State.quality_of_locked hstate]
  | holdover =>
    cases hentry : s.tbu.holdoverEntry with
    | some entry => rw [State.quality_of_holdover hstate hentry]
    | none => rw [State.quality_of_holdover_unentered hstate hentry]

/-! ### The trim carry and the slew tick (R20 to R23) -/

theorem State.adjusted_of_pos {d : Int} (s : State) (h : 0 < d) (st : Nat) :
    s.adjusted d st = if st < 5662310399999999 then st + 1 else st := by
  rw [State.adjusted, if_pos h]
  rfl

theorem State.adjusted_of_neg {s : State} {d : Int} (h : d < 0) (hrisen : s.clk.stMark < s.clk.stReached) (st : Nat) :
    s.adjusted d st = st - 1 := by
  have hkept : ¬s.skipLost = true := by rw [State.skipLost, decide_eq_true_iff]; omega
  rw [State.adjusted, if_neg (by omega), if_neg hkept]
  rfl

theorem State.adjusted_of_lost {s : State} {d : Int} (h : d < 0) (hlost : s.clk.stReached ≤ s.clk.stMark) (st : Nat) :
    s.adjusted d st = st := by
  have hskip : s.skipLost = true := decide_eq_true hlost
  rw [State.adjusted, if_neg (by omega), if_pos hskip]

theorem exec_trimCarry_of_due {s : State} (h : 100000000 ≤ s.tbu.accumulator) :
    exec .trimCarry s = .next { s with
      tbu := { s.tbu with accumulator := s.tbu.accumulator - 100000000, st := s.adjusted s.tbu.trim s.tbu.st }
      clk := { s.clk with stReached := s.adjusted s.tbu.trim s.clk.stReached } } := by
  rw [exec_trimCarry, execTrimCarry, if_pos (show s.trimCarryDue = true from decide_eq_true h)]
  rfl

theorem exec_slewTick_of_due {s : State} (h : 1000 ≤ s.tbu.slewPhase) (hslew : s.tbu.slew ≠ 0) :
    exec .slewTick s = .next { s with
      tbu := { s.tbu with slewPhase := 0, st := s.adjusted s.tbu.slew s.tbu.st, slew := s.tbu.slew - s.tbu.slew.sign }
      clk := { s.clk with stReached := s.adjusted s.tbu.slew s.clk.stReached } } := by
  have hdue : s.slewTickDue = true := by rw [State.slewTickDue, decide_eq_true h, decide_eq_true hslew]; rfl
  rw [exec_slewTick, execSlewTick, if_pos hdue]
  rfl

theorem ite_eq_zero_pred (st : Nat) : (if st = 0 then 0 else st - 1) = st - 1 := by split <;> omega

/-- Settles O19: ST and the advance are adjusted in the direction of T or P, a skip being lost where the advance has not risen. -/
theorem trimAndSlewAdjustST : Obligations.TrimAndSlewAdjustST := by
  refine ⟨fun s hdue => ⟨fun hpos => ?_, fun hneg hrisen => ?_, fun hneg hlost => ?_⟩,
    fun s hdue => ⟨fun hpos => ?_, fun hneg hrisen => ?_, fun hneg hlost => ?_⟩⟩
  · rw [exec_trimCarry_of_due hdue, State.adjusted_of_pos s hpos, State.adjusted_of_pos s hpos]
  · rw [exec_trimCarry_of_due hdue, State.adjusted_of_neg hneg hrisen, State.adjusted_of_neg hneg hrisen, ite_eq_zero_pred]
  · rw [exec_trimCarry_of_due hdue, State.adjusted_of_lost hneg hlost, State.adjusted_of_lost hneg hlost]
  · rw [exec_slewTick_of_due hdue hpos.ne', State.adjusted_of_pos s hpos, State.adjusted_of_pos s hpos, Int.sign_eq_one_of_pos hpos]
  · rw [exec_slewTick_of_due hdue hneg.ne, State.adjusted_of_neg hneg hrisen, State.adjusted_of_neg hneg hrisen, ite_eq_zero_pred,
      Int.sign_eq_neg_one_of_neg hneg, sub_neg_eq_add]
  · rw [exec_slewTick_of_due hdue hneg.ne, State.adjusted_of_lost hneg hlost, State.adjusted_of_lost hneg hlost,
      Int.sign_eq_neg_one_of_neg hneg, sub_neg_eq_add]

/-! ### Announcements that change nothing (R27, R140, R181) -/

/-- With no planes and none to make, the TTC does nothing at a time change. -/
theorem State.announceToTtc_of_no_planes {s : State} {a : Announcement} (hplanes : s.ttc.planes = none)
    (hfirst : a.unsetBefore = true → s.ttc.active = false) : s.announceToTtc a = s := by
  rw [State.announceToTtc, hplanes]
  refine if_neg fun ⟨hbefore, _, hactive⟩ => ?_
  rw [hfirst hbefore] at hactive
  cases hactive

theorem ClockLine.answersAnnouncement_eq_false {l : ClockLine} (h : l.state = .stopped ∨ l.state = .fault ∨ l.flight ≠ none) :
    l.answersAnnouncement = false := by
  obtain hstate | hstate | hflight := h
  · simp only [ClockLine.answersAnnouncement, ClockLine.inService, hstate, Bool.false_and]
  · simp only [ClockLine.answersAnnouncement, ClockLine.inService, hstate, Bool.false_and]
  · obtain ⟨i, hi⟩ := Option.ne_none_iff_exists'.mp hflight
    simp only [ClockLine.answersAnnouncement, hi, Option.isNone_some, Bool.and_false]

theorem State.announceToLine_of_silent {s : State} {l : ClockLineName} (h : (s.line l).answersAnnouncement = false) :
    s.announceToLine l = s := by
  rw [State.announceToLine, h, if_neg (by decide)]

/-- With no line to evaluate, neither does anything at a time change, and no order is chosen (entry 4). -/
theorem State.announceToLines_of_silent {s : State} (h : ∀ l, (s.line l).answersAnnouncement = false) : s.announceToLines = s := by
  have ha : s.cld.a.answersAnnouncement = false := h .a
  rw [State.announceToLines, ha, Bool.false_and, if_neg (by decide), State.announceToLine_of_silent (h .a),
    State.announceToLine_of_silent (h .b)]

theorem State.announce_of_silent {s : State} {a : Announcement} (hplanes : s.ttc.planes = none)
    (hfirst : a.unsetBefore = true → s.ttc.active = false) (hlines : ∀ l, (s.line l).answersAnnouncement = false) :
    s.announce a = s := by
  rw [State.announce, State.announceToTtc_of_no_planes hplanes hfirst, State.announceToLines_of_silent hlines]

/-- Lines in STOPPED are not evaluated at a time change. -/
theorem State.silent_of_stopped {s : State} (ha : s.cld.a.state = .stopped) (hb : s.cld.b.state = .stopped) (l : ClockLineName) :
    (s.line l).answersAnnouncement = false := by
  refine ClockLine.answersAnnouncement_eq_false (.inl ?_)
  cases l with
  | a => exact ha
  | b => exact hb

/-! ### The seasonal change (R25, R41) -/

theorem State.applySeason_eq (s : State) (offset minute : Nat) :
    let body : RecordBody := .season s.tbu.season offset
    let date := dateOf (minute * 60000000) offset s.quality
    s.applySeason offset minute = { s with
      tbu := { s.tbu with season := offset, scheduled := none }
      evj := s.evj.store body date {}
      orh := s.orh.raise
        { kind := .season, priority := 3, seq := s.evj.next, date := date, flags := {}, summary := .ofRecord body } } := by
  intro body date
  have hclass : body.cls ≠ .minor := nofun
  rw [State.applySeason, State.writeReport_of_not_minor hclass]
  rfl

theorem State.applySeasonIfReached_of_reached {s : State} {offset minute : Nat} (hscheduled : s.tbu.scheduled = some (offset, minute))
    (hreached : minute * 60000000 ≤ s.tbu.st) : s.applySeasonIfReached = s.applySeason offset minute := by
  simp only [State.applySeasonIfReached, hscheduled]
  exact if_pos hreached

theorem State.applySeasonIfReached_of_not_reached {s : State}
    (h : ∀ offset minute, s.tbu.scheduled = some (offset, minute) → s.tbu.st < minute * 60000000) : s.applySeasonIfReached = s := by
  unfold State.applySeasonIfReached
  split
  case h_1 offset minute hscheduled => exact if_neg (not_le.mpr (h offset minute hscheduled))
  case h_2 => rfl

theorem State.takeSeason_of_later {s : State} {offset minute : Nat} (hscheduled : s.tbu.scheduled = some (offset, minute))
    (hlater : s.tbu.st < minute * 60000000) : s.takeSeason = s := by
  have hnot : instantReached s.tbu.scheduled s.tbu.st = false := by
    rw [hscheduled]
    exact decide_eq_false (not_le.mpr hlater)
  rw [State.takeSeason, hnot, if_neg (by decide)]

/-- R25: the change reached is applied, and announced. -/
theorem State.takeSeason_of_reached {s : State} {offset minute : Nat} (hscheduled : s.tbu.scheduled = some (offset, minute))
    (hreached : minute * 60000000 ≤ s.tbu.st) :
    s.takeSeason = (s.applySeason offset minute).announce
      { cause := .season, stBefore := s.tbu.st, stAfter := s.tbu.st, seasonBefore := s.tbu.season, seasonAfter := offset
        unsetBefore := decide (s.tbu.timeState = .unset) } := by
  have hdue : instantReached s.tbu.scheduled s.tbu.st = true := by
    rw [hscheduled]
    exact decide_eq_true hreached
  have hseason : (s.applySeason offset minute).tbu.season = offset := by rw [State.applySeason_eq]
  rw [State.takeSeason, hdue, if_pos rfl, State.applySeasonIfReached_of_reached hscheduled hreached]
  simp only [hseason]

/-- Settles O20: the change reached is applied, with nothing to announce; the order schedules a change, and takes one already reached. -/
theorem seasonIsScheduledAndTaken : Obligations.SeasonIsScheduledAndTaken := by
  constructor
  · intro offset minute s hscheduled hreached hplanes hactive ha hb date body
    have hsilent := State.silent_of_stopped (s := s.applySeason offset minute) (by simpa using ha) (by simpa using hb)
    rw [exec_season, State.takeSeason_of_reached hscheduled hreached,
      State.announce_of_silent (by simpa using hplanes) (fun _ => by simpa using hactive) hsilent, State.applySeason_eq]
    rfl
  · intro m offset minute s
    refine ⟨fun hoffset hminute hlater => ?_, fun hoffset hminute hreached => ?_, fun hrange => ?_⟩
    · rw [exec_seasonChange, State.orderSeasonChange, if_pos ⟨hoffset, hminute⟩]
      exact congrArg _ (State.takeSeason_of_later (offset := offset) (minute := minute) rfl hlater)
    · rw [exec_seasonChange, State.orderSeasonChange, if_pos ⟨hoffset, hminute⟩]
      rfl
    · rw [exec_seasonChange, State.orderSeasonChange, if_neg (by omega)]

/-! ### Holdover (R36, R37) -/

theorem State.holdoverExpiryDue_of_reached {s : State} {expiry : Nat} (hstate : s.tbu.timeState = .acquire ∨ s.tbu.timeState = .locked)
    (hexpiry : s.tbu.holdoverExpiry = some expiry) (hreached : expiry ≤ s.tbu.rt) : s.holdoverExpiryDue = true := by
  rw [State.holdoverExpiryDue, hexpiry, Bool.and_eq_true, Bool.or_eq_true, decide_eq_true_iff, decide_eq_true_iff]
  exact ⟨hstate, decide_eq_true hreached⟩

theorem State.holdoverLimitDue_of_reached {s : State} {entry : Nat} (hstate : s.tbu.timeState = .holdover)
    (hentry : s.tbu.holdoverEntry = some entry) (hreached : entry + s.orh.params.holdoverLimit * 60000000 ≤ s.tbu.rt) :
    s.holdoverLimitDue = true := by
  rw [State.holdoverLimitDue, hentry, decide_eq_true hstate, Bool.true_and]
  exact decide_eq_true hreached

/-- R37: the holdover limit makes the time state FREE, recorded and reported. -/
theorem State.takeHoldoverLimit_of_due {s : State} (hdue : s.holdoverLimitDue = true) :
    let body : RecordBody := .timeState s.tbu.timeState .free .holdoverLimit s.tbu.good s.tbu.trim
    let date : Date := { ms := s.tbu.st / 1000, season := s.tbu.season, quality := .c }
    s.takeHoldoverLimit = { s with
      tbu := { s.tbu with timeState := .free, holdoverEntry := none }
      evj := s.evj.store body date {}
      orh := s.orh.raise
        { kind := .timeFree, priority := 0, seq := s.evj.next, date := date, flags := {}, summary := .ofRecord body } } := by
  intro body date
  have hclass : body.cls ≠ .minor := nofun
  rw [State.takeHoldoverLimit, if_pos hdue]
  exact State.writeReport_of_not_minor hclass _ _ _ _

/-- Settles O21: each event, due, changes the state and writes its record with the new state's class. -/
theorem holdoverBeginsAndEnds : Obligations.HoldoverBeginsAndEnds := by
  constructor
  · intro expiry s hstate hexpiry hreached
    have hclass : (RecordBody.timeState s.tbu.timeState .holdover .noMark s.tbu.good s.tbu.trim).cls ≠ .minor := nofun
    have hquality : ({ s with
        tbu := { s.tbu with timeState := .holdover, holdoverEntry := some s.tbu.rt, holdoverExpiry := none } } : State).quality = .b := by
      rw [State.quality_of_holdover rfl rfl]
      exact if_pos (Nat.le_add_right s.tbu.rt 900000000)
    rw [exec_holdoverExpiry, execHoldoverExpiry, if_pos (State.holdoverExpiryDue_of_reached hstate hexpiry hreached)]
    refine congrArg _ ((State.write_of_not_minor hclass _ _ _).trans ?_)
    rw [State.onTbu, State.now_of_quality hquality]
  · intro entry s hstate hentry hreached body date
    rw [exec_holdoverLimit, State.takeHoldoverLimit_of_due (State.holdoverLimitDue_of_reached hstate hentry hreached), hstate]

/-! ### The time orders (R40) -/

/-- TIME SET up to its announcement: ST, S and the state, and the TIME SET record and report. -/
def State.setClock (s : State) (ms offset : Nat) : State :=
  let s1 := s.onTbu fun t => t.set (ms * 1000) offset
  s1.writeReport (.timeSet s.tbu.st (ms * 1000) s.tbu.season offset s.tbu.timeState (instantReached s.tbu.scheduled (ms * 1000))) s1.now
    .timeSet

theorem State.setTime_eq (s : State) (ms offset : Nat) :
    s.setTime ms offset = (s.setClock ms offset).announce
      { cause := .timeSet, stBefore := s.tbu.st, stAfter := ms * 1000, seasonBefore := s.tbu.season, seasonAfter := offset
        unsetBefore := decide (s.tbu.timeState = .unset) } := rfl

@[simp] theorem State.setClock_frame (s : State) (ms offset : Nat) :
    (s.setClock ms offset).ttc = s.ttc ∧ (s.setClock ms offset).cld = s.cld ∧ (s.setClock ms offset).clk = s.clk := by
  simp [State.setClock]

theorem State.setClock_eq (s : State) (ms offset : Nat) :
    let body : RecordBody :=
      .timeSet s.tbu.st (ms * 1000) s.tbu.season offset s.tbu.timeState (instantReached s.tbu.scheduled (ms * 1000))
    let date : Date := { ms := ms, season := offset, quality := .c }
    s.setClock ms offset = { s with
      tbu := s.tbu.set (ms * 1000) offset
      evj := s.evj.store body date {}
      orh := s.orh.raise
        { kind := .timeSet, priority := 1, seq := s.evj.next, date := date, flags := {}, summary := .ofRecord body } } := by
  intro body date
  have hclass : body.cls ≠ .minor := nofun
  have hnow : (s.onTbu fun t => t.set (ms * 1000) offset).now = date := by
    rw [State.now_of_quality (State.quality_of_free rfl)]
    exact congrArg (fun n => ({ ms := n, season := offset, quality := .c } : Date)) (Nat.mul_div_cancel ms (by decide))
  rw [State.setClock, hnow, State.writeReport_of_not_minor hclass]
  rfl

/-- Settles O23: TIME SET gives the time base its new values, with nothing to announce, or is refused. -/
theorem timeSetSetsTheClock : Obligations.TimeSetSetsTheClock := by
  intro m ms offset s discarded body date
  constructor
  · intro hms hoffset hplanes hactive ha hb
    have hsilent := State.silent_of_stopped (s := (s.release .i).setClock ms offset) (by simpa using ha) (by simpa using hb)
    rw [exec_timeSet, State.orderTimeSet, if_pos ⟨hms, hoffset⟩, State.setTime_eq,
      State.announce_of_silent (by simpa using hplanes) (fun _ => by simpa using hactive) hsilent, State.setClock_eq]
    rfl
  · intro hrange
    rw [exec_timeSet, State.orderTimeSet, if_neg (by omega)]

end Sys2Proof.Machine
end

section
/-! The second mark in every time state (R28 to R35): ignored, a STEP, or a SLEW that learns and counts. -/

namespace Sys2Proof.Machine

/-! ### The mark ignored (R29) -/

theorem State.takeMark_of_ignored {s : State} (hstate : s.tbu.timeState = .unset ∨ s.tbu.timeState = .free)
    (hlapsed : ∀ m taken, s.tbu.label = some (m, taken) → 2000000 < s.tbu.rt - taken) :
    s.takeMark = { s with
      tbu := { s.tbu with
        stepLimit := s.orh.params.stepLimit, lockWindow := s.orh.params.lockWindow, label := none, prevAccepted := false } } := by
  have hnone := Tbu.markLabel_of_lapsed hlapsed
  unfold State.takeMark
  rw [hnone]
  dsimp only
  split
  case h_1 => rfl
  case h_2 => rfl
  all_goals simp_all

/-! ### The action on a mark (R30) -/

/-- The phase error of a mark against second `n` (R28, R29). -/
def State.phaseError (s : State) (n : Nat) : Int := (s.tbu.st : Int) - (n * 1000000 : Nat)

theorem State.actOnMark_of_step {s : State} {n : Nat} (labelled : Bool)
    (h : s.tbu.timeState = .unset ∨ (s.tbu.timeState ≠ .locked ∧ s.tbu.stepLimit < (s.phaseError n).natAbs)) :
    s.actOnMark n labelled = s.stepMark n (s.phaseError n) labelled := by
  have hbeyond : s.tbu.timeState ≠ .unset → decide (s.tbu.stepLimit < (s.phaseError n).natAbs) = true := fun hset =>
    decide_eq_true (h.resolve_left hset).2
  have hunlocked : s.tbu.timeState ≠ .locked := by
    rintro hlocked
    simp [hlocked] at h
  unfold State.actOnMark
  split
  case h_1 => rfl
  case h_4 hstate => exact absurd hstate hunlocked
  all_goals exact if_pos (hbeyond (by simp [*]))

theorem State.actOnMark_of_slew {s : State} {n : Nat} (labelled : Bool) (hset : s.tbu.timeState ≠ .unset)
    (hwithin : (s.phaseError n).natAbs ≤ s.tbu.stepLimit) : s.actOnMark n labelled = s.slewMark (s.phaseError n) := by
  have hnot : ¬decide (s.tbu.stepLimit < (s.phaseError n).natAbs) = true := by
    rw [decide_eq_true_iff]
    exact not_lt.mpr hwithin
  unfold State.actOnMark
  split
  case h_1 hunset => exact absurd hunset hset
  all_goals exact if_neg hnot

/-! ### The STEP (R31) -/

/-- STEP's time base, record and report (R31), before a seasonal change that the new ST reaches. -/
def State.steppedTo (s : State) (n : Nat) (e : Int) (labelled : Bool) : State :=
  let st := if n ≤ 5662310399 then n * 1000000 else 5662310399999999
  let body : RecordBody := .timeStep e n labelled s.tbu.st st s.tbu.timeState .acquire
  let date : Date := { ms := st / 1000, season := s.tbu.season, quality := .b }
  { s with
    tbu := s.tbu.stepped n
    evj := s.evj.store body date {}
    orh := s.orh.raise
      { kind := .timeStep, priority := 1, seq := s.evj.next, date := date, flags := {}, summary := .ofRecord body } }

theorem State.stepClock_eq (s : State) (n : Nat) (e : Int) (labelled : Bool) :
    s.stepClock n e labelled = (s.steppedTo n e labelled).applySeasonIfReached := by
  have hnow : (s.onTbu fun t => t.stepped n).now = { ms := stepTo n / 1000, season := s.tbu.season, quality := .b } :=
    State.now_of_quality (State.quality_of_acquire rfl)
  have hclass : (RecordBody.timeStep e n labelled s.tbu.st (stepTo n) s.tbu.timeState .acquire).cls ≠ .minor := nofun
  rw [State.stepClock, hnow, State.writeReport_of_not_minor hclass]
  rfl

/-- A STEP with nothing to announce is its clock's. -/
theorem State.stepMark_of_silent {s : State} {n : Nat} {e : Int} {labelled : Bool} (hplanes : s.ttc.planes = none)
    (hfirst : s.tbu.timeState = .unset → s.ttc.active = false) (hlines : ∀ l, (s.line l).answersAnnouncement = false) :
    s.stepMark n e labelled = (s.steppedTo n e labelled).applySeasonIfReached := by
  have hline : ∀ l, ((s.stepClock n e labelled).line l) = s.line l := fun l => by cases l <;> simp [State.line]
  rw [State.stepMark, State.announce_of_silent (by simpa using hplanes) (by simpa using hfirst) (fun l => hline l ▸ hlines l),
    State.stepClock_eq]

/-- Settles O16: an ignored mark, and a STEP with nothing to announce, without and with a seasonal change reached. -/
theorem markIgnoredOrStepped : Obligations.MarkIgnoredOrStepped := by
  constructor
  · intro s hstate hlabel
    rw [exec_mark, State.takeMark_of_ignored hstate]
    intro m taken heq
    obtain hnone | ⟨n, taken', hsome, hlapsed⟩ := hlabel
    · rw [hnone] at heq
      cases heq
    · rw [hsome] at heq
      cases heq
      exact hlapsed
  · intro n labelled s hagainst e hstep hplanes hfirst hlines st body date stepped
    have haction := State.actOnMark_of_step (s := s.latchForMark) (n := n) labelled hstep
    have hsilent := State.stepMark_of_silent (s := s.latchForMark) (n := n) (e := e) (labelled := labelled) hplanes hfirst
      fun l => ClockLine.answersAnnouncement_eq_false (hlines l)
    have hmark : exec .mark s = .next stepped.applySeasonIfReached := by
      rw [exec_mark, State.takeMark_of_markAgainst hagainst, haction]
      exact congrArg _ hsilent
    constructor
    · intro hlater
      rw [hmark, State.applySeasonIfReached_of_not_reached hlater]
    · intro offset minute hscheduled hreached change at'
      have hdate : dateOf (minute * 60000000) offset .b = at' := by
        rw [dateOf, show minute * 60000000 / 1000 = minute * 60000 by omega]
      have hquality : stepped.quality = .b := State.quality_of_acquire rfl
      rw [hmark, State.applySeasonIfReached_of_reached (s := stepped) hscheduled hreached, State.applySeason_eq, hquality, hdate]

/-! ### Trim learning (R35, R22) -/

theorem Tbu.learns_iff (t : Tbu) (e : Int) :
    t.learns e = true ↔
      (t.timeState = .acquire ∨ t.timeState = .locked) ∧ t.prevAccepted = true ∧ t.prevSlew.natAbs ≤ 1000 ∧ e.natAbs ≤ t.lockWindow := by
  simp only [Tbu.learns, Bool.and_eq_true, Bool.or_eq_true, decide_eq_true_iff, and_assoc]

theorem Tbu.learn_of_not_learns {t : Tbu} {e : Int} (h : ¬t.learns e = true) : t.learn e = t := if_neg h

/-- R35, R22: the trim takes its learned value where it is learned, and the accumulator is cleared where T changes sign or becomes 0. -/
theorem Tbu.learn_eq (t : Tbu) (e : Int) :
    t.learn e = { t with
      trim := if t.learns e = true then learnedTrim t.trim e else t.trim
      accumulator :=
        if t.learns e = true ∧ ((learnedTrim t.trim e).sign ≠ t.trim.sign ∨ learnedTrim t.trim e = 0) then 0 else t.accumulator } := by
  by_cases hlearns : t.learns e = true
  · have haccumulator : accumulatorAfter t.trim (learnedTrim t.trim e) t.accumulator =
        if (learnedTrim t.trim e).sign ≠ t.trim.sign ∨ learnedTrim t.trim e = 0 then 0 else t.accumulator := by
      unfold accumulatorAfter
      split <;> split <;> tauto
    simp only [Tbu.learn, haccumulator, hlearns, true_and, if_true]
  · simp only [Tbu.learn_of_not_learns hlearns, hlearns, Bool.false_eq_true, false_and, if_false]

@[simp] theorem Tbu.learn_lockWindow (t : Tbu) (e : Int) : (t.learn e).lockWindow = t.lockWindow := by rw [Tbu.learn_eq]

@[simp] theorem Tbu.learn_good (t : Tbu) (e : Int) : (t.learn e).good = t.good := by rw [Tbu.learn_eq]

@[simp] theorem Tbu.learn_outliers (t : Tbu) (e : Int) : (t.learn e).outliers = t.outliers := by rw [Tbu.learn_eq]

/-! ### The counts (R34) -/

theorem Tbu.slewCounts_of_accepted {t : Tbu} {e : Int} (h : t.timeState = .free ∨ t.timeState = .holdover) :
    t.slewCounts e = { t with timeState := .acquire, good := if e.natAbs ≤ t.lockWindow then 1 else 0 } := by
  obtain h | h := h
  · simp only [Tbu.slewCounts, h, decide_eq_true_iff]
  · simp only [Tbu.slewCounts, h, decide_eq_true_iff]

section
variable {t : Tbu} {e : Int} (hinside : e.natAbs ≤ t.lockWindow)
include hinside

theorem Tbu.slewCounts_of_acquire_good (hstate : t.timeState = .acquire) (hfew : t.good + 1 < 8) :
    t.slewCounts e = { t with good := t.good + 1 } := by
  simp only [Tbu.slewCounts, hstate, decide_eq_true hinside, if_true, if_neg (not_le.mpr hfew)]

theorem Tbu.slewCounts_of_acquire_eighth (hstate : t.timeState = .acquire) (heighth : 8 ≤ t.good + 1) :
    t.slewCounts e = { t with good := t.good + 1, timeState := .locked, outliers := 0 } := by
  simp only [Tbu.slewCounts, hstate, decide_eq_true hinside, if_true, if_pos heighth]

theorem Tbu.slewCounts_of_locked_good (hstate : t.timeState = .locked) : t.slewCounts e = { t with outliers := 0 } := by
  simp only [Tbu.slewCounts, hstate, decide_eq_true hinside, if_true]

end

section
variable {t : Tbu} {e : Int} (houtside : t.lockWindow < e.natAbs)
include houtside

theorem Tbu.slewCounts_of_acquire_outside (hstate : t.timeState = .acquire) : t.slewCounts e = { t with good := 0 } := by
  simp only [Tbu.slewCounts, hstate, decide_eq_false (not_le.mpr houtside), Bool.false_eq_true, if_false]

theorem Tbu.slewCounts_of_locked_outlier (hstate : t.timeState = .locked) (hfew : t.outliers + 1 < 4) :
    t.slewCounts e = { t with outliers := t.outliers + 1 } := by
  simp only [Tbu.slewCounts, hstate, decide_eq_false (not_le.mpr houtside), Bool.false_eq_true, if_false, if_neg (not_le.mpr hfew)]

theorem Tbu.slewCounts_of_locked_fourth (hstate : t.timeState = .locked) (hfourth : 4 ≤ t.outliers + 1) :
    t.slewCounts e = { t with timeState := .acquire, good := 0, outliers := 0 } := by
  simp only [Tbu.slewCounts, hstate, decide_eq_false (not_le.mpr houtside), Bool.false_eq_true, if_false, if_pos hfourth]

theorem Tbu.learn_of_outside : t.learn e = t :=
  Tbu.learn_of_not_learns fun h => by
    obtain ⟨-, -, -, hinside⟩ := (t.learns_iff e).mp h
    omega

end

/-! ### The SLEW (R32, R34) -/

theorem Tbu.slewed_eq (t : Tbu) (e : Int) :
    t.slewed e = { (t.learn e).slewCounts e with
      slew := -e, slewPhase := 0, prevAccepted := true, prevSlew := -e, holdoverExpiry := some (t.rt + 3000000), holdoverEntry := none } :=
  rfl

/-- The time base after a SLEW before its trim and counts (R32). -/
def Tbu.taken (t : Tbu) (e : Int) : Tbu :=
  { t with
    slew := -e, slewPhase := 0, prevAccepted := true, prevSlew := -e, holdoverExpiry := some (t.rt + 3000000), holdoverEntry := none }

theorem Tbu.taken_timeState (t : Tbu) (e : Int) : (t.taken e).timeState = t.timeState := rfl

theorem Tbu.slewed_of_locked_good {t : Tbu} {e : Int} (hstate : t.timeState = .locked) (hinside : e.natAbs ≤ t.lockWindow) :
    let learns := t.prevAccepted = true ∧ t.prevSlew.natAbs ≤ 1000
    t.slewed e = { t.taken e with
      outliers := 0
      trim := if learns then learnedTrim t.trim e else t.trim
      accumulator := if learns ∧ ((learnedTrim t.trim e).sign ≠ t.trim.sign ∨ learnedTrim t.trim e = 0) then 0 else t.accumulator } := by
  intro learns
  have hlearns : (t.learns e = true) = learns := by
    rw [Tbu.learns_iff]
    exact propext ⟨fun ⟨_, haccepted, hslew, _⟩ => ⟨haccepted, hslew⟩, fun ⟨haccepted, hslew⟩ => ⟨.inr hstate, haccepted, hslew, hinside⟩⟩
  rw [Tbu.slewed_eq, Tbu.slewCounts_of_locked_good (by simpa using hinside) (by simpa using hstate), Tbu.learn_eq]
  simp only [hlearns, Tbu.taken]

theorem Tbu.slewed_of_acquire {t : Tbu} {e : Int} (hstate : t.timeState = .acquire) (hfew : t.good + 1 < 8 ∨ t.lockWindow < e.natAbs) :
    let learns := t.prevAccepted = true ∧ t.prevSlew.natAbs ≤ 1000 ∧ e.natAbs ≤ t.lockWindow
    t.slewed e = { t.taken e with
      good := if e.natAbs ≤ t.lockWindow then t.good + 1 else 0
      trim := if learns then learnedTrim t.trim e else t.trim
      accumulator := if learns ∧ ((learnedTrim t.trim e).sign ≠ t.trim.sign ∨ learnedTrim t.trim e = 0) then 0 else t.accumulator } := by
  intro learns
  have hlearns : (t.learns e = true) = learns := by
    rw [Tbu.learns_iff]
    exact propext (and_iff_right (.inl hstate))
  have hcounts : (t.learn e).slewCounts e = { t.learn e with good := if e.natAbs ≤ t.lockWindow then t.good + 1 else 0 } := by
    by_cases hinside : e.natAbs ≤ t.lockWindow
    · rw [Tbu.slewCounts_of_acquire_good (by simpa using hinside) (by simpa using hstate) (by simp; omega), if_pos hinside, Tbu.learn_good]
    · rw [Tbu.slewCounts_of_acquire_outside (by simpa using hinside) (by simpa using hstate), if_neg hinside]
  rw [Tbu.slewed_eq, hcounts, Tbu.learn_eq]
  simp only [hlearns, Tbu.taken]

theorem Tbu.slewed_of_locked_outlier {t : Tbu} {e : Int} (hstate : t.timeState = .locked) (houtside : t.lockWindow < e.natAbs)
    (hfew : t.outliers + 1 < 4) : t.slewed e = { t.taken e with outliers := t.outliers + 1 } := by
  rw [Tbu.slewed_eq, Tbu.learn_of_outside houtside, Tbu.slewCounts_of_locked_outlier houtside hstate hfew]
  rfl

theorem Tbu.slewed_of_locked_fourth {t : Tbu} {e : Int} (hstate : t.timeState = .locked) (houtside : t.lockWindow < e.natAbs)
    (hfourth : 4 ≤ t.outliers + 1) : t.slewed e = { t.taken e with timeState := .acquire, good := 0, outliers := 0 } := by
  rw [Tbu.slewed_eq, Tbu.learn_of_outside houtside, Tbu.slewCounts_of_locked_fourth houtside hstate hfourth]
  rfl

theorem Tbu.slewed_of_acquire_eighth {t : Tbu} {e : Int} (hstate : t.timeState = .acquire) (hinside : e.natAbs ≤ t.lockWindow)
    (heighth : 8 ≤ t.good + 1) :
    t.slewed e = { (t.learn e).taken e with timeState := .locked, good := t.good + 1, outliers := 0 } := by
  rw [Tbu.slewed_eq, Tbu.slewCounts_of_acquire_eighth (by simpa using hinside) (by simpa using hstate) (by simpa using heighth),
    Tbu.learn_good]
  rw [Tbu.learn_eq]
  rfl

theorem Tbu.slewed_of_accepted {t : Tbu} {e : Int} (hstate : t.timeState = .free ∨ t.timeState = .holdover) :
    t.slewed e = { t.taken e with timeState := .acquire, good := if e.natAbs ≤ t.lockWindow then 1 else 0 } := by
  have hnot : ¬t.learns e = true := fun h => by
    obtain ⟨htracking, -⟩ := (t.learns_iff e).mp h
    obtain h | h := hstate <;> simp [h] at htracking
  rw [Tbu.slewed_eq, Tbu.learn_of_not_learns hnot, Tbu.slewCounts_of_accepted hstate]
  rfl

theorem State.slewMark_of_same {s : State} {e : Int} {t : Tbu} (ht : s.tbu.slewed e = t) (hsame : t.timeState = s.tbu.timeState) :
    s.slewMark e = { s with tbu := t } := by
  subst ht
  exact if_pos hsame

/-- R34: a SLEW that changes the time state writes the TIME STATE record, VITAL and so never refused. -/
theorem State.slewMark_of_changed {s : State} {e : Int} {t : Tbu} {q : Quality} (ht : s.tbu.slewed e = t)
    (hchanged : t.timeState ≠ s.tbu.timeState) (hquality : ({ s with tbu := t } : State).quality = q) :
    s.slewMark e = { s with
      tbu := t
      evj := s.evj.store (.timeState s.tbu.timeState t.timeState (slewCause s.tbu.timeState) t.good t.trim)
        { ms := t.st / 1000, season := t.season, quality := q } {} } := by
  have hclass : (RecordBody.timeState s.tbu.timeState t.timeState (slewCause s.tbu.timeState) t.good t.trim).cls ≠ .minor := nofun
  subst ht
  have hnow := State.now_of_quality (s := s.onTbu fun t => t.slewed e) hquality
  refine (if_neg hchanged).trans ?_
  rw [hnow]
  exact State.write_of_not_minor hclass _ _ _

/-- A mark within the step limit, outside UNSET, is a SLEW against its second (R28 to R30). -/
theorem exec_mark_of_slew {s : State} {n : Nat} {labelled : Bool} (hagainst : s.MarkAgainst n labelled) (hset : s.tbu.timeState ≠ .unset)
    (hwithin : (s.phaseError n).natAbs ≤ s.orh.params.stepLimit) : exec .mark s = .next (s.latchForMark.slewMark (s.phaseError n)) := by
  rw [exec_mark, State.takeMark_of_markAgainst hagainst, State.actOnMark_of_slew (s := s.latchForMark) labelled hset hwithin]
  rfl

/-- Settles O17: the SLEW by the time state and the lock window, and the eighth good mark and the fourth outlier in a row. -/
theorem markSlewsLearnsAndCounts : Obligations.MarkSlewsLearnsAndCounts := by
  refine ⟨?locked, ?others, ?locks⟩
  case locked =>
    intro n labelled s hlocked hagainst e learned hwithin slewed
    have hmark : exec .mark s = .next (s.latchForMark.slewMark e) := exec_mark_of_slew hagainst (by simp [hlocked]) hwithin
    constructor
    · intro hinside learns
      have ht := Tbu.slewed_of_locked_good (t := s.latchForMark.tbu) hlocked hinside
      rw [hmark, State.slewMark_of_same ht (Tbu.taken_timeState _ e)]
      rfl
    · intro houtside hfew
      have ht := Tbu.slewed_of_locked_outlier (t := s.latchForMark.tbu) hlocked houtside hfew
      rw [hmark, State.slewMark_of_same ht (Tbu.taken_timeState _ e)]
      rfl
  case others =>
    intro n labelled s hagainst e hwithin slewed
    constructor
    · intro hstate good
      have hset : s.tbu.timeState ≠ .unset ∧ TimeState.acquire ≠ s.tbu.timeState ∧ slewCause s.tbu.timeState = .markAccepted := by
        obtain h | h := hstate <;> simp [h, slewCause]
      obtain ⟨hset, hchanged, hcause⟩ := hset
      have hmark : exec .mark s = .next (s.latchForMark.slewMark e) := exec_mark_of_slew hagainst hset hwithin
      have ht := Tbu.slewed_of_accepted (t := s.latchForMark.tbu) (e := e) hstate
      rw [hmark, State.slewMark_of_changed ht hchanged (State.quality_of_acquire rfl), ← hcause]
      rfl
    · intro hstate hfew learned learns
      have hmark : exec .mark s = .next (s.latchForMark.slewMark e) := exec_mark_of_slew hagainst (by simp [hstate]) hwithin
      have ht := Tbu.slewed_of_acquire (t := s.latchForMark.tbu) (e := e) hstate hfew
      rw [hmark, State.slewMark_of_same ht (Tbu.taken_timeState _ e)]
      rfl
  case locks =>
    intro e s
    constructor
    · intro hstate hgood hinside
      have ht := Tbu.slewed_of_acquire_eighth hstate hinside (by omega)
      rw [State.slewMark_of_changed ht (by simp [hstate]) (State.quality_of_locked rfl), hstate, hgood]
      refine ⟨rfl, rfl, rfl, ?_⟩
      rw [Tbu.learn_eq]
      rfl
    · intro hstate houtliers houtside
      have ht := Tbu.slewed_of_locked_fourth hstate houtside (by omega)
      rw [State.slewMark_of_changed ht (by simp [hstate]) (State.quality_of_acquire rfl), hstate]
      exact ⟨rfl, rfl, rfl, rfl⟩

/-! ### The label (R28, R39) -/

@[simp] theorem Tbu.slewed_label (t : Tbu) (e : Int) : (t.slewed e).label = t.label := by
  obtain ⟨-, -, -, -, -, hcounts⟩ := (t.learn e).slewCounts_frame e
  rw [Tbu.slewed_eq]
  exact hcounts.trans (by rw [Tbu.learn_eq])

theorem State.applySeasonIfReached_label (s : State) : s.applySeasonIfReached.tbu.label = s.tbu.label := by
  unfold State.applySeasonIfReached
  split
  case h_1 offset minute _ =>
    split
    · rw [State.applySeason_eq]
    · rfl
  case h_2 => rfl

theorem State.actOnMark_label (s : State) (n : Nat) (labelled : Bool) : (s.actOnMark n labelled).tbu.label = s.tbu.label := by
  obtain ⟨e, hstep | hreject | ⟨hslew, -, -⟩⟩ := s.actOnMark_cases n labelled
  · rw [hstep, State.stepMark, (State.announce_frame _ _).2.2.2.1, State.stepClock_eq, State.applySeasonIfReached_label]
    rfl
  · rw [hreject, State.rejectMark_eq]
  · rw [hslew, State.slewMark_tbu, Tbu.slewed_label]

/-- The mark consumes the label (R28), whatever it is or does. -/
theorem State.takeMark_label (s : State) : s.takeMark.tbu.label = none := by
  unfold State.takeMark
  dsimp only
  split
  · rw [State.actOnMark_label]
    rfl
  · split
    case h_1 | h_2 => rfl
    all_goals
      rw [State.actOnMark_label]
      rfl

/-- Settles O22: the order sets the label or is refused, and a mark, whatever it does, leaves none. -/
theorem timeMarkSetsTheLabel : Obligations.TimeMarkSetsTheLabel := by
  intro m n s
  refine ⟨fun hrange => ?_, fun hbeyond => ?_, s.takeMark, exec_mark s, s.takeMark_label⟩
  · rw [exec_timeMark, State.orderTimeMark, if_pos hrange]
    rfl
  · rw [exec_timeMark, State.orderTimeMark, if_neg (not_le.mpr hbeyond)]

end Sys2Proof.Machine
end

section
/-! The part's own telegrams in the upstream turn (R7, R16, R17, R188), and the report queue (R196, R197). -/

namespace Sys2Proof.Machine

/-! ### A part telegram starts (R16, R17) -/

theorem State.partStartDue_of_open {s : State} {allotment sent : Nat} (hturn : s.liu.turn = .opened allotment sent) (htx : s.liu.tx = .idle)
    (hhold : s.liu.holdBuffer = []) (hrx : s.liu.rxF.state = .idle ∨ s.liu.rxF.state = .noise) : s.partStartDue = true := by
  have hreceiver : s.liu.rxF.state.inTelegram = false := by
    obtain h | h := hrx <;> rw [h] <;> rfl
  simp only [State.partStartDue, Liu.mayStart, hturn, htx, hhold, hreceiver]
  rfl

theorem exec_partTelegramStart_of_due {s : State} {allotment sent : Nat} (hturn : s.liu.turn = .opened allotment sent)
    (hdue : s.partStartDue = true) : exec .partTelegramStart s = .next (s.startPartTelegram allotment sent) := by
  simp only [exec_partTelegramStart, execPartTelegramStart, hturn, hdue, if_true]

theorem State.startPartTelegram_of_reply {s : State} {r : Reply} (hslot : s.orh.slot = some r) (allotment sent : Nat) :
    s.startPartTelegram allotment sent = s.onLiu fun l => l.startPart (s.replyTelegram r) true := by
  simp only [State.startPartTelegram, hslot]

theorem State.startPartTelegram_of_report {s : State} {r : Report} {rest : List Report} {allotment sent : Nat}
    (hslot : s.orh.slot = none) (hsent : sent < allotment) (hreports : s.orh.reports = r :: rest) :
    s.startPartTelegram allotment sent = s.startReport allotment sent r rest := by
  simp only [State.startPartTelegram, hslot, if_pos hsent, hreports]

theorem State.startPartTelegram_of_none {s : State} {allotment sent : Nat} (hslot : s.orh.slot = none)
    (h : allotment ≤ sent ∨ s.orh.reports = []) : s.startPartTelegram allotment sent = s.endTurn := by
  simp only [State.startPartTelegram, hslot]
  split
  case isTrue hsent =>
    rw [h.resolve_left (not_le.mpr hsent)]
  case isFalse => rfl

/-! ### A part telegram has gone out (R7, R16, R188) -/

theorem State.endPartTelegram_of_part {s : State} {bytes : List Byte} {ofSlot : Bool} (htx : s.liu.tx = .part bytes ofSlot) :
    s.endPartTelegram = ((if ofSlot then s.onOrh Orh.telegramSent else s).onLiu fun l => l.endPart bytes).closeSpentTurn := by
  simp only [State.endPartTelegram, htx]

theorem Orh.telegramSent_of_more {o : Orh} {r : Reply} (hslot : o.slot = some r) (hmore : r.sent + 1 < r.content.telegrams) :
    o.telegramSent = { o with slot := some { r with sent := r.sent + 1 } } := by
  simp only [Orh.telegramSent, hslot, if_neg (not_le.mpr hmore)]

theorem Orh.telegramSent_of_last {o : Orh} {r : Reply} (hslot : o.slot = some r) (hlast : r.content.telegrams ≤ r.sent + 1) :
    o.telegramSent = { o with slot := none } := by
  simp only [Orh.telegramSent, hslot, if_pos hlast]

theorem Liu.endPart_eq (l : Liu) (bytes : List Byte) :
    l.endPart bytes = { l with iOut := l.iOut ++ bytes, tx := if l.holdBuffer = [] then .idle else .relaying [] } := by
  simp only [Liu.endPart, List.isEmpty_iff]

theorem State.closeSpentTurn_of_opened {s : State} {allotment sent : Nat} (hturn : s.liu.turn = .opened allotment sent) :
    s.closeSpentTurn =
      { s with liu := { s.liu with turn := if allotment ≤ sent ∧ s.orh.slot = none then .closed else .opened allotment sent } } := by
  simp only [State.closeSpentTurn, hturn]
  split
  · rfl
  · rw [← hturn]

/-- Settles O14: what starts is R16's first of three, and what has gone out is followed by the hold buffer, the slot and the turn. -/
theorem partTelegramsServeReplyThenReport : Obligations.PartTelegramsServeReplyThenReport := by
  constructor
  · intro allotment sent s hturn htx hhold hrx
    have hstart := exec_partTelegramStart_of_due hturn (State.partStartDue_of_open hturn htx hhold hrx)
    refine ⟨fun r hslot => ?_, fun r rest hslot hsent hreports => ?_, fun hslot hnone => ?_⟩
    · rw [hstart, State.startPartTelegram_of_reply hslot]
      rfl
    · rw [hstart, State.startPartTelegram_of_report hslot hsent hreports]
      rfl
    · rw [hstart, State.startPartTelegram_of_none hslot hnone]
      rfl
  · intro bytes allotment sent s hturn
    refine ⟨fun htx => ?_, fun r htx hslot hmore => ?_, fun r htx hslot hlast => ?_⟩
    · rw [exec_partTelegramEnd, State.endPartTelegram_of_part htx, if_neg (by decide),
        State.closeSpentTurn_of_opened (s := s.onLiu fun l => l.endPart bytes) hturn, State.onLiu, Liu.endPart_eq]
    · rw [exec_partTelegramEnd, State.endPartTelegram_of_part htx, if_pos rfl,
        State.closeSpentTurn_of_opened (s := (s.onOrh Orh.telegramSent).onLiu fun l => l.endPart bytes) hturn, State.onLiu, State.onOrh,
        Liu.endPart_eq, Orh.telegramSent_of_more hslot hmore]
      simp only [hturn, reduceCtorEq, and_false, if_false]
    · rw [exec_partTelegramEnd, State.endPartTelegram_of_part htx, if_pos rfl,
        State.closeSpentTurn_of_opened (s := (s.onOrh Orh.telegramSent).onLiu fun l => l.endPart bytes) hturn, State.onLiu, State.onOrh,
        Liu.endPart_eq, Orh.telegramSent_of_last hslot hlast]
      simp only [and_true]

/-! ### The report queue (R196, R197) -/

/-- R196: between those of its priority or before it and those after it, a report takes its place. -/
theorem enqueue_eq {before after : List Report} {r : Report} (hbefore : ∀ x ∈ before, x.priority ≤ r.priority)
    (hafter : ∀ x ∈ after, r.priority < x.priority) : enqueue (before ++ after) r = before ++ r :: after := by
  have hb : ∀ x ∈ before, decide (x.priority ≤ r.priority) = true := fun x hx => decide_eq_true (hbefore x hx)
  have ha : after.takeWhile (fun x => decide (x.priority ≤ r.priority)) = [] ∧
      after.dropWhile (fun x => decide (x.priority ≤ r.priority)) = after := by
    cases after with
    | nil => exact ⟨rfl, rfl⟩
    | cons x xs =>
      have hx : ¬decide (x.priority ≤ r.priority) = true := by
        rw [decide_eq_true_iff]
        exact not_le.mpr (hafter x List.mem_cons_self)
      exact ⟨List.takeWhile_cons_of_neg hx, List.dropWhile_cons_of_neg hx⟩
  rw [enqueue, List.takeWhile_append_of_pos hb, List.dropWhile_append_of_pos hb, ha.1, ha.2, List.append_nil]

theorem Orh.raise_of_room {o : Orh} (h : o.reports.length < 64) (r : Report) :
    o.raise r = { o with reports := enqueue o.reports r } := if_pos h

theorem Orh.raise_of_lower {o : Orh} {r last : Report} (hfull : 64 ≤ o.reports.length) (hlast : o.reports.getLast? = some last)
    (hlower : r.priority < last.priority) :
    o.raise r = { o with reports := enqueue o.reports.dropLast r, discarded := min (o.discarded + 1) 65535 } := by
  refine (if_neg (not_lt.mpr hfull)).trans ?_
  rw [hlast]
  exact if_pos hlower

theorem Orh.raise_of_no_lower {o : Orh} {r : Report} (hfull : 64 ≤ o.reports.length)
    (h : ∀ last, o.reports.getLast? = some last → last.priority ≤ r.priority) :
    o.raise r = { o with discarded := min (o.discarded + 1) 65535 } := by
  refine (if_neg (not_lt.mpr hfull)).trans ?_
  split
  case h_1 last hlast => exact if_neg (not_lt.mpr (h last hlast))
  case h_2 => rfl

/-- Settles O52: a queue with room, a full one whose last gives way, and a full one of no lower priority. -/
theorem reportIsAdmittedOrDiscarded : Obligations.ReportIsAdmittedOrDiscarded := by
  intro o r before after hbefore hafter
  refine ⟨fun hqueue hroom => ?_, fun last hqueue hfull hlower => ?_, fun hqueue hfull => ?_⟩
  · rw [Orh.raise_of_room hroom, hqueue, enqueue_eq hbefore hafter]
  · have hlast : o.reports.getLast? = some last := by rw [hqueue, List.getLast?_concat]
    rw [Orh.raise_of_lower hfull hlast hlower, hqueue, List.dropLast_concat, enqueue_eq hbefore hafter]
  · refine Orh.raise_of_no_lower hfull fun last hlast => ?_
    rw [hqueue] at hlast
    exact hbefore last (List.mem_of_getLast? hlast)

end Sys2Proof.Machine
end

section
/-! A closing movement record (R95 to R98), and an unknown address (R69). -/

namespace Sys2Proof.Machine

/-! ### A record closes (R96 to R98) -/

/-- The element at an index updated, every other as it stands. -/
theorem State.onElement_of_used {s : State} {index : Nat} {e : LiveElement} (hused : s.lys.elements[index]? = some e)
    (f : ElementState → ElementState) :
    s.onElement index f =
      { s with lys := { s.lys with elements := s.lys.elements.set index { e with state := f e.state } } } := by
  have helements : s.lys.elements.modify index (fun e => { e with state := f e.state }) =
      s.lys.elements.set index { e with state := f e.state } := by
    rw [List.modify_eq_set_getElem?, hused]
    rfl
  simp only [State.onElement, State.onLys, helements]

theorem Movement.endRecord_not_minor (r : Movement) (position : Nat) (outcome : MovementOutcome) (reason : Option AbandonReason)
    (endRt : Nat) : (r.endRecord position outcome reason endRt).cls ≠ .minor := nofun

/-- R96: a closing that its outcome reports. -/
theorem State.closeMovement_of_reported {s : State} {k : Nat} {r : Movement} {e : LiveElement} {outcome : MovementOutcome}
    {reason : Option AbandonReason} {kind : ReportKind} (hused : s.lys.elements[r.element]? = some e)
    (hreport : outcomeReport outcome reason = some kind) (ending : Instant) (flags : Flags) :
    s.closeMovement k r outcome reason ending flags = { s with
      lys := { s.lys with elements := s.lys.elements.set r.element { e with state := { e.state with movement := none } } }
      mvs := { s.mvs with table := s.mvs.table.set k none }
      evj := s.evj.store (r.endRecord k outcome reason ending.rt) ending.date (r.endFlags flags ending.rt)
      orh := s.orh.raise
        { kind := kind, priority := kind.priority, seq := s.evj.next, date := ending.date, flags := r.endFlags flags ending.rt
          summary := .ofRecord (r.endRecord k outcome reason ending.rt) } } := by
  simp only [State.closeMovement, hreport, State.writeReport_of_not_minor (r.endRecord_not_minor k outcome reason ending.rt)]
  refine (congrArg (State.onMvs · fun v => v.put k none) (State.onElement_of_used (e := e) ?_ _)).trans rfl
  exact hused

/-- R96: a closing that its outcome does not report. -/
theorem State.closeMovement_of_silent {s : State} {k : Nat} {r : Movement} {e : LiveElement} {outcome : MovementOutcome}
    {reason : Option AbandonReason} (hused : s.lys.elements[r.element]? = some e)
    (hreport : outcomeReport outcome reason = none) (ending : Instant) (flags : Flags) :
    s.closeMovement k r outcome reason ending flags = { s with
      lys := { s.lys with elements := s.lys.elements.set r.element { e with state := { e.state with movement := none } } }
      mvs := { s.mvs with table := s.mvs.table.set k none }
      evj := s.evj.store (r.endRecord k outcome reason ending.rt) ending.date (r.endFlags flags ending.rt) } := by
  simp only [State.closeMovement, hreport, State.write_of_not_minor (r.endRecord_not_minor k outcome reason ending.rt)]
  refine (congrArg (State.onMvs · fun v => v.put k none) (State.onElement_of_used (e := e) ?_ _)).trans rfl
  exact hused

/-- R98, R56: an end and a loss not before the start add no flag. -/
theorem Movement.endFlags_of_ordered {r : Movement} {endRt : Nat} (hend : r.start.rt ≤ endRt)
    (hloss : ∀ loss, r.loss = some loss → r.start.rt ≤ loss) (flags : Flags) :
    r.endFlags flags endRt = { flags with precedesCommand := false } := by
  have hprecedes : precedesCommand r.start.rt endRt r.loss = false := by
    unfold precedesCommand
    rw [decide_eq_false (not_lt.mpr hend), Bool.false_or]
    cases h : r.loss with
    | none => rfl
    | some loss => exact decide_eq_false (not_lt.mpr (hloss loss h))
  rw [Movement.endFlags, hprecedes]

theorem State.abandonDue_of_reached {s : State} {k : Nat} {r : Movement} (hopen : s.mvs.at? k = some r)
    (hreached : r.abandonExpiry ≤ s.tbu.rt) : s.abandonDue k = true := by
  simp only [State.abandonDue, hopen, decide_eq_true hreached]

/-- Settles O34: the expiry, due, closes the record ABANDONED with reason NO END at this instant. -/
theorem abandonExpiryClosesMovement : Obligations.AbandonExpiryClosesMovement := by
  intro k r e s hopen hused hreached hstart hloss body
  have hexpiry : exec (.abandonExpiry k) s = .next (s.closeMovement k r .abandoned (some .noEnd) s.nowInstant {}) := by
    simp only [exec_abandonExpiry, execAbandonExpiry, hopen, State.abandonDue_of_reached hopen hreached, if_true]
  have hflags : r.endFlags {} s.tbu.rt = {} := Movement.endFlags_of_ordered hstart hloss {}
  rw [hexpiry, State.closeMovement_of_reported hused rfl]
  simp only [State.nowInstant, hflags]
  rfl

/-! ### An unknown address (R69) -/

theorem State.unknownAddress_of_new {s : State} {address : Nat} (hnew : address ∉ s.lys.unknown) (hroom : s.lys.unknown.length < 32)
    (command : Bool) (code : Nat) (date : Date) (flags : Flags) :
    let body : RecordBody := .unknownAddress address command code
    s.unknownAddress address command code date flags = { s with
      lys := { s.lys with unknown := s.lys.unknown ++ [address] }
      evj := s.evj.store body date flags
      orh := s.orh.raise
        { kind := .unknownAddress, priority := 2, seq := s.evj.next, date := date, flags := flags, summary := .ofRecord body } } := by
  intro body
  have hclass : body.cls ≠ .minor := nofun
  have hnot : ¬(s.lys.unknown.contains address || decide (unknownSize ≤ s.lys.unknown.length)) = true := by
    rw [Bool.or_eq_true, List.contains_iff_mem, decide_eq_true_iff, not_or]
    exact ⟨hnew, not_le.mpr hroom⟩
  rw [State.unknownAddress, if_neg hnot, State.writeReport_of_not_minor hclass]
  rfl

theorem State.unknownAddress_of_listed {s : State} {address : Nat} (h : address ∈ s.lys.unknown ∨ 32 ≤ s.lys.unknown.length)
    (command : Bool) (code : Nat) (date : Date) (flags : Flags) : s.unknownAddress address command code date flags = s := by
  refine if_pos ?_
  rw [Bool.or_eq_true, List.contains_iff_mem, decide_eq_true_iff]
  exact h

theorem State.takeCommand_of_unknown {s : State} {address : Nat} (h : s.indexOf address = none) (code : Nat) (c : Capture) :
    s.takeCommand address code c = s.unknownAddress address true code c.date {} := by
  simp only [State.takeCommand, h]

theorem State.takeIndication_of_unknown {s : State} {address : Nat} (h : s.indexOf address = none) (code : Nat) (age : Option Nat)
    (c : Capture) :
    s.takeIndication address code age c = s.unknownAddress address false code (eventInstant c age).date (eventInstant c age).flags := by
  simp only [State.takeIndication, h]

/-- Settles O29: an address of no element is taken by the list, which lists it once and while it has room. -/
theorem unknownAddressIsListedOnce : Obligations.UnknownAddressIsListedOnce := by
  intro address code s hunknown
  have hcommand : ∀ c, (s.release .i).takeCommand address code c = (s.release .i).unknownAddress address true code c.date {} :=
    State.takeCommand_of_unknown (s := s.release .i) hunknown code
  have hindication : ∀ age c, (s.release .f).takeIndication address code age c =
      (s.release .f).unknownAddress address false code (eventInstant c age).date (eventInstant c age).flags :=
    State.takeIndication_of_unknown (s := s.release .f) hunknown code
  refine ⟨fun hnew hroom => ⟨?_, ?_⟩, fun hlisted => ⟨?_, fun age => ?_⟩⟩
  · rw [exec_command, hcommand, State.unknownAddress_of_new (s := s.release .i) hnew hroom]
    rfl
  · rw [exec_indication, hindication, eventInstant_none, State.unknownAddress_of_new (s := s.release .f) hnew hroom]
    rfl
  · rw [exec_command, hcommand, State.unknownAddress_of_listed (s := s.release .i) hlisted]
  · rw [exec_indication, hindication, State.unknownAddress_of_listed (s := s.release .f) hlisted]

end Sys2Proof.Machine
end

section
/-! The staging writes: what each stores, and what refuses it (R59, R61, R73, R123, R205). -/

namespace Sys2Proof.Machine

/-! ### The coded fields (R205) -/

theorem elementKindOf_eq_none {kind : Nat} (h : 3 < kind) : elementKindOf kind = none := by
  unfold elementKindOf
  split <;> first | rfl | omega

theorem exists_elementKindOf {kind : Nat} (h : kind ≤ 3) : ∃ k, elementKindOf kind = some k := by
  interval_cases kind <;> exact ⟨_, rfl⟩

theorem journalClassOf_eq_none {cls : Nat} (h : 2 < cls) : journalClassOf cls = none := by
  unfold journalClassOf
  split <;> first | rfl | omega

theorem exists_journalClassOf {cls : Nat} (h : cls ≤ 2) : ∃ j, journalClassOf cls = some j := by
  interval_cases cls <;> exact ⟨_, rfl⟩

theorem edgeOf_eq_none {edge : Nat} (h : 1 < edge) : edgeOf edge = none := by
  unfold edgeOf
  split <;> first | rfl | omega

theorem exists_edgeOf {edge : Nat} (h : edge ≤ 1) : ∃ g, edgeOf edge = some g := by
  interval_cases edge <;> exact ⟨_, rfl⟩

theorem reportModeOf_eq_none {mode : Nat} (h : 1 < mode) : reportModeOf mode = none := by
  unfold reportModeOf
  split <;> first | rfl | omega

theorem exists_reportModeOf {mode : Nat} (h : mode ≤ 1) : ∃ r, reportModeOf mode = some r := by
  interval_cases mode <;> exact ⟨_, rfl⟩

theorem yesNoOf_eq_none {used : Nat} (h : 1 < used) : yesNoOf used = none := by
  unfold yesNoOf
  split <;> first | rfl | omega

/-- R58, R59: the limit's range goes with the kind's code. -/
theorem clampLimit_of_code {kind : Nat} {k : ElementKind} (h : elementKindOf kind = some k) (limit : Nat) :
    clampLimit k limit = if kind = 0 then max 500 (min 30000 limit) else if kind = 1 then max 100 (min 10000 limit) else 0 := by
  have hkind : kind ≤ 3 := not_lt.mp fun hlarge => by simp [elementKindOf_eq_none hlarge] at h
  interval_cases kind <;> cases h <;> rfl

theorem State.not_armed {s : State} (h : s.lys.armed = none) : ¬s.lys.armed.isSome = true := by
  rw [h]
  decide

/-! ### ELEMENT WRITE (R59) -/

theorem writtenElement_of_valid {address kind limit cls : Nat} {k : ElementKind} {j : JournalClass} (haddress : 1 ≤ address ∧ address ≤ 3999)
    (hkind : elementKindOf kind = some k) (hcls : journalClassOf cls = some j) :
    writtenElement address kind limit cls = some { address := address, kind := k, limit := clampLimit k limit, cls := j } := by
  simp only [writtenElement, hkind, hcls, if_pos haddress]

theorem writtenElement_of_range {address kind cls : Nat} (limit : Nat) (h : address = 0 ∨ 3999 < address ∨ 3 < kind ∨ 2 < cls) :
    writtenElement address kind limit cls = none := by
  unfold writtenElement
  split
  case h_1 k j hkind hcls =>
    refine if_neg fun haddress => ?_
    obtain h | h | h | h := h
    · omega
    · omega
    · simp [elementKindOf_eq_none h] at hkind
    · simp [journalClassOf_eq_none h] at hcls
  case h_2 => rfl

section
variable {s : State} {m : Manner} {c : Capture} {index address kind limit cls used : Nat}

theorem State.orderElementWrite_of_stored {e : Element} (hindex : index ≤ 1023) (he : writtenElement address kind limit cls = some e)
    (harmed : s.lys.armed = none) :
    s.orderElementWrite m c index address kind limit cls 1 =
      { s with lys := { s.lys with stagingElements := s.lys.stagingElements.put index e } } := by
  simp only [State.orderElementWrite, if_pos hindex, yesNoOf, he, if_neg (State.not_armed harmed)]
  rfl

theorem State.orderElementWrite_of_removed (hindex : index ≤ 1023) (harmed : s.lys.armed = none) :
    s.orderElementWrite m c index address kind limit cls 0 =
      { s with lys := { s.lys with stagingElements := s.lys.stagingElements.remove index } } := by
  simp only [State.orderElementWrite, if_pos hindex, yesNoOf, if_neg (State.not_armed harmed)]
  rfl

theorem State.orderElementWrite_of_range
    (h : 1023 < index ∨ 1 < used ∨ (used = 1 ∧ writtenElement address kind limit cls = none)) :
    s.orderElementWrite m c index address kind limit cls used = s.refuse m 0x30 c.date .range := by
  unfold State.orderElementWrite
  by_cases hindex : index ≤ 1023
  · rw [if_pos hindex]
    obtain h | h | ⟨rfl, h⟩ := h
    · omega
    · rw [yesNoOf_eq_none h]
    · simp only [yesNoOf, h]
  · exact if_neg hindex

theorem State.orderElementWrite_of_armed (hindex : index ≤ 1023)
    (h : used = 0 ∨ (used = 1 ∧ ∃ e, writtenElement address kind limit cls = some e)) (harmed : s.lys.armed.isSome = true) :
    s.orderElementWrite m c index address kind limit cls used = s.refuse m 0x30 c.date .state := by
  obtain rfl | ⟨rfl, e, he⟩ := h
  · simp only [State.orderElementWrite, if_pos hindex, yesNoOf, harmed, if_true]
  · simp only [State.orderElementWrite, if_pos hindex, yesNoOf, he, harmed, if_true]

end

/-! ### POINT WRITE (R61) -/

theorem writtenPoint_of_valid {sect edge signal threshold mode : Nat} {g : Edge} {r : ReportMode} (hsect : sect ≤ 1023)
    (hsignal : signal ≤ 1023 ∨ signal = 65535) (hthreshold : threshold ≤ 3) (hedge : edgeOf edge = some g)
    (hmode : reportModeOf mode = some r) :
    writtenPoint sect edge signal threshold mode =
      some { sect := sect, edge := g, signal := signalOf signal, threshold := threshold, mode := r } := by
  simp only [writtenPoint, hedge, hmode, if_pos (And.intro hsect (And.intro hsignal hthreshold))]

theorem writtenPoint_of_range {sect edge signal threshold mode : Nat}
    (h : 1023 < sect ∨ 1 < edge ∨ (1023 < signal ∧ signal ≠ 65535) ∨ 3 < threshold ∨ 1 < mode) :
    writtenPoint sect edge signal threshold mode = none := by
  unfold writtenPoint
  split
  case h_1 g r hedge hmode =>
    have hedge' : edge ≤ 1 := not_lt.mp fun hlarge => by simp [edgeOf_eq_none hlarge] at hedge
    have hmode' : mode ≤ 1 := not_lt.mp fun hlarge => by simp [reportModeOf_eq_none hlarge] at hmode
    exact if_neg (by omega)
  case h_2 => rfl

section
variable {s : State} {m : Manner} {c : Capture} {index sect edge signal threshold mode used : Nat}

theorem State.orderPointWrite_of_stored {p : TimingPoint} (hindex : index ≤ 255)
    (hp : writtenPoint sect edge signal threshold mode = some p) (harmed : s.lys.armed = none) :
    s.orderPointWrite m c index sect edge signal threshold mode 1 =
      { s with lys := { s.lys with stagingPoints := s.lys.stagingPoints.put index p } } := by
  simp only [State.orderPointWrite, if_pos hindex, yesNoOf, hp, if_neg (State.not_armed harmed)]
  rfl

theorem State.orderPointWrite_of_removed (hindex : index ≤ 255) (harmed : s.lys.armed = none) :
    s.orderPointWrite m c index sect edge signal threshold mode 0 =
      { s with lys := { s.lys with stagingPoints := s.lys.stagingPoints.remove index } } := by
  simp only [State.orderPointWrite, if_pos hindex, yesNoOf, if_neg (State.not_armed harmed)]
  rfl

theorem State.orderPointWrite_of_range
    (h : 255 < index ∨ 1 < used ∨ (used = 1 ∧ writtenPoint sect edge signal threshold mode = none)) :
    s.orderPointWrite m c index sect edge signal threshold mode used = s.refuse m 0x31 c.date .range := by
  unfold State.orderPointWrite
  by_cases hindex : index ≤ 255
  · rw [if_pos hindex]
    obtain h | h | ⟨rfl, h⟩ := h
    · omega
    · rw [yesNoOf_eq_none h]
    · simp only [yesNoOf, h]
  · exact if_neg hindex

theorem State.orderPointWrite_of_armed (hindex : index ≤ 255)
    (h : used = 0 ∨ (used = 1 ∧ ∃ p, writtenPoint sect edge signal threshold mode = some p)) (harmed : s.lys.armed.isSome = true) :
    s.orderPointWrite m c index sect edge signal threshold mode used = s.refuse m 0x31 c.date .state := by
  obtain rfl | ⟨rfl, p, hp⟩ := h
  · simp only [State.orderPointWrite, if_pos hindex, yesNoOf, harmed, if_true]
  · simp only [State.orderPointWrite, if_pos hindex, yesNoOf, hp, harmed, if_true]

end

/-! ### TIMETABLE WRITE (R123) -/

theorem rawEntryOk_iff (e : RawEntry) :
    rawEntryOk e = true ↔
      e.used = 0 ∨ (e.used = 1 ∧ trainOk e.train = true ∧ e.kind ≤ 2 ∧ e.booked ≤ 2879 ∧ 1 ≤ e.mask ∧ e.mask ≤ 127) := by
  obtain h | h | h : e.used = 0 ∨ e.used = 1 ∨ 1 < e.used := by omega
  · simp [rawEntryOk, yesNoOf, h]
  · simp [rawEntryOk, yesNoOf, maskOk, h, and_assoc]
  · rw [rawEntryOk, yesNoOf_eq_none h]
    simp only [Bool.false_eq_true, false_iff]
    omega

/-- The entries are written one by one at consecutive indexes, in order. -/
theorem writeEntries_eq_foldl (b : Bank TimetableEntry) (first : Nat) (entries : List RawEntry) :
    writeEntries b first entries = (entries.zipIdx first).foldl
      (fun bank x =>
        if x.1.used = 1 then
          bank.put x.2 { train := x.1.train, point := x.1.point, kind := x.1.kind, booked := x.1.booked, mask := x.1.mask }
        else bank.remove x.2) b := by
  induction entries generalizing b first with
  | nil => rfl
  | cons e rest ih =>
    rw [writeEntries, List.zipIdx_cons, List.foldl_cons]
    split <;> exact ih _ _

section
variable {s : State} {m : Manner} {first : Nat} {entries : List RawEntry}

theorem exec_timetableWrite_of_length {count : Nat} (hcount : 1 ≤ count) (hcount' : count ≤ 4) (hlength : entries.length ≠ count) :
    exec (.timetableWrite m first count entries) s = .next ((s.release .i).refuse m 0x32 (s.captureAt .i).date .length) := by
  rw [exec_timetableWrite, execTimetableWrite, if_pos ⟨hcount, hcount', hlength⟩]

theorem exec_timetableWrite_of_matched {count : Nat} (h : count = 0 ∨ 4 < count ∨ entries.length = count) :
    exec (.timetableWrite m first count entries) s =
      .next ((s.release .i).orderTimetableWrite m (s.captureAt .i) first count entries) := by
  rw [exec_timetableWrite, execTimetableWrite, if_neg (by omega)]

theorem State.orderTimetableWrite_of_stored {count : Nat} {c : Capture}
    (h : 1 ≤ count ∧ count ≤ 4 ∧ first + count ≤ 8192 ∧ entries.all rawEntryOk = true) (harmed : s.lys.armed = none) :
    s.orderTimetableWrite m c first count entries =
      { s with ttc := { s.ttc with staging := writeEntries s.ttc.staging first entries } } := by
  rw [State.orderTimetableWrite, if_pos h, if_neg (State.not_armed harmed)]
  rfl

theorem State.orderTimetableWrite_of_armed {count : Nat} {c : Capture}
    (h : 1 ≤ count ∧ count ≤ 4 ∧ first + count ≤ 8192 ∧ entries.all rawEntryOk = true) (harmed : s.lys.armed.isSome = true) :
    s.orderTimetableWrite m c first count entries = s.refuse m 0x32 c.date .state := by
  rw [State.orderTimetableWrite, if_pos h, harmed, if_pos rfl]

theorem State.orderTimetableWrite_of_range {count : Nat} {c : Capture}
    (h : ¬(1 ≤ count ∧ count ≤ 4 ∧ first + count ≤ 8192 ∧ entries.all rawEntryOk = true)) :
    s.orderTimetableWrite m c first count entries = s.refuse m 0x32 c.date .range := if_neg h

/-- R123: one to four good entries are stored, with nothing armed. -/
theorem exec_timetableWrite_of_good (hsome : 1 ≤ entries.length) (hfew : entries.length ≤ 4) (hrange : first + entries.length ≤ 8192)
    (hgood : ∀ e ∈ entries, rawEntryOk e = true) (harmed : s.lys.armed = none) :
    exec (.timetableWrite m first entries.length entries) s = .next { s.release .i with
      ttc := { s.ttc with staging := writeEntries s.ttc.staging first entries } } := by
  rw [exec_timetableWrite_of_matched (.inr (.inr rfl)), State.orderTimetableWrite_of_stored (s := s.release .i)
    ⟨hsome, hfew, hrange, List.all_eq_true.mpr hgood⟩ harmed]
  rfl

end

/-- Settles O26: each write with its fields in range is stored or, armed, refused STATE; out of its range or length it is refused. -/
theorem stagingWritesStoreOrRefuse : Obligations.StagingWritesStoreOrRefuse := by
  refine ⟨?stored, ?entries, ?refused⟩
  case stored =>
    intro m s harmed
    refine ⟨?_, ?_, ?_, ?_, ?_, ?_⟩
    · intro index address kind limit cls k j hindex hlow hhigh hkind hcls
      rw [exec_elementWrite, State.orderElementWrite_of_stored (s := s.release .i) hindex
        (writtenElement_of_valid ⟨hlow, hhigh⟩ hkind hcls) harmed, clampLimit_of_code hkind]
      rfl
    · intro index address kind limit cls hindex
      rw [exec_elementWrite, State.orderElementWrite_of_removed (s := s.release .i) hindex harmed]
      rfl
    · intro index sect edge signal threshold mode g r hindex hsect hsignal hthreshold hedge hmode
      rw [exec_pointWrite, State.orderPointWrite_of_stored (s := s.release .i) hindex
        (writtenPoint_of_valid hsect hsignal hthreshold hedge hmode) harmed]
      rfl
    · intro index sect edge signal threshold mode hindex
      rw [exec_pointWrite, State.orderPointWrite_of_removed (s := s.release .i) hindex harmed]
      rfl
    · intro first train point kind booked mask hfirst htrain hkind hbooked hlow hhigh
      refine exec_timetableWrite_of_good (entries := [⟨train, point, kind, booked, mask, 1⟩]) (by simp) (by simp) (by simp; omega)
        (fun e he => ?_) harmed
      rw [List.mem_singleton.mp he, rawEntryOk_iff]
      exact .inr ⟨rfl, htrain, hkind, hbooked, hlow, hhigh⟩
    · intro first train point kind booked mask hfirst
      refine exec_timetableWrite_of_good (entries := [⟨train, point, kind, booked, mask, 0⟩]) (by simp) (by simp) (by simp; omega)
        (fun e he => ?_) harmed
      rw [List.mem_singleton.mp he, rawEntryOk_iff]
      exact .inl rfl
  case entries =>
    intro m first entries s harmed hsome hfew hrange hgood
    rw [exec_timetableWrite_of_good hsome hfew hrange (fun e he => (rawEntryOk_iff e).mpr (hgood e he)) harmed, writeEntries_eq_foldl]
  case refused =>
    intro m s date bad
    have hbad : ∀ e, bad e ↔ ¬rawEntryOk e = true := fun e => by
      rw [rawEntryOk_iff]
      cases htrain : trainOk e.train <;> simp [bad, htrain] <;> omega
    refine ⟨?_, ?_, ?_, ?_, ?_, fun harmed => ⟨?_, ?_, ?_⟩⟩
    · intro index address kind limit cls used h
      rw [exec_elementWrite, State.orderElementWrite_of_range (h.imp_right (Or.imp_right fun ⟨hused, hfields⟩ =>
        ⟨hused, writtenElement_of_range limit hfields⟩))]
    · intro index sect edge signal threshold mode used h
      rw [exec_pointWrite, State.orderPointWrite_of_range (h.imp_right (Or.imp_right fun ⟨hused, hfields⟩ =>
        ⟨hused, writtenPoint_of_range hfields⟩))]
    · intro first entries hsome hfew h
      rw [exec_timetableWrite_of_matched (.inr (.inr rfl)), State.orderTimetableWrite_of_range]
      rintro ⟨-, -, hrange, hgood⟩
      obtain h | ⟨e, he, hebad⟩ := h
      · omega
      · exact (hbad e).mp hebad (List.all_eq_true.mp hgood e he)
    · intro first count entries h
      rw [exec_timetableWrite_of_matched (by omega), State.orderTimetableWrite_of_range (by omega)]
    · intro first count entries hcount hcount' hlength
      exact exec_timetableWrite_of_length hcount hcount' hlength
    · intro index address kind limit cls used hindex h
      refine congrArg _ (State.orderElementWrite_of_armed (s := s.release .i) hindex (h.imp_right ?_) harmed)
      rintro ⟨hused, hlow, hhigh, hkind, hcls⟩
      obtain ⟨k, hk⟩ := exists_elementKindOf hkind
      obtain ⟨j, hj⟩ := exists_journalClassOf hcls
      exact ⟨hused, _, writtenElement_of_valid ⟨hlow, hhigh⟩ hk hj⟩
    · intro index sect edge signal threshold mode used hindex h
      refine congrArg _ (State.orderPointWrite_of_armed (s := s.release .i) hindex (h.imp_right ?_) harmed)
      rintro ⟨hused, hsect, hedge, hsignal, hthreshold, hmode⟩
      obtain ⟨g, hg⟩ := exists_edgeOf hedge
      obtain ⟨r, hr⟩ := exists_reportModeOf hmode
      exact ⟨hused, _, writtenPoint_of_valid hsect hsignal hthreshold hg hr⟩
    · intro first entries hsome hfew hrange hgood
      rw [exec_timetableWrite_of_matched (.inr (.inr rfl)), State.orderTimetableWrite_of_armed (s := s.release .i)
        ⟨hsome, hfew, hrange, List.all_eq_true.mpr fun e he => not_not.mp fun h => hgood e he ((hbad e).mpr h)⟩ harmed]

end Sys2Proof.Machine
end

section
/-! A COMMAND taken: stored, journaled by class, and handed to the MVS, which closes and opens records (R64, R67, R68, R82 to R86). -/

namespace Sys2Proof.Machine

/-! ### The element records, and the records that a class asks for -/

/-- The active bank with the entry at an index replaced. -/
def Lys.setElement (l : Lys) (index : Nat) (e : LiveElement) : Lys := { l with elements := l.elements.set index e }

theorem Lys.setElement_setElement (l : Lys) (index : Nat) (e e' : LiveElement) :
    (l.setElement index e).setElement index e' = l.setElement index e' := by
  simp only [Lys.setElement, List.set_set]

theorem Lys.getElem?_setElement {l : Lys} {index : Nat} {e : LiveElement} (hused : l.elements[index]? = some e) (e' : LiveElement) :
    (l.setElement index e').elements[index]? = some e' :=
  List.getElem?_set_self (List.getElem?_eq_some_iff.mp hused).1

theorem State.onElement_eq_setElement {s : State} {index : Nat} {e : LiveElement} (hused : s.lys.elements[index]? = some e)
    (f : ElementState → ElementState) : s.onElement index f = { s with lys := s.lys.setElement index { e with state := f e.state } } :=
  State.onElement_of_used hused f

/-- R67: a change is journaled in every class but NONE. -/
theorem State.writeIf_of_change (s : State) (cls : JournalClass) {body : RecordBody} (hclass : body.cls ≠ .minor) (date : Date)
    (flags : Flags) :
    s.writeIf (journalsChange cls) body date flags =
      { s with evj := if cls = .nothing then s.evj else s.evj.store body date flags } := by
  cases cls with
  | nothing => rfl
  | changes => exact State.write_of_not_minor hclass s date flags
  | all => exact State.write_of_not_minor hclass s date flags

/-- R67: a repeat is offered in ALL alone. -/
theorem State.writeIf_of_repeat (s : State) (cls : JournalClass) (body : RecordBody) (date : Date) (flags : Flags) :
    s.writeIf (decide (cls = .all)) body date flags =
      { s with evj := if cls = .all then s.evj.offer body date flags else s.evj } := by
  cases cls <;> rfl

/-! ### A command's record (R64, R68) -/

/-- The journal after a command's record, which every class but NONE asks for. -/
def State.commandJournal (s : State) (index : Nat) (e : LiveElement) (code : Nat) (date : Date) (flags : Flags) : Evj :=
  if e.entry.cls = .nothing then s.evj
  else s.evj.store (.commandChange e.entry.address index e.entry.kind e.state.lastCommand (some code)) date flags

/-- The element with a command change stored, and its link. -/
def LiveElement.commanded (e : LiveElement) (code : Nat) (start : Instant) (link : Option Nat) : LiveElement :=
  { e with
    state := { e.state with
      seen := true, lastBadCommand := none, lastCommand := some code, lastCommandAt := some start, movement := link } }

/-- A command change stored and journaled, before the MVS takes it. -/
def State.commanded (s : State) (index : Nat) (e : LiveElement) (code : Nat) (start : Instant) : State :=
  { s with
    lys := s.lys.setElement index (e.commanded code start e.state.movement)
    evj := s.commandJournal index e code start.date {} }

section
variable {s : State} {index : Nat} {e : LiveElement} {code : Nat} (hused : s.lys.elements[index]? = some e)
include hused

theorem State.takeCommand_of_element {address : Nat} (hindex : s.indexOf address = some index) (c : Capture) :
    s.takeCommand address code c =
      if commandCodeOk e.entry.kind code then s.validCommand index e code c.instant else s.badCommand index e code c.instant := by
  simp only [State.takeCommand, hindex, hused]

theorem State.validCommand_of_repeat (hrepeat : e.state.lastCommand = some code) (arrival : Instant) :
    s.validCommand index e code arrival =
      { s with lys := s.lys.setElement index { e with state := { e.state with seen := true, lastBadCommand := none } } } := by
  rw [State.validCommand, if_pos hrepeat, State.onElement_eq_setElement hused]

theorem State.validCommand_of_change (hchange : e.state.lastCommand ≠ some code) (arrival : Instant) :
    s.validCommand index e code arrival =
      if e.entry.kind.moves then (s.commanded index e code arrival).commandChange index code arrival
      else s.commanded index e code arrival := by
  have hclass : (RecordBody.commandChange e.entry.address index e.entry.kind e.state.lastCommand (some code)).cls ≠ .minor := nofun
  simp only [State.validCommand, if_neg hchange, State.onElement_eq_setElement hused, State.writeIf_of_change _ _ hclass]
  rfl

theorem State.badCommand_eq (arrival : Instant) :
    s.badCommand index e code arrival = { s with
      lys := s.lys.setElement index { e with state := { e.state with seen := true, lastBadCommand := some code } }
      evj := if e.state.lastBadCommand = some code then s.evj else s.commandJournal index e code arrival.date { badCode := true } } := by
  have hclass : (RecordBody.commandChange e.entry.address index e.entry.kind e.state.lastCommand (some code)).cls ≠ .minor := nofun
  rw [State.badCommand, State.onElement_eq_setElement hused]
  by_cases hrepeat : e.state.lastBadCommand = some code
  · simp only [hrepeat, ne_eq, not_true, decide_false, Bool.and_false, if_true]
    rfl
  · simp only [decide_eq_true hrepeat, ne_eq, Bool.and_true, if_neg hrepeat]
    exact State.writeIf_of_change _ _ hclass _ _

end

/-! ### The opening rule (R83, R84) -/

/-- The phase in which a record opens. -/
def openingPhase (kind : ElementKind) (target : Nat) (lastIndicated : Option Nat) : MovementPhase :=
  if kind = .signal then (if target = 0 then .replacing else .clearing) else if lastIndicated = some 0 then .moving else .commanded

theorem openingRule_of_shown (kind : ElementKind) (target : Nat) : openingRule kind target (some target) = .noRecord := by
  cases kind <;> simp [openingRule]

theorem openingRule_of_both {target : Nat} (h : target ≠ 3) : openingRule .point target (some 3) = .unsupervised := by
  simp [openingRule, Ne.symm h]

theorem openingRule_of_opens {kind : ElementKind} {target : Nat} {last : Option Nat} (hkind : kind = .point ∨ kind = .signal)
    (hshown : last ≠ some target) (hboth : kind = .point → last ≠ some 3) :
    openingRule kind target last = .opens (openingPhase kind target last) := by
  obtain rfl | rfl := hkind
  · simp only [openingRule, openingPhase, if_neg hshown, if_neg (hboth rfl), reduceCtorEq, if_false]
    split <;> rfl
  · simp only [openingRule, openingPhase, if_neg hshown, if_true]
    split <;> rfl

/-! ### The MVS takes a command change (R82 to R86) -/

theorem State.openMovement_of_noRecord {e : LiveElement} {target : Nat} (h : e.state.lastIndicated = some target) (s : State) (index : Nat)
    (arrival : Instant) : s.openMovement index e target arrival = s := by
  simp only [State.openMovement, h, openingRule_of_shown]

theorem State.unsupervised_eq (s : State) (index : Nat) (e : LiveElement) (target : Nat) (arrival : Instant)
    (reason : UnsupervisedReason) :
    let body : RecordBody := .movementUnsupervised e.entry.address index e.entry.kind target e.state.lastIndicated reason
    s.unsupervised index e target arrival reason = { s with
      evj := s.evj.store body arrival.date {}
      orh := s.orh.raise
        { kind := .movementUnsupervised, priority := 1, seq := s.evj.next, date := arrival.date, flags := {}
          summary := .ofRecord body } } := by
  intro body
  have hclass : body.cls ≠ .minor := nofun
  exact State.writeReport_of_not_minor hclass _ _ _ _

theorem State.openMovement_of_both {e : LiveElement} {target : Nat} (hkind : e.entry.kind = .point) (htarget : target ≠ 3)
    (h : e.state.lastIndicated = some 3) (s : State) (index : Nat) (arrival : Instant) :
    s.openMovement index e target arrival = s.unsupervised index e target arrival .fault := by
  simp only [State.openMovement, hkind, h, openingRule_of_both htarget]

section
variable {s : State} {index : Nat} {e e' : LiveElement} {target : Nat} {arrival : Instant}
  (hkind : e.entry.kind = .point ∨ e.entry.kind = .signal) (hshown : e.state.lastIndicated ≠ some target)
  (hboth : e.entry.kind = .point → e.state.lastIndicated ≠ some 3)
include hkind hshown hboth

theorem State.openMovement_of_full (hfull : s.mvs.free? = none) :
    s.openMovement index e target arrival = s.unsupervised index e target arrival .full := by
  simp only [State.openMovement, openingRule_of_opens hkind hshown hboth, hfull]

theorem State.openMovement_of_opens {k : Nat} (hused : s.lys.elements[index]? = some e') (hfree : s.mvs.free? = some k) :
    s.openMovement index e target arrival = { s with
      lys := s.lys.setElement index { e' with state := { e'.state with movement := some k } }
      mvs := { s.mvs with
        table := s.mvs.table.set k
          (some (newMovement index e.entry target (openingPhase e.entry.kind target e.state.lastIndicated) arrival)) } } := by
  simp only [State.openMovement, openingRule_of_opens hkind hshown hboth, hfree]
  exact State.onElement_eq_setElement (s := s.onMvs _) hused _

end

section
variable {s : State} {index : Nat} {e : LiveElement} {target : Nat} (hused : s.lys.elements[index]? = some e) (arrival : Instant)
include hused

theorem State.commandChange_of_unlinked (hlink : e.state.movement = none) :
    s.commandChange index target arrival = s.openMovement index e target arrival := by
  simp only [State.commandChange, hused, State.openRecordOf, hlink, Option.bind_none]

theorem State.commandChange_of_linked {k : Nat} {r : Movement} (hlink : e.state.movement = some k) (hopen : s.mvs.at? k = some r) :
    s.commandChange index target arrival = (s.closeMovement k r .superseded none arrival {}).openMovement index e target arrival := by
  simp only [State.commandChange, hused, State.openRecordOf, hlink, Option.bind_some, hopen, Option.map_some]

end

theorem exec_command_of_change {s : State} {address code index : Nat} {e : LiveElement} (hindex : s.indexOf address = some index)
    (hused : s.lys.elements[index]? = some e) (hkind : e.entry.kind = .point ∧ (code = 1 ∨ code = 2) ∨ e.entry.kind = .signal ∧ code ≤ 14)
    (hchange : e.state.lastCommand ≠ some code) :
    exec (.command address code) s =
      .next (((s.release .i).commanded index e code (s.captureAt .i).instant).commandChange index code (s.captureAt .i).instant) := by
  have hvalid : commandCodeOk e.entry.kind code = true ∧ e.entry.kind.moves = true := by
    obtain ⟨hk, hcode⟩ | ⟨hk, hcode⟩ := hkind <;> simp [hk, commandCodeOk, ElementKind.moves, hcode]
  rw [exec_command, State.takeCommand_of_element (s := s.release .i) hused hindex, if_pos hvalid.1,
    State.validCommand_of_change (s := s.release .i) hused hchange, if_pos hvalid.2]

/-- R56: the end and the loss of a record before its start. -/
theorem precedesCommand_eq (start endRt : Nat) (loss : Option Nat) :
    precedesCommand start endRt loss = (decide (endRt < start) || loss.any fun l => decide (l < start)) := by
  cases loss <;> rfl

/-- The lowest FREE position once an open one is freed: every position below it is open and another (R80). -/
theorem Mvs.exists_free?_of_freed {v : Mvs} {k : Nat} {r : Movement} (hopen : v.at? k = some r) :
    ∃ f, ({ v with table := v.table.set k none } : Mvs).free? = some f ∧ (∀ j, j < f → ∃ o, v.at? j = some o ∧ j ≠ k) ∧
      (v.table.set k none)[f]? = some none := by
  have hk := Mvs.lt_of_at? hopen
  have hnone : none ∈ v.table.set k none := List.mem_set hk none
  obtain ⟨f, hf⟩ : ∃ f, (v.table.set k none).findIdx? (·.isNone) = some f := by
    rw [← Option.isSome_iff_exists, List.findIdx?_isSome, List.any_eq_true]
    exact ⟨none, hnone, rfl⟩
  obtain ⟨hlength, hfree, hbelow⟩ := List.findIdx?_eq_some_iff_getElem.mp hf
  refine ⟨f, hf, fun j hj => ?_, ?_⟩
  · have hopened := hbelow j hj
    have hjlength : j < v.table.length := by
      rw [List.length_set] at hlength
      omega
    rw [List.getElem_set] at hopened
    split at hopened
    · simp at hopened
    · rename_i hne
      obtain ⟨o, ho⟩ := Option.ne_none_iff_exists'.mp (by simpa using hopened)
      exact ⟨o, by rw [Mvs.at?, List.getElem?_eq_getElem hjlength, ho]; rfl, fun h => hne h.symm⟩
  · rw [List.getElem?_eq_getElem hlength]
    simpa using hfree

/-- A command's own row, up to the MVS: the elements, with the commanded one in its place. -/
theorem State.getElem?_commanded {s : State} {index : Nat} {e : LiveElement} (hused : s.lys.elements[index]? = some e) (code : Nat)
    (start : Instant) : (s.commanded index e code start).lys.elements[index]? = some (e.commanded code start e.state.movement) :=
  Lys.getElem?_setElement hused _

/-- A command change of an element with no open record, up to the opening rule. -/
theorem exec_command_of_unlinked {s : State} {address code index : Nat} {e : LiveElement} (hindex : s.indexOf address = some index)
    (hused : s.lys.elements[index]? = some e) (hkind : e.entry.kind = .point ∧ (code = 1 ∨ code = 2) ∨ e.entry.kind = .signal ∧ code ≤ 14)
    (hchange : e.state.lastCommand ≠ some code) (hlink : e.state.movement = none) :
    let start := (s.captureAt .i).instant
    exec (.command address code) s =
      .next (({ s.release .i with
        lys := s.lys.setElement index (e.commanded code start none)
        evj := s.commandJournal index e code start.date {} } : State).openMovement index (e.commanded code start none) code start) := by
  intro start
  have hcommanded := State.getElem?_commanded (s := s.release .i) hused code start
  rw [exec_command_of_change hindex hused hkind hchange, State.commandChange_of_unlinked hcommanded start hlink, State.commanded, hlink]
  rfl

/-- Settles O31: the change stored and journaled, an open record superseded, and the opening rule applied. -/
theorem pointCommandOpensMovement : Obligations.PointCommandOpensMovement := by
  refine ⟨?point, ?signal, ?superseded⟩
  case point =>
    intro address code index e s hindex hused hkind hcode hchange hcls hlink arrival start journal stored record unsupervised
    have hjournal : s.commandJournal index e code arrival.date {} = journal := by
      rw [State.commandJournal, hcls, hkind]
      rfl
    have hcommand : exec (.command address code) s = .next
        (({ s.release .i with lys := stored none, evj := journal } : State).openMovement index (e.commanded code start none) code start) := by
      rw [← hjournal]
      exact exec_command_of_unlinked hindex hused (.inl ⟨hkind, hcode⟩) hchange hlink
    have hopening : ∀ reason, ({ s.release .i with lys := stored none, evj := journal } : State).unsupervised index
        (e.commanded code start none) code start reason = unsupervised reason := fun reason => by
      rw [State.unsupervised_eq]
      simp only [LiveElement.commanded, hkind]
      rfl
    refine ⟨fun hshown => ?_, fun hboth => ?_, fun hshown hboth => ⟨fun k hfree => ?_, fun hfull => ?_⟩⟩
    · rw [hcommand, State.openMovement_of_noRecord (e := e.commanded code start none) hshown]
    · rw [hcommand, State.openMovement_of_both (e := e.commanded code start none) hkind (by omega) hboth, hopening]
    · rw [hcommand, State.openMovement_of_opens
        (s := { s.release .i with lys := stored none, evj := journal }) (e := e.commanded code start none) (.inl hkind) hshown (fun _ => hboth)
        (Lys.getElem?_setElement hused _) hfree]
      simp only [newMovement, openingPhase, LiveElement.commanded, hkind, reduceCtorEq, if_false]
      simp only [Lys.setElement, stored, List.set_set]
      rfl
    · rw [hcommand, State.openMovement_of_full
        (s := { s.release .i with lys := stored none, evj := journal }) (e := e.commanded code start none)
        (.inl hkind) hshown (fun _ => hboth) hfull, hopening]
  case signal =>
    intro address code index e s hindex hused hkind hcode hchange hlink arrival start journal stored record
    have hjournal : s.commandJournal index e code arrival.date {} = journal := by
      rw [State.commandJournal, hkind]
    have hcommand : exec (.command address code) s = .next
        (({ s.release .i with lys := stored none, evj := journal } : State).openMovement index (e.commanded code start none) code start) := by
      rw [← hjournal]
      exact exec_command_of_unlinked hindex hused (.inr ⟨hkind, hcode⟩) hchange hlink
    have hnotPoint : ¬e.entry.kind = .point := by simp [hkind]
    refine ⟨fun hshown => ?_, fun hshown => ⟨fun k hfree => ?_, fun hfull => ?_⟩⟩
    · rw [hcommand, State.openMovement_of_noRecord (e := e.commanded code start none) hshown]
    · rw [hcommand, State.openMovement_of_opens
        (s := { s.release .i with lys := stored none, evj := journal }) (e := e.commanded code start none)
        (.inr hkind) hshown (fun h => absurd h hnotPoint)
        (Lys.getElem?_setElement hused _) hfree]
      simp only [newMovement, openingPhase, LiveElement.commanded, hkind, if_true]
      simp only [Lys.setElement, stored, List.set_set]
      rfl
    · rw [hcommand, State.openMovement_of_full
        (s := { s.release .i with lys := stored none, evj := journal }) (e := e.commanded code start none) (.inr hkind) hshown
        (fun h => absurd h hnotPoint) hfull, State.unsupervised_eq]
      simp only [LiveElement.commanded, hkind]
      rfl
  case superseded =>
    intro address code index k r e s hindex hused hkind hchange hlink hopen hrelement hstart arrival start changed journal stored freed record
    have hcommanded := State.getElem?_commanded (s := s.release .i) hused code start
    have hclosed : ((s.release .i).commanded index e code start).closeMovement k r .superseded none start {} =
        { s.release .i with lys := stored none, evj := journal, mvs := { s.mvs with table := freed } } := by
      have hend : r.endFlags {} start.rt = { precedesCommand := r.loss.any fun loss => decide (loss < r.start.rt) } := by
        rw [Movement.endFlags, precedesCommand_eq, decide_eq_false (not_lt.mpr hstart), Bool.false_or]
      subst hrelement
      rw [State.closeMovement_of_silent hcommanded rfl, hend]
      simp only [State.commanded, Lys.setElement, List.set_set]
      rfl
    have hcommand : exec (.command address code) s = .next
        (({ s.release .i with lys := stored none, evj := journal, mvs := { s.mvs with table := freed } } : State).openMovement index
          (e.commanded code start (some k)) code start) := by
      rw [exec_command_of_change hindex hused hkind hchange]
      refine congrArg _ ((State.commandChange_of_linked hcommanded start hlink hopen).trans ?_)
      rw [hclosed, hlink]
    have hkind' : e.entry.kind = .point ∨ e.entry.kind = .signal := hkind.imp And.left And.left
    refine ⟨fun hshown => ?_, fun hpoint hboth => ?_, fun hshown hboth => ?_⟩
    · rw [hcommand, State.openMovement_of_noRecord (e := e.commanded code start (some k)) hshown]
    · have htarget : code ≠ 3 := by
        rcases hkind with ⟨-, hcode⟩ | ⟨hsignal, -⟩
        · omega
        · simp [hpoint] at hsignal
      rw [hcommand, State.openMovement_of_both (e := e.commanded code start (some k)) hpoint htarget hboth, State.unsupervised_eq]
      simp only [LiveElement.commanded, hpoint, hboth]
      rfl
    · obtain ⟨f, hfree, hbelow, hf⟩ := Mvs.exists_free?_of_freed hopen
      refine ⟨f, hbelow, hf, ?_⟩
      rw [hcommand, State.openMovement_of_opens
        (s := { s.release .i with lys := stored none, evj := journal, mvs := { s.mvs with table := freed } })
        (e := e.commanded code start (some k)) hkind' hshown hboth
        (Lys.getElem?_setElement hused _) hfree]
      simp only [Lys.setElement, stored, List.set_set]
      rfl

end Sys2Proof.Machine
end

section
/-! An INDICATION taken: stored, journaled by class, and taken against an open record (R65, R67, R68, R87 to R92, R94, R96). -/

namespace Sys2Proof.Machine

/-! ### An indication's record (R53, R65, R67, R68) -/

/-- An event instant judged for order against an element's last indication instant (R53). -/
def LiveElement.judges (e : LiveElement) (event : EventInstant) : EventInstant := event.judged e.state.lastIndicationAt

/-- The journal after a valid indication: a change by class, a repeat in ALL. -/
def State.indicationJournal (s : State) (index : Nat) (e : LiveElement) (code : Nat) (event : EventInstant) : Evj :=
  if e.state.lastIndicated = some code then
    (if e.entry.cls = .all then
      s.evj.offer (.indicationRepeat e.entry.address index e.entry.kind e.state.lastIndicated (some code)) event.date event.flags
    else s.evj)
  else if e.entry.cls = .nothing then s.evj
  else s.evj.store (.indicationChange e.entry.address index e.entry.kind e.state.lastIndicated (some code)) event.date event.flags

theorem State.indicationRecord_eq (s : State) (index : Nat) (e : LiveElement) (code : Nat) (event : EventInstant) :
    s.indicationRecord index e code event = { s with evj := s.indicationJournal index e code event } := by
  have hclass : (RecordBody.indicationChange e.entry.address index e.entry.kind e.state.lastIndicated (some code)).cls ≠ .minor := nofun
  by_cases hrepeat : e.state.lastIndicated = some code
  · rw [State.indicationRecord, if_pos hrepeat, State.writeIf_of_repeat, State.indicationJournal, if_pos hrepeat]
  · rw [State.indicationRecord, if_neg hrepeat, State.writeIf_of_change _ _ hclass, State.indicationJournal, if_neg hrepeat]

/-- The element with a valid indication stored, of a kind without a section state. -/
def LiveElement.indicated (e : LiveElement) (code : Nat) (event : EventInstant) (link : Option Nat) (proven : Option Instant) :
    LiveElement :=
  { e with
    state := { e.state with
      seen := true, lastBadIndication := none, lastIndicated := some code, lastIndicationAt := some event, movement := link
      proceedProven := proven } }

theorem ElementState.indicated_of_not_section {x : ElementState} {kind : ElementKind} (h : kind ≠ .sect) (code : Nat)
    (event : EventInstant) :
    x.indicated kind code event =
      { x with seen := true, lastBadIndication := none, lastIndicated := some code, lastIndicationAt := some event } := by
  simp only [ElementState.indicated, h, false_and, if_false]

/-- A valid indication stored and journaled, before the MVS takes it. -/
def State.indicated (s : State) (index : Nat) (e : LiveElement) (code : Nat) (event : EventInstant) : State :=
  { s with
    lys := s.lys.setElement index (e.indicated code event e.state.movement e.state.proceedProven)
    evj := s.indicationJournal index e code event }

theorem State.getElem?_indicated {s : State} {index : Nat} {e : LiveElement} (hused : s.lys.elements[index]? = some e) (code : Nat)
    (event : EventInstant) :
    (s.indicated index e code event).lys.elements[index]? =
      some (e.indicated code event e.state.movement e.state.proceedProven) :=
  Lys.getElem?_setElement hused _

section
variable {s : State} {index : Nat} {e : LiveElement} {code : Nat} (hused : s.lys.elements[index]? = some e)
include hused

theorem State.takeIndication_of_element {address : Nat} (hindex : s.indexOf address = some index) (age : Option Nat) (c : Capture) :
    s.takeIndication address code age c =
      if indicationCodeOk e.entry.kind code then s.validIndication index e code (e.judges (eventInstant c age))
      else s.badIndication index e code (e.judges (eventInstant c age)) := by
  simp only [State.takeIndication, hindex, hused, LiveElement.judges]

theorem State.validIndication_of_not_section (hkind : e.entry.kind ≠ .sect) (event : EventInstant) :
    s.validIndication index e code event =
      if e.entry.kind.moves then (s.indicated index e code event).indicationToMvs index code event else s.indicated index e code event := by
  simp only [State.validIndication, State.onElement_eq_setElement hused, ElementState.indicated_of_not_section hkind,
    State.indicationRecord_eq, sectionEdgeOf, hkind, if_false]
  rfl

theorem State.badIndication_eq (event : EventInstant) :
    let bad : Flags := { event.flags with badCode := true }
    s.badIndication index e code event = { s with
      lys := s.lys.setElement index { e with state := { e.state with seen := true, lastBadIndication := some code } }
      evj :=
        if e.state.lastBadIndication = some code then
          (if e.entry.cls = .all then
            s.evj.offer (.indicationRepeat e.entry.address index e.entry.kind e.state.lastIndicated (some code)) event.date bad
          else s.evj)
        else if e.entry.cls = .nothing then s.evj
        else s.evj.store (.indicationChange e.entry.address index e.entry.kind e.state.lastIndicated (some code)) event.date bad } := by
  intro bad
  have hclass : (RecordBody.indicationChange e.entry.address index e.entry.kind e.state.lastIndicated (some code)).cls ≠ .minor := nofun
  by_cases hrepeat : e.state.lastBadIndication = some code
  · simp only [State.badIndication, if_pos hrepeat, State.onElement_eq_setElement hused, State.writeIf_of_repeat]
    rfl
  · simp only [State.badIndication, if_neg hrepeat, State.onElement_eq_setElement hused, State.writeIf_of_change _ _ hclass]
    rfl

/-! ### The MVS takes an indication (R87) -/

theorem State.indicationToMvs_of_unlinked (hlink : e.state.movement = none) (event : EventInstant) :
    s.indicationToMvs index code event = s := by
  simp only [State.indicationToMvs, hused, State.openRecordOf, hlink, Option.bind_none]

section
variable {k : Nat} {r : Movement} (hlink : e.state.movement = some k) (hopen : s.mvs.at? k = some r) (event : EventInstant)
include hlink hopen

theorem State.indicationToMvs_of_noChange (h : r.transition code = .noChange) : s.indicationToMvs index code event = s := by
  simp only [State.indicationToMvs, hused, State.openRecordOf, hlink, Option.bind_some, hopen, Option.map_some, h]

theorem State.indicationToMvs_of_toMoving (h : r.transition code = .toMoving) :
    s.indicationToMvs index code event =
      { s with mvs := { s.mvs with table := s.mvs.table.set k (some { r with phase := .moving, loss := some event.rt }) } } := by
  simp only [State.indicationToMvs, hused, State.openRecordOf, hlink, Option.bind_some, hopen, Option.map_some, h]
  rfl

theorem State.indicationToMvs_of_closes {outcome : MovementOutcome} (h : r.transition code = .closes outcome) :
    s.indicationToMvs index code event =
      if provesProceed r.phase outcome then
        (s.closeMovement k r outcome none event.instant event.flags).onElement index fun x =>
          { x with proceedProven := some event.instant }
      else s.closeMovement k r outcome none event.instant event.flags := by
  simp only [State.indicationToMvs, hused, State.openRecordOf, hlink, Option.bind_some, hopen, Option.map_some, h]

end
end

/-! ### The transitions (R88 to R92, R94) -/

theorem Movement.transition_of_target {r : Movement} {code : Nat} (h : code = r.target) : r.transition code = .closes r.completion := by
  unfold Movement.transition
  split <;> exact if_pos h

theorem provesProceed_completion (r : Movement) : provesProceed r.phase r.completion = decide (r.phase = .clearing) := by
  unfold Movement.completion
  cases r.phase <;> cases r.overdue <;> rfl

section
variable {r : Movement} {code : Nat} (hother : code ≠ r.target)
include hother

theorem Movement.transition_toMoving (hphase : r.phase = .commanded) (hcode : code = 0) : r.transition code = .toMoving := by
  simp only [Movement.transition, hphase, if_neg hother, if_pos hcode]

theorem Movement.transition_point_fault (hphase : r.phase = .commanded ∨ r.phase = .moving) (hcode : code = 3) :
    r.transition code = .closes .fault := by
  obtain hphase | hphase := hphase
  · simp only [Movement.transition, hphase, if_neg hother, if_pos hcode, if_neg (show code ≠ 0 by omega)]
  · simp only [Movement.transition, hphase, if_neg hother, if_pos hcode, if_neg (show code ≠ 0 by omega)]

theorem Movement.transition_returned (hphase : r.phase = .moving) (hzero : code ≠ 0) (hboth : code ≠ 3) :
    r.transition code = .closes .returned := by
  simp only [Movement.transition, hphase, if_neg hother, if_neg hzero, if_neg hboth]

theorem Movement.transition_signal_fault (hphase : r.phase = .clearing ∨ r.phase = .replacing) (hcode : code = 15) :
    r.transition code = .closes .fault := by
  obtain hphase | hphase := hphase
  · simp only [Movement.transition, hphase, if_neg hother, if_pos hcode]
  · simp only [Movement.transition, hphase, if_neg hother, if_pos hcode]

theorem Movement.transition_noChange
    (h : (r.phase = .commanded ∧ code ≠ 0 ∧ code ≠ 3) ∨ (r.phase = .moving ∧ code = 0) ∨
      ((r.phase = .clearing ∨ r.phase = .replacing) ∧ code ≠ 15)) : r.transition code = .noChange := by
  obtain ⟨hphase, hzero, hboth⟩ | ⟨hphase, hzero⟩ | ⟨hphase | hphase, hcode⟩ := h
  · simp only [Movement.transition, hphase, if_neg hother, if_neg hzero, if_neg hboth]
  · simp only [Movement.transition, hphase, if_neg hother, if_pos hzero]
  · simp only [Movement.transition, hphase, if_neg hother, if_neg hcode]
  · simp only [Movement.transition, hphase, if_neg hother, if_neg hcode]

end

/-- Settles O30: a command and an indication of an element, a repeat, a change and a bad code. -/
theorem elementStateIsStoredAndJournaled : Obligations.ElementStateIsStoredAndJournaled := by
  constructor
  · intro address code index e s hindex hused arrival journaled
    have hcommand := State.takeCommand_of_element (s := s.release .i) (code := code) hused hindex arrival
    refine ⟨fun hok hrepeat => ?_, fun hok hchange hkind => ?_, fun hbad => ?_⟩
    · rw [exec_command, hcommand, if_pos hok, State.validCommand_of_repeat (s := s.release .i) hused hrepeat]
      rfl
    · have hmoves : ¬e.entry.kind.moves = true := by obtain h | h := hkind <;> simp [h, ElementKind.moves]
      rw [exec_command, hcommand, if_pos hok, State.validCommand_of_change (s := s.release .i) hused hchange, if_neg hmoves]
      rfl
    · rw [exec_command, hcommand, if_neg (by simp [hbad]), State.badCommand_eq (s := s.release .i) hused]
      rfl
  · intro address code index age e s hindex hused event late flags
    have hindication := State.takeIndication_of_element (s := s.release .f) (code := code) hused hindex age (s.captureAt .f)
    refine ⟨fun hok hkind hlink => ?_, fun hbad => ?_⟩
    · rw [exec_indication, hindication, if_pos hok, State.validIndication_of_not_section (s := s.release .f) hused hkind]
      have hsame : ((s.release .f).indicated index e code (e.judges event)).indicationToMvs index code (e.judges event) =
          (s.release .f).indicated index e code (e.judges event) :=
        State.indicationToMvs_of_unlinked (State.getElem?_indicated (s := s.release .f) hused code _) hlink _
      rw [hsame, ite_self]
      rfl
    · rw [exec_indication, hindication, if_neg (by simp [hbad]), State.badIndication_eq (s := s.release .f) hused]
      rfl

/-! ### An indication with an open record (R87 to R92, R94, R96, R97) -/

theorem exec_indication_of_moving {s : State} {address code index : Nat} {e : LiveElement} (hindex : s.indexOf address = some index)
    (hused : s.lys.elements[index]? = some e) (hkind : e.entry.kind = .point ∨ e.entry.kind = .signal)
    (hok : indicationCodeOk e.entry.kind code = true) (age : Option Nat) :
    let event := e.judges (eventInstant (s.captureAt .f) age)
    exec (.indication address code age) s = .next (((s.release .f).indicated index e code event).indicationToMvs index code event) := by
  intro event
  have hmoves : e.entry.kind ≠ .sect ∧ e.entry.kind.moves = true := by obtain h | h := hkind <;> simp [h, ElementKind.moves]
  rw [exec_indication, State.takeIndication_of_element (s := s.release .f) hused hindex, if_pos hok,
    State.validIndication_of_not_section (s := s.release .f) hused hmoves.1, if_pos hmoves.2]

theorem provesProceed_fault (phase : MovementPhase) : provesProceed phase .fault = false := by cases phase <;> rfl

theorem provesProceed_returned (phase : MovementPhase) : provesProceed phase .returned = false := by cases phase <;> rfl

/-- R98, R56: the closing indication's flags, and the end or the loss before the start. -/
theorem Movement.endFlags_eq (r : Movement) (flags : Flags) (endRt : Nat) :
    r.endFlags flags endRt =
      { flags with precedesCommand := decide (endRt < r.start.rt) || r.loss.any fun loss => decide (loss < r.start.rt) } := by
  rw [Movement.endFlags, precedesCommand_eq]

/-- Settles O32: the record closes, moves or stands by the transition that the code makes of its phase. -/
theorem targetIndicationClosesMovement : Obligations.TargetIndicationClosesMovement := by
  constructor
  · intro address code index k loss r e s hindex hused hkind hcls hlink hopen hrelement hphase htarget hrkind hcode hlast hloss hstart horder
      harrived arrival journal
    subst hrelement
    have hok : indicationCodeOk e.entry.kind code = true := by obtain rfl | rfl := hcode <;> rw [hkind] <;> rfl
    have hjudged : e.judges (eventInstant arrival none) = { rt := arrival.rt, date := arrival.date, flags := {} } := by
      have hlate : outOfOrder e.state.lastIndicationAt arrival.rt = false := by
        unfold outOfOrder
        split
        case h_1 last hlast => exact decide_eq_false (not_lt.mpr (horder last hlast))
        case h_2 => rfl
      rw [eventInstant_none, LiveElement.judges, EventInstant.judged, hlate]
      rfl
    have hjournal : (s.release .f).indicationJournal r.element e code { rt := arrival.rt, date := arrival.date, flags := {} } = journal := by
      rw [State.indicationJournal, hlast, if_neg (by simp; omega), hcls, if_neg (by decide), hkind]
      rfl
    have hflags : r.endFlags {} arrival.rt = {} :=
      Movement.endFlags_of_ordered (hstart.trans harrived) (fun l hl => by rw [hloss] at hl; cases hl; exact hstart) {}
    have hmoving := exec_indication_of_moving hindex hused (.inl hkind) hok none
    have hindicated := State.getElem?_indicated (s := s.release .f) hused code { rt := arrival.rt, date := arrival.date, flags := {} }
    have hcompletion : outcomeReport r.completion none = none := by
      unfold Movement.completion
      split <;> rfl
    rw [hmoving, hjudged, State.indicationToMvs_of_closes hindicated hlink hopen _ (Movement.transition_of_target htarget.symm),
      provesProceed_completion, hphase, if_neg (by decide), State.closeMovement_of_silent hindicated hcompletion]
    simp only [State.indicated, Lys.setElement, List.set_set]
    simp only [hjournal, Movement.endRecord, Movement.completion, EventInstant.instant, hflags, hphase, hrkind, htarget, hloss, Option.map_some]
    rfl
  · intro address code index k age r e s hindex hused hkind hok hlink hopen hrelement event late flags journal stored taken body ended closed
      reported
    subst hrelement
    have hmoving := exec_indication_of_moving hindex hused hkind hok age
    have hindicated := State.getElem?_indicated (s := s.release .f) hused code (e.judges event)
    have htaken : (s.release .f).indicated r.element e code (e.judges event) = taken := by
      rw [State.indicated, hlink]
      rfl
    have hclosed : ∀ outcome, outcomeReport outcome none = none →
        ((s.release .f).indicated r.element e code (e.judges event)).closeMovement k r outcome none (e.judges event).instant
          (e.judges event).flags = closed outcome e.state.proceedProven := fun outcome hreport => by
      rw [State.closeMovement_of_silent hindicated hreport, Movement.endFlags_eq]
      simp only [State.indicated, Lys.setElement, List.set_set]
      rfl
    have hreported : ∀ outcome kind, outcomeReport outcome none = some kind → kind.priority = 0 →
        ((s.release .f).indicated r.element e code (e.judges event)).closeMovement k r outcome none (e.judges event).instant
          (e.judges event).flags = reported outcome kind := fun outcome kind hreport hpriority => by
      rw [State.closeMovement_of_reported hindicated hreport, Movement.endFlags_eq, hpriority]
      simp only [State.indicated, Lys.setElement, List.set_set]
      rfl
    refine ⟨fun htarget => ?_, fun hother => ⟨fun hphase hcode => ?_, fun hphase hcode => ?_, fun hphase hzero hboth => ?_,
      fun hphase hcode => ?_, fun hnone => ?_⟩⟩
    · have hcompletion : outcomeReport r.completion none = none := by
        unfold Movement.completion
        split <;> rfl
      rw [hmoving, State.indicationToMvs_of_closes hindicated hlink hopen _ (Movement.transition_of_target htarget),
        hclosed _ hcompletion, provesProceed_completion]
      by_cases hphase : r.phase = .clearing
      · rw [if_pos (decide_eq_true hphase), if_pos hphase, State.onElement_eq_setElement (s := closed _ _) (Lys.getElem?_setElement hused _)]
        simp only [Lys.setElement, closed, stored, List.set_set]
        rfl
      · rw [if_neg (by simpa using hphase), if_neg hphase]
        rfl
    · rw [hmoving, State.indicationToMvs_of_toMoving hindicated hlink hopen _ (Movement.transition_toMoving hother hphase hcode), htaken]
      rfl
    · rw [hmoving, State.indicationToMvs_of_closes hindicated hlink hopen _ (Movement.transition_point_fault hother hphase hcode),
        provesProceed_fault, if_neg (by decide), hreported .fault .movementFault rfl rfl]
    · rw [hmoving, State.indicationToMvs_of_closes hindicated hlink hopen _ (Movement.transition_returned hother hphase hzero hboth),
        provesProceed_returned, if_neg (by decide), hreported .returned .movementReturned rfl rfl]
    · rw [hmoving, State.indicationToMvs_of_closes hindicated hlink hopen _ (Movement.transition_signal_fault hother hphase hcode),
        provesProceed_fault, if_neg (by decide), hreported .fault .movementFault rfl rfl]
    · rw [hmoving, State.indicationToMvs_of_noChange hindicated hlink hopen _ (Movement.transition_noChange hother hnone), htaken]

end Sys2Proof.Machine
end

section
/-! The expectation queues under TRAIN IDENT and TRAIN CANCEL (R107 to R110), and the edges and passings of a section (R66, R111 to R116, R134). -/

namespace Sys2Proof.Machine

/-! ### TRAIN IDENT (R107, R108, R109) -/

theorem findIdx?_train_eq_none {queue : List TrainNumber} {train : TrainNumber} (h : train ∉ queue) :
    queue.findIdx? (· == train) = none := by
  rw [List.findIdx?_eq_none_iff]
  intro x hx
  exact beq_false_of_ne fun heq => h (heq ▸ hx)

section
variable {s : State} {point : Nat} {p : LivePoint} {train : TrainNumber}

theorem State.identTrain_of_queued {k : Nat} (hqueued : p.record.queue.findIdx? (· == train) = some k) (date : Date) :
    s.identTrain point p train date = { s with
      orh := s.orh.raise
        { kind := .duplicateIdent, priority := 2, seq := 0, date := date, flags := {}, summary := .duplicate point train k } } := by
  simp only [State.identTrain, hqueued]
  rfl

theorem State.identTrain_of_room (hused : s.psd.points[point]? = some p) (hnew : train ∉ p.record.queue)
    (hroom : p.record.queue.length < 4) (date : Date) :
    s.identTrain point p train date = { s with
      psd := { s.psd with
        points := s.psd.points.set point { p with record := { p.record with queue := p.record.queue ++ [train] } } } } := by
  simp only [State.identTrain, findIdx?_train_eq_none hnew]
  exact (if_pos hroom).trans (State.onPoint_of_used hused _)

theorem State.identTrain_of_full {oldest : TrainNumber} {rest : List TrainNumber} (hused : s.psd.points[point]? = some p)
    (hnew : train ∉ p.record.queue) (hqueue : p.record.queue = oldest :: rest) (hfull : p.record.queue.length = 4) (date : Date) :
    let body : RecordBody := .expectationDropped point (s.sectionAddress p.entry) p.entry.edge oldest false
    s.identTrain point p train date = { s with
      psd := { s.psd with points := s.psd.points.set point { p with record := { p.record with queue := rest ++ [train] } } }
      evj := s.evj.store body date {}
      orh := s.orh.raise
        { kind := .expectationDropped, priority := 2, seq := s.evj.next, date := date, flags := {}, summary := .ofRecord body } } := by
  intro body
  have hclass : body.cls ≠ .minor := nofun
  have hnot : ¬p.record.queue.length < expectationSize := not_lt.mpr hfull.ge
  unfold State.identTrain
  rw [findIdx?_train_eq_none hnew]
  dsimp only
  rw [if_neg hnot, hqueue]
  dsimp only
  rw [State.dropExpectation, State.writeReport_of_not_minor hclass]
  refine (State.onPoint_of_used (p := p) ?_ _).trans ?_
  · exact hused
  · rw [hqueue]
    rfl

theorem State.orderTrainIdent_of_range (h : s.psd.points.length ≤ point ∨ trainOk train = false) (m : Manner) (c : Capture) :
    s.orderTrainIdent m c point train = s.refuse m 0x48 c.date .range := by
  unfold State.orderTrainIdent
  split
  case h_1 p hused =>
    have hlength := (List.getElem?_eq_some_iff.mp hused).1
    rw [h.resolve_left (not_le.mpr hlength), if_neg (by decide)]
  case h_2 => rfl

theorem State.orderTrainIdent_of_used (hused : s.psd.points[point]? = some p) (hok : trainOk train = true) (m : Manner) (c : Capture) :
    s.orderTrainIdent m c point train = s.identTrain point p train c.date := by
  simp only [State.orderTrainIdent, hused, hok, if_true]

end

/-! ### TRAIN CANCEL (R110) -/

/-- A used point with a number removed from its queue, the numbers behind it closing up. -/
def LivePoint.without (train : TrainNumber) (p : LivePoint) : LivePoint :=
  { p with record := { p.record with queue := p.record.queue.filter (· ≠ train) } }

theorem PointRecord.without_eq (train : TrainNumber) (r : PointRecord) :
    r.without train = { r with queue := r.queue.filter (· ≠ train) } := by
  have hfilter : r.queue.filter (· != train) = r.queue.filter (· ≠ train) := by
    congr 1
    funext x
    exact Bool.eq_iff_iff.mpr (by simp)
  rw [PointRecord.without, hfilter]

section
variable {s : State} {m : Manner} {c : Capture} {train : TrainNumber} {point : Nat}

theorem State.orderTrainCancel_of_range (h : trainOk train = false ∨ (point ≠ 65535 ∧ s.psd.points.length ≤ point)) :
    s.orderTrainCancel m c train point = s.refuse m 0x49 c.date .range := by
  refine if_neg fun ⟨hok, hpoint⟩ => ?_
  obtain hbad | ⟨hone, hbeyond⟩ := h
  · rw [hbad] at hok
    cases hok
  · omega

theorem State.orderTrainCancel_of_all (hok : trainOk train = true) :
    s.orderTrainCancel m c train 65535 = { s with psd := { s.psd with points := s.psd.points.map (LivePoint.without train) } } := by
  rw [State.orderTrainCancel, if_pos ⟨hok, .inl rfl⟩, if_pos rfl]
  simp only [State.onPsd, PointRecord.without_eq]
  rfl

theorem State.orderTrainCancel_of_used {p : LivePoint} (hok : trainOk train = true) (hused : s.psd.points[point]? = some p)
    (hone : point ≠ 65535) :
    s.orderTrainCancel m c train point = { s with psd := { s.psd with points := s.psd.points.set point (p.without train) } } := by
  have hlength := (List.getElem?_eq_some_iff.mp hused).1
  rw [State.orderTrainCancel, if_pos ⟨hok, .inr hlength⟩, if_neg hone, State.onPoint_of_used hused, PointRecord.without_eq]
  rfl

end

/-- Settles O35: the number appended, found, or put behind a dropped head; removed at a point or everywhere; or the order refused. -/
theorem trainOrdersKeepTheQueue : Obligations.TrainOrdersKeepTheQueue := by
  constructor
  · intro m point train p s date queued
    refine ⟨fun hused hok hnew hroom => ?_, fun k hused hok hqueued => ?_, fun oldest rest hused hok hnew hqueue hfull => ?_, fun hrange => ?_⟩
    · rw [exec_trainIdent, State.orderTrainIdent_of_used (s := s.release .i) hused hok,
        State.identTrain_of_room (s := s.release .i) hused hnew hroom]
      rfl
    · rw [exec_trainIdent, State.orderTrainIdent_of_used (s := s.release .i) hused hok, State.identTrain_of_queued hqueued]
      rfl
    · rw [exec_trainIdent, State.orderTrainIdent_of_used (s := s.release .i) hused hok,
        State.identTrain_of_full (s := s.release .i) hused hnew hqueue hfull]
      rfl
    · rw [exec_trainIdent, State.orderTrainIdent_of_range (s := s.release .i) hrange]
  · intro m train s
    refine ⟨fun hbad point => ?_, fun hok => ⟨fun point p hused hone => ?_, ?_, fun point hone hbeyond => ?_⟩⟩
    · rw [exec_trainCancel, State.orderTrainCancel_of_range (.inl hbad)]
    · rw [exec_trainCancel, State.orderTrainCancel_of_used (s := s.release .i) hok hused hone]
      rfl
    · rw [exec_trainCancel, State.orderTrainCancel_of_all (s := s.release .i) hok]
      rfl
    · rw [exec_trainCancel, State.orderTrainCancel_of_range (s := s.release .i) (.inr ⟨hone, hbeyond⟩)]

/-! ### The section state and its edges (R66) -/

theorem sectionStateOf_eq (code : Nat) :
    sectionStateOf code = if code = 0 then .clear else if code = 1 then .occupied else .unknown := by
  obtain rfl | rfl | h : code = 0 ∨ code = 1 ∨ 2 ≤ code := by omega
  · rfl
  · rfl
  · rw [if_neg (by omega), if_neg (by omega)]
    unfold sectionStateOf
    split <;> first | omega | rfl

theorem edgeBetween_eq_none {x y : SectionState} (h : x = y ∨ x = .unknown ∨ y = .unknown) : edgeBetween x y = none := by
  obtain rfl | rfl | rfl := h
  · cases x <;> rfl
  · rfl
  · cases x <;> rfl

/-- The element of a section with a valid indication stored. -/
def LiveElement.sensed (e : LiveElement) (code : Nat) (event : EventInstant) : LiveElement :=
  { e with
    state := { e.state with
      seen := true, lastBadIndication := none, lastIndicated := some code, lastIndicationAt := some event
      sectionState := sectionStateOf code
      sectionSince :=
        if sectionStateOf code = e.state.sectionState ∧ e.state.lastIndicated ≠ none then e.state.sectionSince else event.rt } }

theorem ElementState.indicated_of_section (e : LiveElement) (code : Nat) (event : EventInstant) :
    ({ e with state := e.state.indicated .sect code event } : LiveElement) = e.sensed code event := by
  have hsince : (if sectionStateOf code ≠ e.state.sectionState ∨ e.state.lastIndicated = none then event.rt else e.state.sectionSince) =
      if sectionStateOf code = e.state.sectionState ∧ e.state.lastIndicated ≠ none then e.state.sectionSince else event.rt := by
    split <;> split <;> first | rfl | tauto
  simp only [ElementState.indicated, LiveElement.sensed, true_and, if_true, hsince]

/-- A section's valid indication: stored, journaled, and its edge handed on. -/
theorem State.validIndication_of_section {s : State} {index : Nat} {e : LiveElement} {code : Nat}
    (hused : s.lys.elements[index]? = some e) (hkind : e.entry.kind = .sect) (event : EventInstant) :
    let taken := { s with lys := s.lys.setElement index (e.sensed code event), evj := s.indicationJournal index e code event }
    s.validIndication index e code event =
      match edgeBetween e.state.sectionState (sectionStateOf code) with
      | some edge =>
          taken.takeEdge { sect := index, address := e.entry.address, edge := edge, event := event, since := e.state.sectionSince }
      | none => taken := by
  intro taken
  have htaken : (s.onElement index fun x => x.indicated .sect code event).indicationRecord index e code event = taken := by
    rw [State.onElement_eq_setElement hused, State.indicationRecord_eq, ElementState.indicated_of_section]
    rfl
  simp only [State.validIndication, hkind, htaken, ElementKind.moves, sectionEdgeOf, Bool.false_eq_true, if_false, if_true]
  cases edgeBetween e.state.sectionState (sectionStateOf code) <;> rfl

/-! ### A passing (R112, R114, R115, R116, R134) -/

/-- A used point with a passing taken: the head of its queue spent, its bounce count 0, its last passing this one. -/
def State.passed (s : State) (x : SectionEdge) (point : Nat) (p : LivePoint) : State :=
  { s with psd := { s.psd with points := s.psd.points.set point { p with record := p.record.passed x } } }

theorem State.edgeAtPoint_of_passing {s : State} {x : SectionEdge} {point : Nat} {p : LivePoint}
    (hused : s.psd.points[point]? = some p) (hsection : p.entry.sect = x.sect) (hedge : p.entry.edge = x.edge)
    (hspan : s.orh.params.settleTime ≤ x.span) : s.edgeAtPoint x point = s.passingAt x point p := by
  rw [State.edgeAtPoint_of_triggered hused hsection hedge, if_neg (not_lt.mpr hspan)]

theorem State.passingAt_of_identified {s : State} {x : SectionEdge} {point : Nat} {p : LivePoint} {train : TrainNumber}
    {rest : List TrainNumber} (hused : s.psd.points[point]? = some p) (hqueue : p.record.queue = train :: rest) :
    s.passingAt x point p = (s.passed x point p).judgePassing
      { point := point, entry := p.entry, train := train, event := x.event, address := x.address, edge := x.edge
        span := x.span, bounces := p.record.bounces, previous := p.record.lastPassing } := by
  simp only [State.passingAt, hqueue, State.onPoint_of_used hused]
  rfl

theorem State.passingAt_of_unidentified {s : State} {x : SectionEdge} {point : Nat} {p : LivePoint}
    (hused : s.psd.points[point]? = some p) (hqueue : p.record.queue = []) :
    let body : RecordBody := .passing (unidentifiedRecord x point p.record.bounces)
    s.passingAt x point p = { s.passed x point p with
      evj := s.evj.store body x.event.date x.event.flags
      orh := s.orh.raise
        { kind := .unidentified, priority := 2, seq := s.evj.next, date := x.event.date, flags := x.event.flags
          summary := .ofRecord body } } := by
  intro body
  have hclass : body.cls ≠ .minor := nofun
  simp only [State.passingAt, hqueue, State.onPoint_of_used hused]
  exact State.writeReport_of_not_minor hclass _ _ _ _

theorem State.unbookedPassing_eq (s : State) (x : PassingItems) (reason : UnbookedReason) :
    let body : RecordBody := .passing (s.passingRecord x (.unbooked reason))
    s.unbookedPassing x reason = { s with
      evj := s.evj.store body x.event.date x.event.flags
      orh := s.orh.raise
        { kind := .unbooked, priority := 2, seq := s.evj.next, date := x.event.date, flags := x.event.flags
          summary := .ofRecord body } } := by
  intro body
  have hclass : body.cls ≠ .minor := nofun
  exact State.writeReport_of_not_minor hclass _ _ _ _

theorem earliest_eq_none_iff (l : List Candidate) : earliest l = none ↔ l = [] := by
  cases l with
  | nil => simp [earliest]
  | cons c rest =>
    simp only [earliest, reduceCtorEq, iff_false]
    split
    · split <;> simp
    · simp

theorem State.judgePassing_of_no_planes {s : State} (h : s.ttc.planes = none) (x : PassingItems) :
    s.judgePassing x = s.unbookedPassing x .noPlanes := by
  simp only [State.judgePassing, h]

theorem State.judgePassing_of_no_candidate {s : State} {x : PassingItems} (hplanes : s.ttc.planes ≠ none) (h : s.candidates x = []) :
    s.judgePassing x = s.unbookedPassing x .noCandidate := by
  obtain ⟨p, hp⟩ := Option.ne_none_iff_exists'.mp hplanes
  simp only [State.judgePassing, hp, h, earliest]

/-- Settles O37: the section's state and edge, and the passing by the queue and the timetable. -/
theorem edgesAndPassings : Obligations.EdgesAndPassings := by
  constructor
  · intro address code index age e s hindex hused hkind hcode event late flags found taken handed
    have hok : indicationCodeOk e.entry.kind code = true := by
      rw [hkind]
      exact decide_eq_true hcode
    have hfound : sectionStateOf code = found := sectionStateOf_eq code
    have htaken : { s.release .f with
        lys := s.lys.setElement index (e.sensed code (e.judges event))
        evj := (s.release .f).indicationJournal index e code (e.judges event) } = taken := by
      rw [LiveElement.sensed, hfound, State.indicationJournal, hkind]
      rfl
    have hindication : exec (.indication address code age) s = .next (
        match edgeBetween e.state.sectionState found with
        | some edge => taken.takeEdge
          { sect := index, address := e.entry.address, edge := edge, event := e.judges event, since := e.state.sectionSince }
        | none => taken) := by
      rw [exec_indication, State.takeIndication_of_element (s := s.release .f) hused hindex, if_pos hok,
        State.validIndication_of_section (s := s.release .f) hused hkind, hfound, ← htaken]
      rfl
    refine ⟨fun hstate hone => ?_, fun hstate hzero => ?_, fun hnone => ?_⟩
    · rw [hindication, hstate, show found = .occupied by rw [← hfound, hone]; rfl]
      rfl
    · rw [hindication, hstate, show found = .clear by rw [← hfound, hzero]; rfl]
      rfl
    · have hunknown : code = 2 → found = .unknown := fun h => by rw [← hfound, h]; rfl
      rw [hindication, edgeBetween_eq_none (hnone.imp_right (Or.imp_right hunknown))]
  · intro x point p s hused hsection hedge hspan spent passed record reported unbooked
    have hpassing := State.edgeAtPoint_of_passing hused hsection hedge hspan
    refine ⟨fun hqueue => ?_, fun train rest hqueue => ?_⟩
    · have hrecord : unidentifiedRecord x point p.record.bounces = record := by
        simp only [record, hqueue]
        rfl
      rw [hpassing, State.passingAt_of_unidentified hused hqueue, hrecord]
      rfl
    · intro items
      have hidentified : s.edgeAtPoint x point = passed.judgePassing items := by
        rw [hpassing, State.passingAt_of_identified hused hqueue]
        rfl
      have hrecord : ∀ reason, passed.unbookedPassing items reason = unbooked reason := fun reason => by
        rw [State.unbookedPassing_eq]
        simp only [unbooked, reported, record, hqueue, State.passingRecord, items, hsection]
        rfl
      refine ⟨hidentified, fun hplanes => ?_, fun hplanes hcandidates => ?_⟩
      · rw [hidentified, State.judgePassing_of_no_planes (s := passed) hplanes, hrecord]
      · rw [hidentified, State.judgePassing_of_no_candidate (s := passed) hplanes hcandidates, hrecord]

end Sys2Proof.Machine
end

section
/-! The candidates of a passing, the one it is matched to, and its class, its cause and its record (R127 to R133). -/

namespace Sys2Proof.Machine

/-! ### The earliest candidate (R128) -/

/-- The order in which candidates with the same booked instant are preferred: the previous plane's first, then the lower index. -/
def Candidate.Precedes (c d : Candidate) : Prop :=
  c.plane = d.plane ∧ c.index < d.index ∨ c.plane = .previous ∧ d.plane = .current

/-- In a list in order of preference, the earliest is of the earliest booked instant, and the first with it. -/
theorem earliest_spec {l : List Candidate} {c : Candidate} (hordered : l.Pairwise Candidate.Precedes) (h : earliest l = some c) :
    c ∈ l ∧ ∀ d ∈ l, c.bookedAt < d.bookedAt ∨ (c.bookedAt = d.bookedAt ∧ (c = d ∨ c.Precedes d)) := by
  induction l generalizing c with
  | nil => simp [earliest] at h
  | cons a rest ih =>
    obtain ⟨hfirst, hrest⟩ := List.pairwise_cons.mp hordered
    cases hbest : earliest rest with
    | none =>
      obtain rfl := (earliest_eq_none_iff rest).mp hbest
      obtain rfl : a = c := by simpa [earliest] using h
      simp
    | some best =>
      obtain ⟨hmem, hall⟩ := ih hrest hbest
      by_cases hless : best.bookedAt < a.bookedAt
      · obtain rfl : best = c := by simpa [earliest, hbest, hless] using h
        refine ⟨List.mem_cons_of_mem a hmem, fun d hd => ?_⟩
        obtain rfl | hd := List.mem_cons.mp hd
        · exact .inl hless
        · exact hall d hd
      · obtain rfl : a = c := by simpa [earliest, hbest, hless] using h
        refine ⟨List.mem_cons_self, fun d hd => ?_⟩
        obtain rfl | hd := List.mem_cons.mp hd
        · exact .inr ⟨rfl, .inl rfl⟩
        · have hprecedes := hfirst d hd
          obtain hd | ⟨hd, -⟩ := hall d hd
          · exact .inl (by omega)
          · obtain hlater | hsame := (not_lt.mp hless).lt_or_eq
            · exact .inl (hd ▸ hlater)
            · exact .inr ⟨hsame.trans hd, .inr hprecedes⟩

theorem State.candidateAt_place {s : State} {w : PlaneName} {p : Plane} {x : PassingItems} {i : Nat} {c : Candidate}
    (h : s.candidateAt w p x i = some c) : c.plane = w ∧ c.index = i := by
  unfold State.candidateAt at h
  split at h
  · dsimp only at h
    split at h
    · cases h
      exact ⟨rfl, rfl⟩
    · cases h
  · cases h

theorem State.candidates_of_planes {s : State} {p : Planes} (hplanes : s.ttc.planes = some p) (x : PassingItems) :
    s.candidates x =
      (List.range s.ttc.entries.length).filterMap (s.candidateAt .previous p.previous x) ++
        (List.range s.ttc.entries.length).filterMap (s.candidateAt .current p.current x) := by
  simp only [State.candidates, hplanes]

theorem State.candidatesIn_pairwise (s : State) (w : PlaneName) (p : Plane) (x : PassingItems) (n : Nat) :
    ((List.range n).filterMap (s.candidateAt w p x)).Pairwise Candidate.Precedes := by
  rw [List.pairwise_filterMap]
  refine List.pairwise_lt_range.imp fun {i j} hij c hc d hd => ?_
  obtain ⟨hcw, hci⟩ := State.candidateAt_place hc
  obtain ⟨hdw, hdj⟩ := State.candidateAt_place hd
  exact .inl ⟨hcw.trans hdw.symm, by omega⟩

theorem State.candidates_pairwise (s : State) (x : PassingItems) : (s.candidates x).Pairwise Candidate.Precedes := by
  cases hplanes : s.ttc.planes with
  | none =>
    simp only [State.candidates, hplanes]
    exact .nil
  | some p =>
    rw [State.candidates_of_planes hplanes, List.pairwise_append]
    refine ⟨s.candidatesIn_pairwise _ _ x _, s.candidatesIn_pairwise _ _ x _, fun c hc d hd => ?_⟩
    obtain ⟨i, -, hi⟩ := List.mem_filterMap.mp hc
    obtain ⟨j, -, hj⟩ := List.mem_filterMap.mp hd
    exact .inr ⟨(State.candidateAt_place hi).1, (State.candidateAt_place hj).1⟩

/-! ### What a candidate is (R127, R128, R143) -/

/-- The candidates of one plane at one entry are what that entry gives. -/
theorem State.mem_candidates_iff {s : State} {p : Planes} (hplanes : s.ttc.planes = some p) {w : PlaneName} {plane : Plane}
    (hw : w = .current ∧ plane = p.current ∨ w = .previous ∧ plane = p.previous) {i : Nat} (hi : i < s.ttc.entries.length)
    {x : PassingItems} {c : Candidate} (hcw : c.plane = w) (hci : c.index = i) :
    c ∈ s.candidates x ↔ s.candidateAt w plane x i = some c := by
  rw [State.candidates_of_planes hplanes, List.mem_append, List.mem_filterMap, List.mem_filterMap]
  constructor
  · rintro (⟨j, -, hj⟩ | ⟨j, -, hj⟩)
    all_goals
      obtain ⟨hplane, hindex⟩ := State.candidateAt_place hj
      obtain rfl : j = i := hindex.symm.trans hci
      obtain ⟨rfl, rfl⟩ | ⟨rfl, rfl⟩ := hw
    · simp [hcw] at hplane
    · exact hj
    · exact hj
    · simp [hcw] at hplane
  · intro h
    obtain ⟨rfl, rfl⟩ | ⟨rfl, rfl⟩ := hw
    · exact .inr ⟨i, List.mem_range.mpr hi, h⟩
    · exact .inl ⟨i, List.mem_range.mpr hi, h⟩

theorem bookedInstant_eq (h0 : Nat) (day : Int) (booked : Nat) :
    bookedInstant h0 day booked = day * 86400000 + (h0 * 3600000 : Nat) + (booked * 30000 : Nat) := rfl

theorem State.candidateAt_eq_some_iff {s : State} {w : PlaneName} {p : Plane} {x : PassingItems} {i : Nat} {base : TimetableEntry}
    (hbase : s.ttc.entries[i]? = some base) (c : Candidate) :
    s.candidateAt w p x i = some c ↔
      countsVoid (s.ttc.alteration i) p.day = false ∧
        let e := base.effective (s.ttc.alteration i)
        let ct : Int := (x.event.date.ms + x.event.date.season * 60000 : Nat)
        p.statusOf i = .pending ∧ e.train = x.train ∧ e.point = x.point ∧
          bookedInstant s.ttc.h0 p.day e.booked - (s.orh.params.earlyLimit * 60000 : Nat) ≤ ct ∧
          ct ≤ bookedInstant s.ttc.h0 p.day e.booked + (s.orh.params.lateLimit * 60000 : Nat) ∧
          c = { plane := w, day := p.day, index := i, entry := e, slot := (s.ttc.alteration i).map (·.1)
                bookedAt := bookedInstant s.ttc.h0 p.day e.booked } := by
  unfold State.candidateAt
  rw [hbase]
  dsimp only
  split
  case isTrue h =>
    obtain ⟨hpending, hvoid, htrain, hpoint, hstart, hend⟩ := h
    rw [Option.some_inj]
    exact ⟨fun hc => ⟨hvoid, hpending, htrain, hpoint, hstart, hend, hc.symm⟩, fun ⟨_, _, _, _, _, _, hc⟩ => hc.symm⟩
  case isFalse h =>
    refine iff_of_false nofun fun ⟨hvoid, hpending, htrain, hpoint, hstart, hend, _⟩ => h ⟨hpending, hvoid, htrain, hpoint, hstart, hend⟩

/-- Settles O39: the earliest of the candidates in their order of preference, and the candidates by the entry's values in effect. -/
theorem earliestCandidateIsMatched : Obligations.EarliestCandidateIsMatched := by
  constructor
  · intro x s
    refine ⟨(earliest_eq_none_iff _).symm, fun c hc => ?_⟩
    obtain ⟨hmem, hall⟩ := earliest_spec (s.candidates_pairwise x) hc
    refine ⟨hmem, fun d hd => (hall d hd).imp_right (And.imp_right ?_)⟩
    rintro (rfl | ⟨hplane, hindex⟩ | hplanes)
    · exact .inl ⟨rfl, le_rfl⟩
    · exact .inl ⟨hplane, hindex.le⟩
    · exact .inr hplanes
  · intro x p s hplanes w plane hw i base hbase ct instant candidate c hcw hci
    rw [State.mem_candidates_iff hplanes hw (List.getElem?_eq_some_iff.mp hbase).1 hcw hci, State.candidateAt_eq_some_iff hbase]
    cases halteration : s.ttc.alteration i with
    | none => exact and_iff_right rfl
    | some alteration =>
      obtain ⟨k, action⟩ := alteration
      cases action with
      | cancel => exact iff_of_false (fun ⟨h, _⟩ => by cases h) id
      | replace train point booked mask =>
        refine and_congr ?_ Iff.rfl
        rw [countsVoid, Bool.not_eq_false']
        rfl

/-! ### The class (R130) -/

section
variable {quality : Quality} (hdated : quality = .a ∨ quality = .b) {s : State} {threshold : Nat} {lateness : Int}
include hdated

theorem State.classify_of_dated :
    s.classify threshold quality lateness =
      if lateness < -(s.orh.params.te threshold : Int) then .early
      else if lateness < s.orh.params.t1 threshold then .rightTime
      else if lateness < s.orh.params.t2 threshold then .slightlyLate
      else .late := by
  refine if_neg ?_
  obtain rfl | rfl := hdated <;> decide

end

theorem Params.t2_eq (c : Params) (threshold : Nat) :
    (c.t2 threshold : Int) = max (c.value (12 + 3 * threshold) : Int) (c.t1 threshold) := by
  rw [Params.t2, Nat.cast_max]

/-! ### The cause (R131) -/

theorem State.attribute_of_no_signal {x : PassingItems} (h : x.entry.signal = none) (s : State) (c : Candidate) (cls : PassingClass) :
    s.attribute x c cls = (none, none) := by
  simp only [State.attribute, h]

section
variable {s : State} {x : PassingItems} {c : Candidate} {cls : PassingClass} {signal : Nat} (hsignal : x.entry.signal = some signal)
include hsignal

theorem State.attribute_of_other (h : (cls ≠ .slightlyLate ∧ cls ≠ .late) ∨ c.entry.kind ≠ 1) : s.attribute x c cls = (none, none) := by
  simp only [State.attribute, hsignal]
  exact if_neg (by tauto)

section
variable (hlate : cls = .slightlyLate ∨ cls = .late) (hkind : c.entry.kind = 1) {e : LiveElement} (he : s.lys.elements[signal]? = some e)
include hlate hkind he

theorem State.attribute_of_unproven (h : e.state.proceedProven = none) : s.attribute x c cls = (some .unknown, none) := by
  simp only [State.attribute, hsignal, if_pos (And.intro hlate hkind), he, Option.bind_some, h]

theorem State.attribute_of_unqualified {proven : Instant} (h : e.state.proceedProven = some proven) (hnot : qualifies proven x = false) :
    s.attribute x c cls = (some .unknown, none) := by
  simp only [State.attribute, hsignal, if_pos (And.intro hlate hkind), he, Option.bind_some, h, hnot, Bool.false_eq_true, if_false]

theorem State.attribute_of_qualified {proven : Instant} (h : e.state.proceedProven = some proven) (hqualifies : qualifies proven x = true) :
    let offset := max (-10800) (min 10800 (((proven.date.ms + proven.date.season * 60000 : Nat) - c.bookedAt).tdiv 1000))
    s.attribute x c cls = (some (if 0 < offset then .signal else .train), some offset) := by
  simp only [State.attribute, hsignal, if_pos (And.intro hlate hkind), he, Option.bind_some, h, hqualifies, if_true]
  rfl

end
end

theorem qualifies_iff (proven : Instant) (x : PassingItems) :
    qualifies proven x = true ↔ proven.rt ≤ x.event.rt ∧ ∀ before, x.previous = some before → before.rt < proven.rt := by
  unfold qualifies
  rw [Bool.and_eq_true, decide_eq_true_iff, and_comm]
  cases x.previous with
  | none => simp
  | some before => simp

/-! ### The record, the status and the DEVIATION (R129, R132, R133) -/

theorem deviationRaised_iff (cls : PassingClass) (mode : ReportMode) :
    deviationRaised cls mode = true ↔ ¬(mode = .exception ∧ (cls = .rightTime ∨ cls = .unverified)) := by
  cases cls <;> cases mode <;> simp [deviationRaised]

theorem PassingClass.priority_eq (cls : PassingClass) :
    cls.priority = match cls with | .early => 1 | .late => 1 | .slightlyLate => 2 | .rightTime => 3 | .unverified => 3 := by
  cases cls <;> rfl

/-- A passing matched to a candidate, with the cause and the offset attributed. -/
def State.matched (s : State) (x : PassingItems) (c : Candidate) (cause : Option LateCause) (offset : Option Int) : State :=
  let lateness : Int := ((x.event.date.ms + x.event.date.season * 60000 : Nat) - c.bookedAt).tdiv 1000
  let cls := s.classify x.entry.threshold x.event.date.quality lateness
  let record := { s.passingRecord x (.judged cls) with
    planeDay := some c.day, entry := some c.index, kind := some c.entry.kind, slot := c.slot, booked := some c.entry.booked
    lateness := some lateness, cause := cause, signalOffset := offset }
  { s with
    evj := s.evj.store (.passing record) x.event.date x.event.flags
    ttc := s.ttc.onPlane c.plane fun p => p.setStatus c.index (.matched lateness s.evj.next)
    orh :=
      if x.entry.mode = .exception ∧ (cls = .rightTime ∨ cls = .unverified) then s.orh
      else s.orh.raise
        { kind := .deviation, seq := s.evj.next, date := x.event.date, flags := x.event.flags
          priority := match cls with | .early => 1 | .late => 1 | .slightlyLate => 2 | .rightTime => 3 | .unverified => 3
          summary := .deviation cls x.train x.point lateness cause } }

theorem State.matchPassing_eq (s : State) (x : PassingItems) (c : Candidate) :
    let lateness : Int := ((x.event.date.ms + x.event.date.season * 60000 : Nat) - c.bookedAt).tdiv 1000
    let cause := s.attribute x c (s.classify x.entry.threshold x.event.date.quality lateness)
    s.matchPassing x c = s.matched x c cause.1 cause.2 := by
  intro lateness cause
  have hclass : ∀ record, (RecordBody.passing record).cls ≠ .minor := fun _ => nofun
  have hraised := deviationRaised_iff (s.classify x.entry.threshold x.event.date.quality lateness) x.entry.mode
  unfold State.matchPassing State.matched
  dsimp only
  rw [State.write_of_not_minor (hclass _)]
  by_cases h : deviationRaised (s.classify x.entry.threshold x.event.date.quality lateness) x.entry.mode = true
  · refine (if_pos h).trans ?_
    rw [if_neg (hraised.mp h), PassingClass.priority_eq]
    rfl
  · refine (if_neg h).trans ?_
    rw [if_pos (not_not.mp (hraised.not.mp h))]
    rfl

theorem State.judgePassing_of_earliest {s : State} {x : PassingItems} {c : Candidate} (h : earliest (s.candidates x) = some c) :
    s.judgePassing x = s.matchPassing x c := by
  cases hplanes : s.ttc.planes with
  | none => simp [State.candidates, hplanes, earliest] at h
  | some p => simp only [State.judgePassing, hplanes, h]

/-- Settles O38: the class by the thresholds, and the record with the cause that each case attributes. -/
theorem matchedPassingIsJudged : Obligations.MatchedPassingIsJudged := by
  refine ⟨?classes, ?unsignalled, ?signalled⟩
  case classes =>
    intro threshold lateness quality s te t1 t2
    have ht2 : (s.orh.params.t2 threshold : Int) = t2 := Params.t2_eq _ _
    refine ⟨fun hundated => if_pos hundated, fun hdated => ?_⟩
    rw [State.classify_of_dated hdated, ht2]
    refine ⟨fun hearly => if_pos hearly, fun hte ht1 => ?_, fun ht1 hte ht2 => ?_, fun ht2 hte => ?_⟩
    · rw [if_neg (not_lt.mpr hte), if_pos ht1]
    · rw [if_neg (not_lt.mpr hte), if_neg (not_lt.mpr ht1), if_pos ht2]
    · have ht1 : t1 ≤ lateness := (le_max_right _ _).trans ht2
      rw [if_neg (not_lt.mpr hte), if_neg (not_lt.mpr ht1), if_neg (not_lt.mpr ht2)]
  case unsignalled =>
    intro x c s hearliest hsignal lateness cls record
    rw [State.judgePassing_of_earliest hearliest, State.matchPassing_eq, State.attribute_of_no_signal hsignal]
    rfl
  case signalled =>
    intro x c s hearliest lateness cls matched signal hsignal
    have hjudged : ∀ cause offset, s.attribute x c cls = (cause, offset) → s.judgePassing x = matched cause offset := by
      intro cause offset hcause
      rw [State.judgePassing_of_earliest hearliest, State.matchPassing_eq, hcause]
      rfl
    refine ⟨fun hother => hjudged _ _ (State.attribute_of_other hsignal hother), fun hlate hkind e he => ⟨fun hnone => ?_, fun proven hproven =>
      ⟨fun hnot => ?_, fun harrived hbefore => ?_⟩⟩⟩
    · exact hjudged _ _ (State.attribute_of_unproven hsignal hlate hkind he hnone)
    · refine hjudged _ _ (State.attribute_of_unqualified hsignal hlate hkind he hproven (Bool.eq_false_iff.mpr fun h => ?_))
      obtain ⟨harrived, hbefore⟩ := (qualifies_iff proven x).mp h
      obtain hlater | ⟨before, hprevious, hearlier⟩ := hnot
      · omega
      · exact absurd (hbefore before hprevious) (not_lt.mpr hearlier)
    · exact hjudged _ _ (State.attribute_of_qualified hsignal hlate hkind he hproven ((qualifies_iff proven x).mpr ⟨harrived, hbefore⟩))

end Sys2Proof.Machine
end

section
/-! The alteration overlay: a slot written, cleared, or refused, and the release of its target (R142, R144, R145). -/

namespace Sys2Proof.Machine

/-! ### The slot that targets an entry (R142) -/

/-- Whether R145 bars an action for its timing point: the armed layout does not have it. -/
def State.barredByLayout (s : State) : OverlayAction → Bool
  | .replace _ point _ _ => layoutArmed s.lys.armed && decide (s.lys.stagingPoints.length ≤ point)
  | .cancel => false

theorem State.overlayBarred_eq (s : State) (k target : Nat) (act : OverlayAction) :
    s.overlayBarred k target act = (((s.ttc.slotOf target).any fun j => decide (j ≠ k)) || s.barredByLayout act) := by
  unfold State.overlayBarred
  cases s.ttc.slotOf target <;> cases act <;> rfl

/-! ### The release (R144) -/

/-- The planes with the target of a slot released. -/
def State.released (s : State) (i : Nat) : Option Planes :=
  match s.ttc.entries[i]? with
  | some e =>
      s.ttc.planes.map fun p => { p with current := s.releaseInPlane i e p.current, previous := s.releaseInPlane i e p.previous }
  | none => s.ttc.planes

theorem State.releaseTarget_eq (s : State) (i : Nat) : s.releaseTarget i = { s with ttc := { s.ttc with planes := s.released i } } := by
  unfold State.releaseTarget State.released
  cases s.ttc.entries[i]? with
  | none => rfl
  | some e =>
    cases hplanes : s.ttc.planes with
    | none => simp only [State.onTtc, Ttc.onPlane, hplanes, Option.map_none]
    | some p => simp only [State.onTtc, Ttc.onPlane, hplanes, Option.map_some]

/-! ### OVERLAY WRITE (R145) -/

section
variable {s : State} {m : Manner} {c : Capture} {k target action : Nat} {train : TrainNumber} {point booked mask : Nat}

theorem State.overlayAction_of_ranged (h : trainOk train = true ∧ point < s.psd.points.length ∧ booked ≤ 2879 ∧ 1 ≤ mask ∧ mask ≤ 127) :
    s.overlayAction 0 train point booked mask = some (.replace train point booked mask) := by
  obtain ⟨htrain, hpoint, hbooked, hlow, hhigh⟩ := h
  refine if_pos ⟨htrain, hpoint, hbooked, ?_⟩
  rw [maskOk, decide_eq_true hlow, decide_eq_true hhigh]
  rfl

theorem State.overlayAction_of_range
    (h : trainOk train = false ∨ s.psd.points.length ≤ point ∨ 2879 < booked ∨ mask = 0 ∨ 127 < mask) :
    s.overlayAction 0 train point booked mask = none := by
  refine if_neg fun ⟨htrain, hpoint, hbooked, hmask⟩ => ?_
  rw [maskOk, Bool.and_eq_true, decide_eq_true_iff, decide_eq_true_iff] at hmask
  obtain hbad | h := h
  · rw [hbad] at htrain
    cases htrain
  · omega

theorem State.overlayAction_of_unknown (h : 1 < action) : s.overlayAction action train point booked mask = none := by
  unfold State.overlayAction
  split <;> first | omega | rfl

theorem State.orderOverlayWrite_of_no_action (h : s.overlayAction action train point booked mask = none) :
    s.orderOverlayWrite m c k target action train point booked mask = s.refuse m 0x40 c.date .range := by
  simp only [State.orderOverlayWrite, h]

theorem State.orderOverlayWrite_of_beyond (h : 64 ≤ k ∨ s.ttc.entries.length ≤ target) :
    s.orderOverlayWrite m c k target action train point booked mask = s.refuse m 0x40 c.date .range := by
  unfold State.orderOverlayWrite
  split
  · exact if_neg (by omega)
  · rfl

section
variable {act : OverlayAction} (haction : s.overlayAction action train point booked mask = some act) (hk : k < 64)
  (htarget : target < s.ttc.entries.length)
include haction hk htarget

theorem State.orderOverlayWrite_of_barred (h : s.overlayBarred k target act = true) :
    s.orderOverlayWrite m c k target action train point booked mask = s.refuse m 0x40 c.date .state := by
  simp only [State.orderOverlayWrite, haction, if_pos (And.intro hk htarget), h, if_true]

theorem State.orderOverlayWrite_of_free (h : s.overlayBarred k target act = false) :
    s.orderOverlayWrite m c k target action train point booked mask = s.writeSlot k target act := by
  simp only [State.orderOverlayWrite, haction, if_pos (And.intro hk htarget), h, Bool.false_eq_true, if_false]

end

/-- A write that no other slot's target bars. -/
theorem State.overlayBarred_of_own (h : ∀ j x, s.ttc.slot j = some x → x.target = target → j = k) (act : OverlayAction) :
    s.overlayBarred k target act = s.barredByLayout act := by
  have hown : ((s.ttc.slotOf target).any fun j => decide (j ≠ k)) = false := by
    cases hslot : s.ttc.slotOf target with
    | none => rfl
    | some j =>
      obtain ⟨x, hx, hxt⟩ := Ttc.slotOf_eq_some hslot
      exact decide_eq_false (not_not.mpr (h j x hx hxt))
  rw [State.overlayBarred_eq, hown, Bool.false_or]

theorem State.overlayBarred_of_other {j : Nat} {x : OverlaySlot} (hj : j ≠ k) (hx : s.ttc.slot j = some x) (hxt : x.target = target)
    (honly : ∀ i y, s.ttc.slot i = some y → y.target = target → i = j) (act : OverlayAction) :
    s.overlayBarred k target act = true := by
  have hother : ((s.ttc.slotOf target).any fun j => decide (j ≠ k)) = true := by
    cases hslot : s.ttc.slotOf target with
    | none => exact absurd hxt (Ttc.slotOf_eq_none hslot j x hx)
    | some i =>
      obtain ⟨y, hy, hyt⟩ := Ttc.slotOf_eq_some hslot
      obtain rfl := honly i y hy hyt
      exact decide_eq_true hj
  rw [State.overlayBarred_eq, hother, Bool.true_or]

theorem State.overlayBarred_of_layout (harmed : s.lys.armed = some .layout ∨ s.lys.armed = some .both)
    (hpoint : s.lys.stagingPoints.length ≤ point) : s.overlayBarred k target (.replace train point booked mask) = true := by
  have hlayout : layoutArmed s.lys.armed = true := by obtain h | h := harmed <;> rw [h] <;> rfl
  simp only [State.overlayBarred_eq, State.barredByLayout, hlayout, decide_eq_true hpoint, Bool.and_self, Bool.or_true]

theorem State.not_barredByLayout (h : s.lys.armed = none ∨ s.lys.armed = some .timetable ∨ point < s.lys.stagingPoints.length) :
    s.barredByLayout (.replace train point booked mask) = false := by
  change (layoutArmed s.lys.armed && decide (s.lys.stagingPoints.length ≤ point)) = false
  obtain h | h | h := h
  · rw [h]
    rfl
  · rw [h]
    rfl
  · rw [decide_eq_false (not_le.mpr h), Bool.and_false]

end

theorem State.writeSlot_eq (s : State) (k target : Nat) (act : OverlayAction) :
    s.writeSlot k target act = { s with
      ttc := { s.ttc with
        planes := match s.ttc.slot k with
          | some old => if old.target = target then s.ttc.planes else s.released old.target
          | none => s.ttc.planes
        overlay := s.ttc.overlay.set k (some { target := target, action := act }) } } := by
  unfold State.writeSlot
  cases s.ttc.slot k with
  | none => rfl
  | some old =>
    dsimp only
    split
    · rfl
    · rw [State.releaseTarget_eq]
      rfl

/-! ### OVERLAY CLEAR (R144) -/

theorem State.clearSlot_eq {s : State} {k : Nat} (hlength : s.ttc.overlay.length = 64) (hk : k < 64) :
    s.clearSlot k = { s with
      ttc := { s.ttc with
        planes := match s.ttc.slot k with | some old => s.released old.target | none => s.ttc.planes
        overlay := s.ttc.overlay.set k none } } := by
  unfold State.clearSlot
  cases hslot : s.ttc.slot k with
  | some old =>
    dsimp only
    rw [State.releaseTarget_eq]
    rfl
  | none =>
    have hfree : s.ttc.overlay[k]'(by omega) = none := by
      rw [Ttc.slot, List.getElem?_eq_getElem (by omega)] at hslot
      exact hslot
    have hset : s.ttc.overlay.set k none = s.ttc.overlay := by
      conv_lhs => rw [← hfree]
      exact List.set_getElem_self _
    rw [hset]

/-- Settles O42: the slot written with an old target released, barred, out of range, or cleared. -/
theorem overlaySlotsAreWrittenAndCleared : Obligations.OverlaySlotsAreWrittenAndCleared := by
  intro m k target train point booked mask s date ranged releasedIn released written
  have hwritten : ∀ act, (s.release .i).writeSlot k target act = written act := fun act => by
    rw [State.writeSlot_eq]
    rfl
  refine ⟨fun hk htarget hown => ⟨?_, fun hranged hlayout => ?_⟩, fun j x hk htarget hj hx hxt honly => ⟨?_, fun hranged => ?_⟩,
    fun hk htarget hranged harmed hpoint => ?_, fun hbeyond action => ?_, fun action haction => ?_, fun hrange => ?_,
    fun hlength hk => ?_, fun hk => ?_⟩
  · rw [exec_overlayWrite, State.orderOverlayWrite_of_free (s := s.release .i) (act := .cancel) rfl hk htarget
      (State.overlayBarred_of_own (s := s.release .i) hown _), hwritten]
  · rw [exec_overlayWrite, State.orderOverlayWrite_of_free (s := s.release .i) (State.overlayAction_of_ranged hranged) hk htarget
      ((State.overlayBarred_of_own (s := s.release .i) hown _).trans (State.not_barredByLayout (s := s.release .i) hlayout)), hwritten]
  · rw [exec_overlayWrite, State.orderOverlayWrite_of_barred (s := s.release .i) (act := .cancel) rfl hk htarget
      (State.overlayBarred_of_other (s := s.release .i) hj hx hxt honly _)]
  · rw [exec_overlayWrite, State.orderOverlayWrite_of_barred (s := s.release .i) (State.overlayAction_of_ranged hranged) hk htarget
      (State.overlayBarred_of_other (s := s.release .i) hj hx hxt honly _)]
  · rw [exec_overlayWrite, State.orderOverlayWrite_of_barred (s := s.release .i) (State.overlayAction_of_ranged hranged) hk htarget
      (State.overlayBarred_of_layout (s := s.release .i) harmed hpoint)]
  · rw [exec_overlayWrite, State.orderOverlayWrite_of_beyond (s := s.release .i) hbeyond]
  · rw [exec_overlayWrite, State.orderOverlayWrite_of_no_action (State.overlayAction_of_unknown haction)]
  · rw [exec_overlayWrite, State.orderOverlayWrite_of_no_action (s := s.release .i) (State.overlayAction_of_range hrange)]
  · rw [exec_overlayClear, State.orderOverlayClear, if_pos hk, State.clearSlot_eq (s := s.release .i) hlength hk]
    rfl
  · rw [exec_overlayClear, State.orderOverlayClear, if_neg (not_lt.mpr hk)]

end Sys2Proof.Machine
end

section
/-! JOURNAL READ in a journal that has not wrapped: what it delivers, and how it moves the read mark (R150, R157 to R160). -/

namespace Sys2Proof.Machine

/-! ### A journal that has not wrapped (R148, R150) -/

/-- The last record of the ring is the oldest, as many steps back from the newest as there are others. -/
theorem Evj.Sound.oldest_eq {e : Evj} (h : e.Sound) : e.oldest = predSeq^[e.stored - 1] e.newest := by
  have hpos : e.ring.length - 1 < e.ring.length := by
    have := h.storedPos
    unfold Evj.stored at this
    omega
  have hlast := List.getElem?_eq_getElem hpos
  have hseq := numberedFrom_seq h.consecutive hlast
  rw [Evj.oldest, List.getLast?_eq_getElem?, hlast]
  exact hseq

section
variable {e : Evj} (h : e.Sound) (hunwrapped : e.oldest ≤ e.newest)
include h hunwrapped

theorem Evj.Sound.stored_lt_newest : e.stored - 1 < e.newest := by
  have hnewest := h.newest_range
  have hmax : maxSeq = 4294967295 := rfl
  have hstored := h.storedMax
  by_contra hge
  rw [h.oldest_eq, predSeq_iterate_of_ge hnewest.1 (by omega) (by omega)] at hunwrapped
  omega

/-- The numbers run from the oldest to the newest. -/
theorem Evj.Sound.oldest_add_stored : e.oldest + e.stored = e.newest + 1 ∧ 1 ≤ e.oldest := by
  have hlt := h.stored_lt_newest hunwrapped
  have hpos := h.storedPos
  rw [h.oldest_eq, predSeq_iterate_of_lt hlt]
  omega

theorem Evj.Sound.seq_of_ring {i : Nat} (hi : i < e.ring.length) : e.ring[i].seq = e.newest - i := by
  have hlt := h.stored_lt_newest hunwrapped
  have hstored : e.stored = e.ring.length := rfl
  rw [numberedFrom_seq h.consecutive (List.getElem?_eq_getElem hi), predSeq_iterate_of_lt (by omega)]

theorem Evj.Sound.readMark_range : e.readMark = 0 ∨ (e.oldest ≤ e.readMark ∧ e.readMark ≤ e.newest) := by
  refine h.readMark.imp_right ?_
  rintro ⟨r, hr, hseq⟩
  obtain ⟨i, hi, rfl⟩ := List.getElem_of_mem hr
  have hsum := (h.oldest_add_stored hunwrapped).1
  have hstored : e.stored = e.ring.length := rfl
  rw [← hseq, h.seq_of_ring hunwrapped hi]
  omega

/-- R158: the stored records from a number on, oldest first. -/
theorem Evj.Sound.recordsFrom_seq {first : Nat} (hfirst : e.oldest ≤ first) (hlast : first ≤ e.newest) (n : Nat) :
    (e.recordsFrom first n).map (·.seq) = (List.range (min n (e.newest - first + 1))).map (first + ·) := by
  obtain ⟨hsum, hpos⟩ := h.oldest_add_stored hunwrapped
  have hstored : e.stored = e.ring.length := rfl
  have hdistance : seqDistance first e.newest = e.newest - first := if_pos hlast
  rw [Evj.recordsFrom, hdistance]
  refine List.ext_getElem (by simp; omega) fun i hi hi' => ?_
  simp only [List.length_map, List.length_take, List.length_reverse] at hi
  rw [List.getElem_map, List.getElem_map, List.getElem_take, List.getElem_reverse, List.getElem_take, h.seq_of_ring hunwrapped,
    List.getElem_range, List.length_take]
  omega

/-! ### A number judged (R150) -/

theorem Evj.Sound.judge_of_stored {x : Nat} (hfirst : e.oldest ≤ x) (hlast : x ≤ e.newest) : e.judge x = .stored := by
  have hsum := (h.oldest_add_stored hunwrapped).1
  have hdistance : seqDistance x e.newest = e.newest - x := if_pos hlast
  exact if_pos (by omega)

theorem Evj.Sound.judge_of_older {x : Nat} (hx : x < e.oldest) (hnear : e.newest - x < 2147483648) : e.judge x = .older := by
  have hsum := (h.oldest_add_stored hunwrapped).1
  have hdistance : seqDistance x e.newest = e.newest - x := if_pos (by omega)
  rw [Evj.judge, if_neg (by omega), if_pos (by omega)]

theorem Evj.Sound.judge_of_beyond {x : Nat} (hx : e.newest < x) (hmax : x ≤ 4294967295) (hnear : x - e.newest ≤ 2147483647) :
    e.judge x = .beyond := by
  have hstored := h.storedMax
  have hdistance : seqDistance x e.newest = e.newest + 4294967295 - x := if_neg (by omega)
  rw [Evj.judge, if_neg (by omega), if_neg (by omega)]

/-! ### The read mark (R157) -/

theorem Evj.Sound.moveMark_of_stored {start : Nat} (hfirst : e.oldest < start) (hlast : start ≤ e.newest) :
    e.moveMark start = { e with readMark := max e.readMark (start - 1) } := by
  have hpos := (h.oldest_add_stored hunwrapped).2
  have hmark := h.readMark_range hunwrapped
  have hcandidate : e.candidate start = start - 1 := by
    simp only [Evj.candidate, if_neg (show start ≠ 0 by omega), h.judge_of_stored hunwrapped hfirst.le hlast,
      if_neg hfirst.ne', predSeq, if_neg (show ¬start ≤ 1 by omega)]
  have hlater : e.laterMark (start - 1) = max e.readMark (start - 1) := by
    have hdistance : seqDistance (start - 1) e.newest = e.newest - (start - 1) := if_pos (by omega)
    rw [Evj.laterMark, if_neg (by omega), hdistance]
    obtain hzero | ⟨hlow, hhigh⟩ := hmark
    · rw [if_pos hzero, hzero]
      exact (max_eq_right (Nat.zero_le _)).symm
    · rw [if_neg (by omega), show seqDistance e.readMark e.newest = e.newest - e.readMark from if_pos hhigh]
      split <;> omega
  rw [Evj.moveMark, hcandidate, hlater]

theorem Evj.Sound.moveMark_of_beyond {start : Nat} (hx : e.newest < start) (hjudged : e.judge start = .beyond) :
    e.moveMark start = { e with readMark := e.newest } := by
  have hnewest := h.newest_range
  have hpos := (h.oldest_add_stored hunwrapped).2
  have hmark := h.readMark_range hunwrapped
  have hcandidate : e.candidate start = e.newest := by
    simp only [Evj.candidate, if_neg (show start ≠ 0 by omega), hjudged]
  have hlater : e.laterMark e.newest = e.newest := by
    rw [Evj.laterMark, if_neg (show e.newest ≠ 0 by omega), show seqDistance e.newest e.newest = e.newest - e.newest from if_pos le_rfl]
    obtain hzero | ⟨hlow, hhigh⟩ := hmark
    · rw [if_pos hzero]
    · rw [if_neg (by omega), show seqDistance e.readMark e.newest = e.newest - e.readMark from if_pos hhigh]
      split <;> omega
  rw [Evj.moveMark, hcandidate, hlater]

end

theorem Evj.moveMark_of_no_candidate {e : Evj} {start : Nat} (h : e.candidate start = 0) : e.moveMark start = e := by
  rw [Evj.moveMark, h, Evj.laterMark, if_pos rfl]

/-! ### The reply (R158 to R160) -/

theorem exec_journalRead_of_empty {s : State} (hslot : s.orh.slot = none) (start count : Nat) :
    exec (.journalRead .unicast start count) s = .next { s.release .i with
      evj := s.evj.moveMark start
      orh := { s.orh with slot := (some
        { code := some 0x50, arrival := (s.captureAt .i).date, content := (s.evj.moveMark start).reply start count, sent := 0
          overrun := false }) } } := by
  have hempty : ¬(s.release .i).orh.slot.isSome = true := by
    rw [State.release_i, hslot]
    decide
  rw [exec_journalRead, State.orderJournalRead, State.reading, if_neg hempty]
  refine congrArg _ ?_
  simp only [State.answer, State.onOrh, State.onEvj, State.release_i, hslot]

theorem Evj.delivered_of_first {e : Evj} {start first : Nat} (h : e.firstAsked start = some first) (n : Nat) :
    e.delivered start n = e.recordsFrom first (takenCount n) := by
  simp only [Evj.delivered, h]

theorem Evj.mem_ring_of_delivered {e : Evj} {start n : Nat} {r : Record} (h : r ∈ e.delivered start n) : r ∈ e.ring := by
  unfold Evj.delivered at h
  split at h
  · exact List.mem_of_mem_take (List.mem_reverse.mp (List.mem_of_mem_take h))
  · simp at h

/-- The reply of a read that delivers from a stored number on. -/
theorem Evj.Sound.reply_of_first {e : Evj} (h : e.Sound) (hunwrapped : e.oldest ≤ e.newest) {start first : Nat}
    (hasked : e.firstAsked start = some first) (hfirst : e.oldest ≤ first) (hlast : first ≤ e.newest) (count : Nat) :
    let taken := max 1 (min 3 count)
    (e.delivered start count).map (·.seq) = (List.range (min taken (e.newest - first + 1))).map (first + ·) ∧
      e.reply start count = .journal
        { asked := start, taken := taken, first := some first, delivered := min taken (e.newest - first + 1), gap := e.gap start
          oldest := e.oldest, newest := e.newest, unread := e.unread, minorRefusals := e.minorRefusals } (e.delivered start count) := by
  intro taken
  have hseqs : (e.delivered start count).map (·.seq) = (List.range (min taken (e.newest - first + 1))).map (first + ·) := by
    rw [Evj.delivered_of_first hasked, h.recordsFrom_seq hunwrapped hfirst hlast]
    rfl
  have hlength : (e.delivered start count).length = min taken (e.newest - first + 1) := by
    rw [← List.length_map (f := (·.seq)), hseqs, List.length_map, List.length_range]
  have hhead : ((e.delivered start count).head?).map (·.seq) = some first := by
    obtain ⟨k, hk⟩ : ∃ k, min taken (e.newest - first + 1) = k + 1 := ⟨min taken (e.newest - first + 1) - 1, by omega⟩
    rw [← List.head?_map, hseqs, hk, List.range_succ_eq_map]
    rfl
  exact ⟨hseqs, by rw [Evj.reply, hhead, hlength]; rfl⟩

/-- Settles O44: the number judged gives the candidate for the read mark and the first record, and the reply follows. -/
theorem journalReadDeliversFromStart : Obligations.JournalReadDeliversFromStart := by
  rintro start count oldest newest s hsound rfl rfl hunwrapped hslot taken
  obtain ⟨hsum, hpos⟩ := hsound.oldest_add_stored hunwrapped
  have hexec := exec_journalRead_of_empty hslot start count
  refine ⟨fun hfirst hlast => ?stored, fun hstart holder hnear => ?older, fun hstart => ?oldest, fun hbeyond hmax hnear => ?beyond⟩
  case stored =>
    have hjudged := hsound.judge_of_stored hunwrapped hfirst.le hlast
    have hasked : s.evj.firstAsked start = some start := by
      simp only [Evj.firstAsked, if_neg (show start ≠ 0 by omega), hjudged]
    have hgap : (s.evj.moveMark start).gap start = false := by
      change s.evj.gap start = false
      simp [Evj.gap, hjudged]
    have hmark := hsound.readMark_range hunwrapped
    have hmove := hsound.moveMark_of_stored hunwrapped hfirst hlast
    have hnewest := hsound.newest_range.2
    obtain ⟨hseqs, hreply⟩ := (hsound.moveMark (start := start) (by omega)).reply_of_first hunwrapped hasked hfirst.le hlast count
    have hunread : (s.evj.moveMark start).unread = s.evj.newest - max s.evj.readMark (start - 1) := by
      rw [hmove]
      exact (if_neg (show max s.evj.readMark (start - 1) ≠ 0 by omega)).trans
        (if_pos (show max s.evj.readMark (start - 1) ≤ s.evj.newest by omega))
    refine ⟨_, _, _, hexec.trans ?_, rfl, hseqs, fun r hr => Evj.mem_ring_of_delivered hr, rfl⟩
    rw [hreply, hunread, hgap, hmove]
    rfl
  case older =>
    have hjudged := hsound.judge_of_older hunwrapped holder hnear
    have hasked : s.evj.firstAsked start = some s.evj.oldest := by
      simp only [Evj.firstAsked, if_neg hstart.ne', hjudged]
    have hgap : s.evj.gap start = true := by simp [Evj.gap, hjudged, hstart.ne']
    have hmove : s.evj.moveMark start = s.evj :=
      Evj.moveMark_of_no_candidate (by simp only [Evj.candidate, if_neg hstart.ne', hjudged])
    obtain ⟨hseqs, hreply⟩ := hsound.reply_of_first hunwrapped hasked le_rfl hunwrapped count
    rw [hmove, hreply, hgap] at hexec
    exact ⟨_, _, hexec, hseqs, rfl, rfl⟩
  case oldest =>
    have hcandidate : s.evj.candidate start = 0 := by
      obtain rfl | rfl := hstart
      · rfl
      · simp only [Evj.candidate, if_neg (show s.evj.oldest ≠ 0 by omega), hsound.judge_of_stored hunwrapped le_rfl hunwrapped, if_true]
    have hasked : s.evj.firstAsked start = some s.evj.oldest := by
      obtain rfl | rfl := hstart
      · rfl
      · simp only [Evj.firstAsked, if_neg (show s.evj.oldest ≠ 0 by omega), hsound.judge_of_stored hunwrapped le_rfl hunwrapped]
    have hgap : s.evj.gap start = false := by
      obtain rfl | rfl := hstart
      · rfl
      · simp [Evj.gap, hsound.judge_of_stored hunwrapped le_rfl hunwrapped]
    obtain ⟨hseqs, hreply⟩ := hsound.reply_of_first hunwrapped hasked le_rfl hunwrapped count
    rw [Evj.moveMark_of_no_candidate hcandidate, hreply, hgap] at hexec
    exact ⟨_, _, hexec, hseqs, fun r hr => Evj.mem_ring_of_delivered hr, rfl⟩
  case beyond =>
    have hjudged := hsound.judge_of_beyond hunwrapped hbeyond hmax hnear
    have hmove := hsound.moveMark_of_beyond hunwrapped hbeyond hjudged
    have hasked : s.evj.firstAsked start = none := by
      simp only [Evj.firstAsked, if_neg (show start ≠ 0 by omega), hjudged]
    have hreply : (s.evj.moveMark start).reply start count = .journal
        { asked := start, taken := taken, first := none, delivered := 0, gap := false, oldest := s.evj.oldest
          newest := s.evj.newest, unread := 0, minorRefusals := s.evj.minorRefusals } [] := by
      have hdelivered : (s.evj.moveMark start).delivered start count = [] := by
        change s.evj.delivered start count = []
        simp only [Evj.delivered, hasked]
      have hgap : (s.evj.moveMark start).gap start = false := by
        change s.evj.gap start = false
        simp [Evj.gap, hjudged]
      have hunread : (s.evj.moveMark start).unread = 0 := by
        rw [hmove]
        exact (if_neg (show s.evj.newest ≠ 0 by omega)).trans ((if_pos le_rfl).trans (Nat.sub_self _))
      rw [Evj.reply, hdelivered, hgap, hunread]
      rfl
    rw [hexec, hreply, hmove]

end Sys2Proof.Machine
end

section
/-! The clock lines: a line evaluated by R169's table, its impulses, its probes, and CLOCK LINE SET (R166 to R182). -/

namespace Sys2Proof.Machine

/-! ### The table of R169, on a line whose dial is known -/

theorem State.ctMs_congr {s t : State} (htbu : t.tbu = s.tbu) : t.ctMs = s.ctMs := by
  rw [State.ctMs, State.ctMs, htbu]

theorem State.runFor_congr {s t : State} (htbu : t.tbu = s.tbu) (horh : t.orh = s.orh) (interval shown : Nat) (atBoundary : Bool) :
    t.runFor interval shown atBoundary = s.runFor interval shown atBoundary := by
  rw [State.runFor, State.runFor, State.ctMs_congr htbu, horh]

theorem State.wantsImpulse_congr {s t : State} (htbu : t.tbu = s.tbu) (horh : t.orh = s.orh) (interval shown : Nat) :
    t.wantsImpulse interval shown = s.wantsImpulse interval shown := by
  rw [State.wantsImpulse, State.wantsImpulse, State.ctMs_congr htbu, horh]

theorem ClockLine.evaluatedAs_congr {s t : State} (htbu : t.tbu = s.tbu) (horh : t.orh = s.orh) (x : ClockLine) (interval shown : Nat)
    (polarity : Polarity) (atBoundary : Bool) :
    x.evaluatedAs t interval shown polarity atBoundary = x.evaluatedAs s interval shown polarity atBoundary := by
  simp only [ClockLine.evaluatedAs, State.runFor_congr htbu horh, State.wantsImpulse_congr htbu horh, htbu, horh]

theorem State.evaluation_eq (s : State) (interval shown : Nat) (atBoundary : Bool) :
    evaluation (dialLag interval s.ctMs shown) (dialPositions interval) s.orh.params.holdLimit atBoundary =
      (s.runFor interval shown atBoundary, s.wantsImpulse interval shown) := by
  simp only [evaluation, State.runFor, State.wantsImpulse]
  split
  · simp [*]
  · split
    · simp [*]
    · have hwants : 0 < dialLag interval s.ctMs shown ∧
          dialLag interval s.ctMs shown < dialPositions interval - s.orh.params.holdLimit := by omega
      split <;> simp only [decide_eq_true hwants]

theorem State.runFor_of_wanted {s : State} {interval shown : Nat} (h : s.wantsImpulse interval shown = true) (atBoundary : Bool) :
    s.runFor interval shown atBoundary = .run ∨ s.runFor interval shown atBoundary = .catchUp := by
  have heq := s.evaluation_eq interval shown atBoundary
  have hcases := evaluation_cases (dialLag interval s.ctMs shown) (dialPositions interval) s.orh.params.holdLimit atBoundary
  rw [heq] at hcases
  obtain hserving | hhold := hcases
  · exact hserving
  · exact absurd ((Prod.mk.inj hhold).2 ▸ h) (by decide)

theorem ClockLine.evaluated_of_dial {x : ClockLine} {interval shown : Nat} (hi : x.interval = some interval) (hx : x.shown = some shown)
    (s : State) (atBoundary : Bool) :
    x.evaluated s.ctMs s.orh.params.holdLimit atBoundary =
      { x with state := s.runFor interval shown atBoundary, wanted := s.wantsImpulse interval shown, noted := false } := by
  simp only [ClockLine.evaluated, hi, hx, s.evaluation_eq]

/-! ### An impulse wanted (R171) -/

theorem ClockLine.startIfDue_of_not {x : ClockLine} {rt : Nat} (h : x.mayStart rt = false) (c : Params) : x.startIfDue rt c = x := by
  rw [ClockLine.startIfDue, h, if_neg (by decide)]

theorem ClockLine.mayStart_eq_decide {x : ClockLine} (hstate : x.state = .run ∨ x.state = .catchUp) (hwanted : x.wanted = true)
    (hflight : x.flight = none) (rt : Nat) : x.mayStart rt = decide (∀ expiry, x.spacing = some expiry → expiry ≤ rt) := by
  have hserving : (decide (x.state = .run) || decide (x.state = .catchUp)) = true := by simpa using hstate
  simp only [ClockLine.mayStart, hserving, hwanted, hflight, Option.isNone_none, Bool.true_and]
  cases x.spacing <;> simp

theorem ClockLine.startIfDue_of_may {x : ClockLine} {rt : Nat} {polarity : Polarity} (h : x.mayStart rt = true)
    (hp : x.polarity = some polarity) (c : Params) :
    x.startIfDue rt c = { x with
      wanted := false
      flight := some { kind := .normal, polarity := polarity, startRt := rt, endRt := rt + c.pulseWidth * 1000 }
      spacing := some (rt + max c.catchUpSpacing (c.pulseWidth + 500) * 1000) } := by
  rw [ClockLine.startIfDue, h, if_pos rfl]
  simp only [ClockLine.started, hp, Option.getD_some]

/-- A line evaluated with no impulse in flight, and the impulse wanted started where it may (R169, R171). -/
theorem ClockLine.startIfDue_evaluated {x : ClockLine} {interval shown : Nat} {polarity : Polarity} (hi : x.interval = some interval)
    (hx : x.shown = some shown) (hp : x.polarity = some polarity) (hflight : x.flight = none) (s : State) (atBoundary : Bool) :
    (x.evaluated s.ctMs s.orh.params.holdLimit atBoundary).startIfDue s.tbu.rt s.orh.params =
      x.evaluatedAs s interval shown polarity atBoundary := by
  rw [ClockLine.evaluated_of_dial hi hx, ClockLine.evaluatedAs]
  cases hwants : s.wantsImpulse interval shown with
  | false =>
    rw [ClockLine.startIfDue_of_not (by simp [ClockLine.mayStart])]
    rfl
  | true =>
    rw [if_pos rfl]
    have hmay := ClockLine.mayStart_eq_decide
      (x := { x with state := s.runFor interval shown atBoundary, wanted := true, noted := false })
      (State.runFor_of_wanted hwants atBoundary) rfl hflight s.tbu.rt
    split
    next hspacing => exact ClockLine.startIfDue_of_may (hmay.trans (decide_eq_true hspacing)) hp _
    next hspacing => exact ClockLine.startIfDue_of_not (hmay.trans (decide_eq_false hspacing)) _

/-! ### A line's record (R182) -/

/-- The fields of a CLOCK LINE record whose dial is known. -/
def State.dialRecord (s : State) (l : ClockLineName) (change : ClockChange) (before after : LineRun) (interval shown : Nat)
    (polarity : Polarity) (sense : Option Sense) : RecordBody :=
  .clockLine
    { line := l, change := change, before := before, after := after, interval := some interval, shown := some shown
      polarity := some polarity, target := some (s.ctMs % 43200000 / (interval * 1000)), lag := some (dialLag interval s.ctMs shown)
      sense := sense }

theorem State.clockRecord_of_dial {s t : State} {l : ClockLineName} {interval shown : Nat} {polarity : Polarity} (htbu : t.tbu = s.tbu)
    (hi : (t.line l).interval = some interval) (hx : (t.line l).shown = some shown) (hp : (t.line l).polarity = some polarity)
    (change : ClockChange) (before : LineRun) (sense : Option Sense) :
    t.clockRecord l change before sense = s.dialRecord l change before (t.line l).state interval shown polarity sense := by
  simp only [State.clockRecord, hi, hx, hp, State.ctMs, htbu]
  rfl

theorem State.clockRecord_not_minor (s : State) (l : ClockLineName) (change : ClockChange) (before : LineRun) (sense : Option Sense) :
    (s.clockRecord l change before sense).cls ≠ .minor := by
  simp [State.clockRecord, RecordBody.cls]

/-! ### An update of a line after another -/

theorem State.onLine_onLine (s : State) (l : ClockLineName) (f g : ClockLine → ClockLine) :
    (s.onLine l f).onLine l g = s.onLine l fun x => g (f x) := by
  cases l <;> rfl

theorem State.onLine_const (s : State) (l : ClockLineName) (f : ClockLine → ClockLine) : s.onLine l f = s.onLine l fun _ => f (s.line l) := by
  cases l <;> rfl

/-- An update of a line reads and leaves neither the journal nor the report queue. -/
theorem State.onLine_with (s : State) (l : ClockLineName) (f : ClockLine → ClockLine) (evj : Evj) (orh : Orh) :
    { s with evj := evj, orh := orh }.onLine l f = { s.onLine l f with evj := evj, orh := orh } := by
  cases l <;> rfl

/-! ### A line of the part evaluated, or set (R169, R170, R178, R179) -/

/-- A line with a known dial and no impulse in flight, evaluated: the STATE record where its state changes, and the impulse wanted. -/
theorem State.evaluateLine_eq {s : State} {l : ClockLineName} {interval shown : Nat} {polarity : Polarity}
    (hflight : (s.line l).flight = none) (hi : (s.line l).interval = some interval) (hx : (s.line l).shown = some shown)
    (hp : (s.line l).polarity = some polarity) (atBoundary : Bool) :
    s.evaluateLine l atBoundary =
      { s.onLine l (fun _ => (s.line l).evaluatedAs s interval shown polarity atBoundary) with
        evj :=
          if s.runFor interval shown atBoundary = (s.line l).state then s.evj
          else s.evj.store
            (s.dialRecord l .state (s.line l).state (s.runFor interval shown atBoundary) interval shown polarity none) s.now {} } := by
  have heval := ClockLine.evaluated_of_dial hi hx s atBoundary
  rw [State.evaluateLine, State.onLine_const s l fun x => x.evaluated s.ctMs s.orh.params.holdLimit atBoundary,
    ← ClockLine.startIfDue_evaluated hi hx hp hflight]
  rw [heval]
  simp only [State.line_onLine]
  split
  · rw [State.startLine, State.onLine_onLine]
    cases l <;> rfl
  · rw [State.write_of_not_minor (State.clockRecord_not_minor _ _ _ _ _),
      State.clockRecord_of_dial (s := s) (by simp) (by simpa using hi) (by simpa using hx) (by simpa using hp), State.line_onLine]
    cases l <;> rfl

/-- A CLOCK LINE SET with run applied with no impulse in flight: its values, the evaluation with them, and the SET record (R178, R182). -/
theorem State.applySet_run_eq {s : State} {l : ClockLineName} (hflight : (s.line l).flight = none) (interval shown : Nat)
    (polarity : Polarity) :
    s.applySet l (.run interval shown polarity) =
      { s.onLine l (fun _ => ((s.line l).setRun interval shown polarity).evaluatedAs s interval shown polarity false) with
        evj := s.evj.store
          (s.dialRecord l .set (s.line l).state (s.runFor interval shown false) interval shown polarity none) s.now {} } := by
  have heval := ClockLine.evaluated_of_dial (x := (s.line l).setRun interval shown polarity) rfl rfl s false
  rw [State.applySet, State.onLine_const s l fun x => (x.setRun interval shown polarity).evaluated s.ctMs s.orh.params.holdLimit false,
    ← ClockLine.startIfDue_evaluated (x := (s.line l).setRun interval shown polarity) rfl rfl rfl hflight, heval]
  dsimp only
  rw [State.write_of_not_minor (State.clockRecord_not_minor _ _ _ _ _),
    State.clockRecord_of_dial (s := s) (interval := interval) (shown := shown) (polarity := polarity) (by simp) (by simp; rfl)
      (by simp; rfl) (by simp; rfl), State.line_onLine]
  cases l <;> rfl

end Sys2Proof.Machine
end

section
/-! The completion of an impulse, and the clock lines' evaluation (R169 to R177). -/

namespace Sys2Proof.Machine

/-! ### A set held (R180) -/

theorem State.applyPendingSet_of_none {s : State} {l : ClockLineName} (h : (s.line l).pendingSet = none) : s.applyPendingSet l = s := by
  rw [State.applyPendingSet, h]

theorem State.applyPendingSet_of_some {s : State} {l : ClockLineName} {set : ClockSet} (h : (s.line l).pendingSet = some set) :
    s.applyPendingSet l = (s.onLine l fun x => { x with pendingSet := none }).applySet l set := by
  rw [State.applyPendingSet, h]

/-! ### What completes, by kind and sense (R172, R174, R175, R177) -/

theorem State.completeImpulse_of_normal_ok {impulse : Impulse} (h : impulse.kind = .normal) (s : State) (l : ClockLineName) :
    s.completeImpulse l impulse .ok = (s.onLine l fun x => x.landed .ok).normalOk l := by
  simp only [State.completeImpulse, h]
  rfl

theorem State.completeImpulse_of_normal_failed {impulse : Impulse} (h : impulse.kind = .normal) {sense : Sense}
    (hsense : sense = .openCircuit ∨ sense = .shortCircuit) (s : State) (l : ClockLineName) :
    s.completeImpulse l impulse sense = (s.onLine l fun x => x.landed sense).normalFailed l sense := by
  obtain rfl | rfl := hsense <;> simp only [State.completeImpulse, h] <;> rfl

theorem State.completeImpulse_of_probe_ok {impulse : Impulse} (h : impulse.kind = .probe) (s : State) (l : ClockLineName) :
    s.completeImpulse l impulse .ok = (s.onLine l fun x => x.landed .ok).probeOk l := by
  simp only [State.completeImpulse, h]
  rfl

theorem State.completeImpulse_of_probe_failed {impulse : Impulse} (h : impulse.kind = .probe) {sense : Sense}
    (hsense : sense = .openCircuit ∨ sense = .shortCircuit) (s : State) (l : ClockLineName) :
    s.completeImpulse l impulse sense = (s.onLine l fun x => x.landed sense).probeFailed l := by
  obtain rfl | rfl := hsense <;> simp only [State.completeImpulse, h] <;> rfl

theorem exec_impulseCompletion_of_due {s : State} {l : ClockLineName} {impulse : Impulse} (hflight : (s.line l).flight = some impulse)
    (hdue : impulse.endRt ≤ s.tbu.rt) (sense : Sense) :
    exec (.impulseCompletion l sense) s = .next ((s.withSense l sense).completeImpulse l impulse sense) := by
  simp only [exec_impulseCompletion, execImpulseCompletion, hflight, if_pos hdue]
  cases l <;> rfl

theorem ClockLine.stepped_of_dial {x : ClockLine} {interval shown : Nat} {polarity : Polarity} (hi : x.interval = some interval)
    (hx : x.shown = some shown) (hp : x.polarity = some polarity) :
    x.stepped = { x with shown := some (nextPosition interval shown), polarity := some polarity.flip } := by
  simp only [ClockLine.stepped, hi, hx, hp, Option.map_some]

/-! ### A NORMAL impulse (R174, R175) -/

theorem State.normalOk_of_held {s : State} {l : ClockLineName} {set : ClockSet} (h : (s.line l).pendingSet = some set) :
    s.normalOk l = ((s.onLine l ClockLine.stepped).onLine l fun x => { x with pendingSet := none }).applySet l set := by
  have hset : ((s.onLine l ClockLine.stepped).line l).pendingSet = some set := by rw [State.line_onLine]; exact h
  simp only [State.normalOk, hset]
  exact State.applyPendingSet_of_some hset

theorem State.normalOk_of_free {s : State} {l : ClockLineName} (h : (s.line l).pendingSet = none) :
    s.normalOk l = (s.onLine l ClockLine.stepped).evaluateLine l (s.line l).noted := by
  have hset : ((s.onLine l ClockLine.stepped).line l).pendingSet = none := by rw [State.line_onLine]; exact h
  simp only [State.normalOk, hset]
  rw [State.line_onLine]
  rfl

/-- The line after a NORMAL impulse that failed (R175). -/
def ClockLine.faulted (x : ClockLine) (probe : Nat) : ClockLine :=
  { x with state := .fault, wanted := false, noted := false, probe := some probe }

theorem State.normalFailed_eq {s : State} {l : ClockLineName} {interval shown : Nat} {polarity : Polarity}
    (hi : (s.line l).interval = some interval) (hx : (s.line l).shown = some shown) (hp : (s.line l).polarity = some polarity)
    (sense : Sense) :
    s.normalFailed l sense =
      ({ s.onLine l fun x => x.faulted (s.tbu.rt + s.orh.params.probePeriod * 1000000) with
        evj := s.evj.store (s.dialRecord l .fault (s.line l).state .fault interval shown polarity (some sense)) s.now {}
        orh := s.orh.raise
          { kind := .clockLineFault, priority := 0, seq := s.evj.next, date := s.now, flags := {}
            summary := .ofRecord (s.dialRecord l .fault (s.line l).state .fault interval shown polarity (some sense)) } } :
        State).applyPendingSet l := by
  rw [State.normalFailed, State.writeReport_of_not_minor (State.clockRecord_not_minor _ _ _ _ _),
    State.clockRecord_of_dial (s := s) (by simp) (by simpa using hi) (by simpa using hx) (by simpa using hp), State.line_onLine]
  cases l <;> rfl

/-! ### A PROBE impulse (R177) -/

/-- The line that a probe with sense OK takes out of FAULT, its clocks one on, before an impulse wanted starts (R177). -/
def ClockLine.recoveredAs (x : ClockLine) (s : State) (interval shown : Nat) (polarity : Polarity) : ClockLine :=
  { x with
    shown := some shown, polarity := some polarity, state := s.runFor interval shown x.noted, wanted := s.wantsImpulse interval shown
    noted := false }

theorem ClockLine.evaluated_stepped {x : ClockLine} {interval shown : Nat} {polarity : Polarity} (hi : x.interval = some interval)
    (hx : x.shown = some shown) (hp : x.polarity = some polarity) (s : State) :
    x.stepped.evaluated s.ctMs s.orh.params.holdLimit x.noted = x.recoveredAs s interval (nextPosition interval shown) polarity.flip := by
  rw [ClockLine.stepped_of_dial hi hx hp]
  exact ClockLine.evaluated_of_dial
    (x := { x with shown := some (nextPosition interval shown), polarity := some polarity.flip }) hi rfl s x.noted

theorem ClockLine.startIfDue_recoveredAs {x : ClockLine} {interval : Nat} (hi : x.interval = some interval) (hflight : x.flight = none)
    (s : State) (shown : Nat) (polarity : Polarity) :
    (x.recoveredAs s interval shown polarity).startIfDue s.tbu.rt s.orh.params =
      { x with shown := some shown, polarity := some polarity }.evaluatedAs s interval shown polarity x.noted := by
  have heval := ClockLine.evaluated_of_dial (x := { x with shown := some shown, polarity := some polarity }) hi rfl s x.noted
  rw [← ClockLine.startIfDue_evaluated (x := { x with shown := some shown, polarity := some polarity }) hi rfl rfl hflight, heval,
    ClockLine.recoveredAs]

/-- The RECOVERED record and report of a line at this instant, the line put at `y` (R182). -/
def State.recoveredWith (s : State) (l : ClockLineName) (y : ClockLine) (interval shown : Nat) (polarity : Polarity) : State :=
  let recovered := s.dialRecord l .recovered (s.line l).state (s.runFor interval shown (s.line l).noted) interval shown polarity none
  { s.onLine l fun _ => y with
    evj := s.evj.store recovered s.now {}
    orh := s.orh.raise
      { kind := .clockLineRecovered, priority := 3, seq := s.evj.next, date := s.now, flags := {}, summary := .ofRecord recovered } }

theorem State.line_recoveredWith (s : State) (l : ClockLineName) (y : ClockLine) (interval shown : Nat) (polarity : Polarity) :
    (s.recoveredWith l y interval shown polarity).line l = y := by
  cases l <;> rfl

theorem State.startLine_recoveredWith (s : State) (l : ClockLineName) (y : ClockLine) (interval shown : Nat) (polarity : Polarity) :
    (s.recoveredWith l y interval shown polarity).startLine l =
      s.recoveredWith l (y.startIfDue s.tbu.rt s.orh.params) interval shown polarity := by
  have hparams : (s.recoveredWith l y interval shown polarity).orh.params = s.orh.params := by simp [State.recoveredWith]
  have hrt : (s.recoveredWith l y interval shown polarity).tbu.rt = s.tbu.rt := by simp [State.recoveredWith]
  rw [State.startLine, hparams, hrt]
  cases l <;> rfl

/-- The line evaluated out of FAULT, RECOVERED recorded and reported. -/
theorem State.writeRecovered_eq {s : State} {l : ClockLineName} {interval shown : Nat} {polarity : Polarity}
    (hi : (s.line l).interval = some interval) (hx : (s.line l).shown = some shown) (hp : (s.line l).polarity = some polarity) :
    let t := s.onLine l fun x => x.stepped.evaluated s.ctMs s.orh.params.holdLimit x.noted
    t.writeReport (t.clockRecord l .recovered (s.line l).state none) t.now .clockLineRecovered =
      s.recoveredWith l ((s.line l).recoveredAs s interval (nextPosition interval shown) polarity.flip) interval
        (nextPosition interval shown) polarity.flip := by
  have hline : s.onLine l (fun x => x.stepped.evaluated s.ctMs s.orh.params.holdLimit x.noted) =
      s.onLine l fun _ => (s.line l).recoveredAs s interval (nextPosition interval shown) polarity.flip := by
    rw [State.onLine_const, ClockLine.evaluated_stepped hi hx hp]
  intro t
  have ht : t = s.onLine l fun _ => (s.line l).recoveredAs s interval (nextPosition interval shown) polarity.flip := hline
  have htbu : t.tbu = s.tbu := by simp [t]
  have hl : t.line l = (s.line l).recoveredAs s interval (nextPosition interval shown) polarity.flip := by rw [ht, State.line_onLine]
  rw [State.writeReport_of_not_minor (State.clockRecord_not_minor _ _ _ _ _),
    State.clockRecord_of_dial (s := s) htbu (by rw [hl]; exact hi) (by rw [hl]; rfl) (by rw [hl]; rfl), hl, ht]
  cases l <;> rfl

theorem State.probeOk_of_held {s : State} {l : ClockLineName} {interval shown : Nat} {polarity : Polarity} {set : ClockSet}
    (hi : (s.line l).interval = some interval) (hx : (s.line l).shown = some shown) (hp : (s.line l).polarity = some polarity)
    (hset : (s.line l).pendingSet = some set) :
    s.probeOk l = (s.recoveredWith l ((s.line l).recoveredAs s interval (nextPosition interval shown) polarity.flip) interval
      (nextPosition interval shown) polarity.flip).applyPendingSet l := by
  have hheld : ((s.line l).recoveredAs s interval (nextPosition interval shown) polarity.flip).pendingSet = some set := hset
  simp only [State.probeOk, State.writeRecovered_eq hi hx hp, State.line_recoveredWith, hheld]

theorem State.probeOk_of_free {s : State} {l : ClockLineName} {interval shown : Nat} {polarity : Polarity}
    (hi : (s.line l).interval = some interval) (hx : (s.line l).shown = some shown) (hp : (s.line l).polarity = some polarity)
    (hset : (s.line l).pendingSet = none) :
    s.probeOk l = (s.recoveredWith l ((s.line l).recoveredAs s interval (nextPosition interval shown) polarity.flip) interval
      (nextPosition interval shown) polarity.flip).startLine l := by
  have hfree : ((s.line l).recoveredAs s interval (nextPosition interval shown) polarity.flip).pendingSet = none := hset
  simp only [State.probeOk, State.writeRecovered_eq hi hx hp, State.line_recoveredWith, hfree]

/-! ### What settles the statement -/

/-- A line in service with no impulse in flight is evaluated at its boundary and at an announcement (R170, R181). -/
theorem evaluated_at_boundary_and_announcement {l : ClockLineName} {s : State}
    (hstate : (s.line l).state = .run ∨ (s.line l).state = .catchUp ∨ (s.line l).state = .hold) (hflight : (s.line l).flight = none) :
    (s.boundaryDue l = true → exec (.intervalBoundary l) s = .next ((s.takeBoundary l).evaluateLine l true)) ∧
      s.announceToLine l = s.evaluateLine l false := by
  have hserving : (s.line l).inService = true := by obtain h | h | h := hstate <;> simp only [ClockLine.inService, h]
  constructor
  · intro hdue
    simp only [exec_intervalBoundary, execIntervalBoundary, if_pos hdue, hflight, hserving, Option.isSome_none, Bool.false_eq_true,
      if_false, if_true]
  · rw [State.announceToLine, ClockLine.answersAnnouncement, hserving, hflight]
    rfl

theorem exec_timeSet_announces (m : Manner) {ms offset : Nat} {s : State} (hms : ms ≤ 5662310399999) (hoffset : offset ≤ 120)
    (hplanes : s.ttc.planes = none) (hactive : s.ttc.active = false) :
    exec (.timeSet m ms offset) s = .next ((s.release .i).setClock ms offset).announceToLines := by
  rw [exec_timeSet, State.orderTimeSet, if_pos ⟨hms, hoffset⟩, State.setTime_eq, State.announce,
    State.announceToTtc_of_no_planes (by simpa using hplanes) (fun _ => by simpa using hactive)]

/-- Both lines take an announcement, in one order or the other, after a choice or none (R173, entry 4). -/
theorem State.announceToLines_cases (s : State) : ∃ n,
    let t := { s with clk := { s.clk with choices := n } }
    s.announceToLines = (t.announceToLine .a).announceToLine .b ∨ s.announceToLines = (t.announceToLine .b).announceToLine .a := by
  unfold State.announceToLines
  split
  · refine ⟨s.clk.choices + 1, ?_⟩
    dsimp only
    split
    · exact .inl rfl
    · exact .inr rfl
  · exact ⟨s.clk.choices, .inl rfl⟩

/-- Settles O48: a clock line evaluated at its boundary and at a time change, and an impulse completed, by its kind and its sense. -/
theorem clockLineIsEvaluatedAndCompletes : Obligations.ClockLineIsEvaluatedAndCompletes := by
  refine ⟨fun l s => ⟨?_, ?_, ?_⟩, ?_⟩
  · intro interval shown polarity hstate hflight hi hx hp evaluated
    obtain ⟨hboundary, hannounce⟩ := evaluated_at_boundary_and_announcement hstate hflight
    refine ⟨fun hdue => ?_, ?_⟩
    · rw [hboundary hdue, State.evaluateLine_eq (by simpa using hflight) (by simpa using hi) (by simpa using hx) (by simpa using hp)]
      cases l <;> rfl
    · rw [hannounce, State.evaluateLine_eq hflight hi hx hp]
      rfl
  · intro hsilent
    exact State.announceToLine_of_silent
      (ClockLine.answersAnnouncement_eq_false (hsilent.imp_right (Or.imp_right Option.isSome_iff_ne_none.mp)))
  · intro m ms offset hms hoffset hplanes hactive hscheduled body date
    obtain ⟨n, horder⟩ := State.announceToLines_cases ((s.release .i).setClock ms offset)
    refine ⟨n, ?_⟩
    intro set
    have hset : set = { (s.release .i).setClock ms offset with clk := { s.clk with choices := n } } := by
      rw [State.setClock_eq]
      simp only [State.release_i, Tbu.set, hscheduled]
      rfl
    rw [exec_timeSet_announces m hms hoffset hplanes hactive, hset]
    simpa using horder
  · intro l interval shown polarity impulse sense s x hflight hdue hi hx hp read ended shown' polarity' stepped probe held body reported
    have hexec := exec_impulseCompletion_of_due hflight hdue sense
    let landed := (s.withSense l sense).onLine l fun x => x.landed sense
    have hline : landed.line l = x.landed sense := by rw [State.line_onLine, State.line_withSense]
    have hi' : (landed.line l).interval = some interval := by rw [hline]; exact hi
    have hx' : (landed.line l).shown = some shown := by rw [hline]; exact hx
    have hp' : (landed.line l).polarity = some polarity := by rw [hline]; exact hp
    have hset' : (landed.line l).pendingSet = x.pendingSet := by rw [hline]; rfl
    have hstep := ClockLine.stepped_of_dial hi' hx' hp'
    have hheld : ∀ t : State, (t.line l).pendingSet = x.pendingSet → t.applyPendingSet l = held t := by
      intro t ht
      cases hset : x.pendingSet with
      | none => simp only [held, hset, State.applyPendingSet_of_none (ht.trans hset)]
      | some set => simp only [held, hset, State.applyPendingSet_of_some (ht.trans hset)]
    refine ⟨fun hkind hok => ?_, fun hkind hfail => ?_, fun hkind hok => ?_, fun hkind hfail => ?_⟩
    · subst hok
      rw [State.completeImpulse_of_normal_ok hkind] at hexec
      refine ⟨fun set hset => ?_, fun hset _ => ?_⟩
      · rw [hexec, State.normalOk_of_held (hset'.trans hset), State.onLine_const landed, hstep]
        simp only [held, hset]
        cases l <;> rfl
      · rw [hexec, State.normalOk_of_free (hset'.trans hset), State.onLine_const landed, hstep,
          State.evaluateLine_eq (interval := interval) (shown := shown') (polarity := polarity') (by rw [State.line_onLine, hline]; rfl)
            (by rw [State.line_onLine]; exact hi') (by rw [State.line_onLine]; rfl) (by rw [State.line_onLine]; cases polarity <;> rfl)]
        cases l <;> rfl
    · rw [State.completeImpulse_of_normal_failed hkind hfail, State.normalFailed_eq hi' hx' hp'] at hexec
      refine hexec.trans (congrArg _ ((hheld _ ?_).trans (congrArg held ?_)))
      · cases l <;> rfl
      · cases l <;> rfl
    · subst hok
      rw [State.completeImpulse_of_probe_ok hkind] at hexec
      refine ⟨fun set hset => ?_, fun hset => ?_⟩
      · rw [State.probeOk_of_held hi' hx' hp' (hset'.trans hset)] at hexec
        refine hexec.trans (congrArg _ ((hheld _ ?_).trans (congrArg held ?_)))
        · cases l <;> rfl
        · cases l <;> rfl
      · rw [hexec, State.probeOk_of_free hi' hx' hp' (hset'.trans hset), State.startLine_recoveredWith,
          ClockLine.startIfDue_recoveredAs hi' (by rw [hline]; rfl)]
        cases l <;> rfl
    · rw [State.completeImpulse_of_probe_failed hkind hfail, State.probeFailed] at hexec
      refine hexec.trans (congrArg _ ((hheld _ ?_).trans (congrArg held ?_)))
      · cases l <;> rfl
      · cases l <;> rfl

end Sys2Proof.Machine
end

section
/-! Impulses that start and complete, and CLOCK LINE SET (R166, R171 to R180). -/

namespace Sys2Proof.Machine

/-! ### The codes of an order's fields -/

theorem clockLineOf_code (l : ClockLineName) : clockLineOf (clockLineCode l) = some l := by cases l <;> rfl

theorem clockLineOf_eq_none {line : Nat} (h : 1 < line) : clockLineOf line = none := by
  match line, h with
  | _ + 2, _ => rfl

theorem polarityOf_eq_none {polarity : Nat} (h : 1 < polarity) : polarityOf polarity = none := by
  match polarity, h with
  | _ + 2, _ => rfl

/-! ### An impulse in flight (R170 to R172) -/

/-- A boundary that comes with an impulse in flight is noted (R170). -/
theorem exec_intervalBoundary_in_flight {s : State} {l : ClockLineName} (hdue : s.boundaryDue l = true)
    (hflight : (s.line l).flight.isSome = true) (hstate : (s.line l).state ≠ .stopped) :
    exec (.intervalBoundary l) s = .next ((s.takeBoundary l).onLine l fun x => { x with noted := true }) := by
  have hnoting : ((s.line l).inService || decide ((s.line l).state = .fault)) = true := by
    cases hl : (s.line l).state with
    | stopped => exact absurd hl hstate
    | _ => simp [ClockLine.inService, hl]
  simp only [exec_intervalBoundary, execIntervalBoundary, if_pos hdue, if_pos hflight, hnoting, if_true]

/-- A probe starts with the next polarity at the probe expiry (R176). -/
theorem exec_probeExpiry_of_due {s : State} {l : ClockLineName} {polarity : Polarity} {expiry : Nat} (hstate : (s.line l).state = .fault)
    (hp : (s.line l).polarity = some polarity) (hflight : (s.line l).flight = none) (hprobe : (s.line l).probe = some expiry)
    (hdue : expiry ≤ s.tbu.rt) :
    exec (.probeExpiry l) s = .next (s.onLine l fun x => { x with
      probe := none
      flight := some { kind := .probe, polarity := polarity, startRt := s.tbu.rt, endRt := s.tbu.rt + s.orh.params.pulseWidth * 1000 }
      spacing := some (s.tbu.rt + max s.orh.params.catchUpSpacing (s.orh.params.pulseWidth + 500) * 1000) }) := by
  have hprobeDue : s.probeDue l = true := by simp only [State.probeDue, hstate, hflight, hprobe, decide_eq_true hdue]; decide
  rw [exec_probeExpiry, execProbeExpiry, if_pos hprobeDue, State.onLine_const,
    State.onLine_const s l fun x => { x with probe := none, flight := _, spacing := _ }]
  simp only [ClockLine.started, hp, Option.getD_some]

/-! ### An evaluation that starts an impulse, and one that wants none (R169, R171) -/

theorem ClockLine.evaluatedAs_of_started {x : ClockLine} {s : State} {interval shown : Nat} (hwants : s.wantsImpulse interval shown = true)
    (hpast : ∀ expiry, x.spacing = some expiry → expiry ≤ s.tbu.rt) (polarity : Polarity) (atBoundary : Bool) :
    x.evaluatedAs s interval shown polarity atBoundary = { x with
      state := s.runFor interval shown atBoundary, noted := false, wanted := false
      flight := some { kind := .normal, polarity := polarity, startRt := s.tbu.rt, endRt := s.tbu.rt + s.orh.params.pulseWidth * 1000 }
      spacing := some (s.tbu.rt + max s.orh.params.catchUpSpacing (s.orh.params.pulseWidth + 500) * 1000) } := by
  unfold ClockLine.evaluatedAs
  dsimp only
  rw [if_pos hwants, if_pos hpast]

theorem ClockLine.evaluatedAs_of_unwanted {s : State} {interval shown : Nat} (hwants : s.wantsImpulse interval shown = false)
    (x : ClockLine) (polarity : Polarity) (atBoundary : Bool) :
    x.evaluatedAs s interval shown polarity atBoundary =
      { x with state := s.runFor interval shown atBoundary, noted := false, wanted := false } := by
  unfold ClockLine.evaluatedAs
  dsimp only
  rw [hwants, if_neg (by decide)]

/-- Settles O45: an impulse at an interval boundary, a boundary noted, and an impulse that waited for the spacing. -/
theorem impulsesStart : Obligations.ImpulsesStart := by
  refine ⟨fun interval shown polarity s hdue => ⟨?_, ?_⟩, fun expiry polarity s hstate hwanted hflight hspacing hp => ⟨?_, ?_⟩⟩
  · intro hstate hflight hi hx hp hlag hhold hpast
    have hrun : s.runFor interval shown true = .run := by
      simp only [State.runFor, hlag]
      rw [if_neg (by decide), if_neg (by omega)]
      rfl
    have hwants : s.wantsImpulse interval shown = true := by
      simp only [State.wantsImpulse, hlag]
      exact decide_eq_true ⟨by omega, by omega⟩
    obtain ⟨hboundary, -⟩ := clockLineIsEvaluatedAndCompletes.1 .a s
    obtain ⟨hexec, -⟩ := hboundary interval shown polarity (.inl hstate) hflight hi hx hp
    have heval := ClockLine.evaluatedAs_of_started (x := s.line .a) hwants hpast polarity true
    have hsame : s.runFor interval shown true = (s.line .a).state := hrun.trans hstate.symm
    rw [hexec hdue]
    dsimp only
    rw [if_pos hsame, heval, hsame]
    rfl
  · intro hflight hstate
    rw [exec_intervalBoundary_in_flight hdue hflight hstate]
    rfl
  · intro hdue
    have hmay := (ClockLine.mayStart_eq_decide hstate hwanted hflight s.tbu.rt).trans
      (decide_eq_true fun x hx => Option.some.inj (hspacing.symm.trans hx) ▸ hdue)
    rw [exec_spacingExpiry, State.startLine, State.onLine_const]
    exact congrArg (fun y => Host.Outcome.next (s.onLine .b fun _ => y)) (ClockLine.startIfDue_of_may hmay hp s.orh.params)
  · intro hearly
    have hmay := (ClockLine.mayStart_eq_decide hstate hwanted hflight s.tbu.rt).trans
      (decide_eq_false fun hall => absurd (hall expiry hspacing) (by omega))
    rw [exec_spacingExpiry, State.startLine, State.onLine_const]
    exact congrArg (fun y => Host.Outcome.next (s.onLine .b fun _ => y)) (ClockLine.startIfDue_of_not hmay s.orh.params)

/-- Settles O46: a NORMAL impulse of line A in RUN, and a probe of either line. -/
theorem impulsesComplete : Obligations.ImpulsesComplete := by
  refine ⟨fun interval shown polarity impulse s hstate hflight hkind hdue hi hx hp hset => ?_, fun l polarity s => ?_⟩
  · refine ⟨fun hlag => ?_, fun sense hsense => ?_⟩
    · obtain ⟨hok, -⟩ := clockLineIsEvaluatedAndCompletes.2 .a interval shown polarity impulse .ok s hflight hdue hi hx hp
      obtain ⟨-, hexec⟩ := hok hkind rfl
      have hsame : ∀ atBoundary, s.runFor interval ((shown + 1) % dialPositions interval) atBoundary = (s.line .a).state := by
        intro atBoundary
        simp only [State.runFor, hlag, if_true]
        exact hstate.symm
      have hwants : s.wantsImpulse interval ((shown + 1) % dialPositions interval) = false := by
        simp only [State.wantsImpulse, hlag]
        rfl
      rw [hexec hset (.inl hstate)]
      dsimp only
      rw [ClockLine.evaluatedAs_of_unwanted hwants, hsame, if_pos rfl]
      rfl
    · obtain ⟨-, hfailed, -⟩ := clockLineIsEvaluatedAndCompletes.2 .a interval shown polarity impulse sense s hflight hdue hi hx hp
      have hexec := hfailed hkind hsense
      have hpending : (s.line .a).pendingSet = none := hset
      have hrun : (s.line .a).state = .run := hstate
      simp only [hpending, hrun] at hexec
      dsimp only
      rw [hset]
      exact hexec
  · intro x put hstate hp
    refine ⟨fun expiry hflight hprobe hdue => ?_, fun impulse sense hflight hkind hdue hset hsense => ?_⟩
    · rw [exec_probeExpiry_of_due hstate hp hflight hprobe hdue]
      cases l <;> rfl
    · rw [exec_impulseCompletion_of_due hflight hdue, State.completeImpulse_of_probe_failed hkind hsense, State.probeFailed]
      refine congrArg _ ((State.applyPendingSet_of_none ?_).trans ?_)
      · cases l <;> exact hset
      · cases l <;> rfl

/-! ### CLOCK LINE SET (R178 to R180) -/

theorem State.takeSet_of_flight {s : State} {l : ClockLineName} (h : (s.line l).flight.isSome = true) (set : ClockSet) :
    s.takeSet l set = s.onLine l fun x => { x with pendingSet := some set } := by
  rw [State.takeSet, if_pos h]

theorem State.takeSet_of_no_flight {s : State} {l : ClockLineName} (h : (s.line l).flight = none) (set : ClockSet) :
    s.takeSet l set = s.applySet l set := by
  rw [State.takeSet, h]
  rfl

/-- A run whose dial and polarity are good is refused STATE in UNSET alone (R178). -/
theorem State.orderSetRun_of_dial {interval shown polarity : Nat} {p : Polarity} (hdial : dialHas interval shown)
    (hpolarity : polarityOf polarity = some p) (s : State) (m : Manner) (c : Capture) (l : ClockLineName) :
    s.orderSetRun m c (clockLineCode l) interval shown polarity =
      if s.tbu.timeState = .unset then s.refuse m 0x60 c.date .state else s.takeSet l (.run interval shown p) := by
  rw [State.orderSetRun, clockLineOf_code, hpolarity]
  exact if_pos hdial

theorem exec_clockLineSetRun_of_dial {interval shown polarity : Nat} {p : Polarity} (hdial : dialHas interval shown)
    (hpolarity : polarityOf polarity = some p) {s : State} (hset : s.tbu.timeState ≠ .unset) (m : Manner) (l : ClockLineName) :
    exec (.clockLineSetRun m (clockLineCode l) interval shown polarity) s =
      .next ((s.release .i).takeSet l (.run interval shown p)) := by
  rw [exec_clockLineSetRun, State.orderSetRun_of_dial hdial hpolarity, if_neg (by simpa using hset)]

theorem State.orderSetRun_of_bad {line interval shown polarity : Nat} (h : 1 < line ∨ ¬ dialHas interval shown ∨ 1 < polarity)
    (s : State) (m : Manner) (c : Capture) : s.orderSetRun m c line interval shown polarity = s.refuse m 0x60 c.date .range := by
  simp only [State.orderSetRun]
  obtain hline | hdial | hpolarity := h
  · rw [clockLineOf_eq_none hline]
  · split
    · exact if_neg hdial
    · rfl
  · rw [polarityOf_eq_none hpolarity]
    split
    · contradiction
    · rfl

/-- A stop with no impulse in flight: STOPPED, and the SET record with the dial as it stands (R179, R182). -/
theorem State.applySet_stop_eq (s : State) (l : ClockLineName) :
    s.applySet l .stop =
      { s.onLine l ClockLine.setStop with
        evj := s.evj.store ((s.onLine l ClockLine.setStop).clockRecord l .set (s.line l).state none) s.now {} } := by
  rw [State.applySet]
  dsimp only
  rw [State.write_of_not_minor (State.clockRecord_not_minor _ _ _ _ _)]
  cases l <;> rfl

/-- Settles O47: CLOCK LINE SET with run and with stop, and the outputs. -/
theorem clockLineSetRunsOrStops : Obligations.ClockLineSetRunsOrStops := by
  refine ⟨fun m l s => ⟨?_, ?_, ?_, ?_, ?_⟩, fun l s => ⟨?_, ?_, ?_⟩⟩
  · intro interval shown polarity p hdial hpolarity
    refine ⟨fun hstate hflight => ?_, fun hstate hflight => ?_, fun hstate => ?_⟩
    · have happlied := exec_clockLineSetRun_of_dial hdial hpolarity hstate m l
      rw [State.takeSet_of_no_flight (by cases l <;> exact hflight)] at happlied
      refine ⟨?_, happlied⟩
      rw [happlied, State.applySet_run_eq (by cases l <;> exact hflight)]
      cases l <;> rfl
    · rw [exec_clockLineSetRun_of_dial hdial hpolarity hstate, State.takeSet_of_flight (by cases l <;> exact hflight)]
    · rw [exec_clockLineSetRun, State.orderSetRun_of_dial hdial hpolarity, if_pos (by simpa using hstate)]
  · intro line interval shown polarity hbad
    rw [exec_clockLineSetRun, State.orderSetRun_of_bad]
    obtain hline | hinterval | ⟨rfl, hshown⟩ | ⟨rfl, hshown⟩ | hpolarity := hbad
    · exact .inl hline
    · exact .inr (.inl fun ⟨hdial, _⟩ => by omega)
    · exact .inr (.inl fun ⟨_, hdial⟩ => absurd hdial (Nat.not_lt.mpr hshown))
    · exact .inr (.inl fun ⟨_, hdial⟩ => absurd hdial (Nat.not_lt.mpr hshown))
    · exact .inr (.inr hpolarity)
  · intro hflight body
    have happlied : exec (.clockLineSetStop m (clockLineCode l)) s = .next ((s.release .i).applySet l .stop) := by
      rw [exec_clockLineSetStop, State.orderSetStop, clockLineOf_code]
      exact congrArg _ (State.takeSet_of_no_flight (by cases l <;> exact hflight) .stop)
    refine ⟨?_, happlied⟩
    rw [happlied, State.applySet_stop_eq]
    cases l <;> rfl
  · intro hflight
    rw [exec_clockLineSetStop, State.orderSetStop, clockLineOf_code]
    exact congrArg _ (State.takeSet_of_flight (by cases l <;> exact hflight) .stop)
  · intro line hline
    rw [exec_clockLineSetStop, State.orderSetStop, clockLineOf_eq_none hline]
  · intro i hi
    rw [State.output, ClockLine.drive, hi]
    rfl
  · intro hflight
    rw [State.output, ClockLine.drive, hflight]
    rfl
  · intro straps rate
    refine ⟨_, rfl, ?_⟩
    cases l <;> rfl

end Sys2Proof.Machine
end

section
/-! An order's payload: its bytes read back, and its owner (R185, R202, R205). -/

namespace Sys2Proof.Machine

/-! ### The bytes of a field read back (R202) -/

@[simp] theorem length_toBytes (width n : Nat) : (toBytes width n).length = width := by
  induction width with
  | zero => rfl
  | succ width ih => rw [toBytes, List.length_cons, ih]

theorem ofBytes_cons (b : Byte) (bs : List Byte) : ofBytes (b :: bs) = b.toNat * 256 ^ bs.length + ofBytes bs := by
  have hfold : ∀ (bs : List Byte) (n : Nat), bs.foldl (fun n b => n * 256 + b.toNat) n = n * 256 ^ bs.length + ofBytes bs := by
    intro bs
    induction bs with
    | nil => intro n; simp [ofBytes]
    | cons c cs ih =>
      intro n
      rw [ofBytes, List.foldl_cons, List.foldl_cons, ih, ih, List.length_cons, pow_succ]
      ring
  rw [ofBytes, List.foldl_cons, hfold, Nat.zero_mul, Nat.zero_add]

theorem ofBytes_toBytes_mod (width n : Nat) : ofBytes (toBytes width n) = n % 256 ^ width := by
  induction width with
  | zero => rw [pow_zero, Nat.mod_one]; rfl
  | succ width ih =>
    rw [toBytes, ofBytes_cons, length_toBytes, ih, BitVec.toNat_ofNat, pow_succ 256 width, Nat.mod_mul, Nat.mul_comm, Nat.add_comm]

theorem ofBytes_toBytes {width n : Nat} (h : n < 256 ^ width) : ofBytes (toBytes width n) = n := by
  rw [ofBytes_toBytes_mod, Nat.mod_eq_of_lt h]

/-- The first field of the parameters. -/
theorem field_toBytes_append {width n : Nat} (h : n < 256 ^ width) (rest : List Byte) : field (toBytes width n ++ rest) 0 width = n := by
  rw [field, List.drop_zero, List.take_left' (length_toBytes width n), ofBytes_toBytes h]

theorem field_toBytes {width n : Nat} (h : n < 256 ^ width) : field (toBytes width n) 0 width = n := by
  rw [← List.append_nil (toBytes width n), field_toBytes_append h]

/-- A field beyond some bytes is one of the bytes that follow. -/
theorem field_append_of_le {bs : List Byte} {offset : Nat} (h : bs.length ≤ offset) (rest : List Byte) (width : Nat) :
    field (bs ++ rest) offset width = field rest (offset - bs.length) width := by
  rw [field, List.drop_append, List.drop_of_length_le h, List.nil_append, field]

theorem signedOf_toBytesSigned {value : Int} (hlow : -2147483648 ≤ value) (hhigh : value ≤ 2147483647) :
    signedOf 4 (value % (256 ^ 4 : Nat)).toNat = value := by
  simp only [signedOf]
  split <;> omega

theorem trainField_eq {ps : List Byte} {offset : Nat} {train : TrainNumber} (h : field ps offset 4 = train.toNat) :
    trainField ps offset = train := by
  rw [trainField, h, BitVec.ofNat_toNat, BitVec.setWidth_eq]

theorem trainNumber_toNat_lt (train : TrainNumber) : train.toNat < 256 ^ 4 := train.isLt

/-! ### The entries of a TIMETABLE WRITE (R205) -/

/-- The ten bytes of an entry. -/
def rawEntryBytes (e : RawEntry) : List Byte :=
  toBytes 4 e.train.toNat ++ toBytes 1 e.point ++ toBytes 1 e.kind ++ toBytes 2 e.booked ++ toBytes 1 e.mask ++ toBytes 1 e.used

theorem length_rawEntryBytes (e : RawEntry) : (rawEntryBytes e).length = 10 := by simp [rawEntryBytes]

theorem rawEntryAt_append_of_le {bs : List Byte} {offset : Nat} (h : bs.length ≤ offset) (rest : List Byte) :
    rawEntryAt (bs ++ rest) offset = rawEntryAt rest (offset - bs.length) := by
  have hfield : ∀ k width, field (bs ++ rest) (offset + k) width = field rest (offset - bs.length + k) width := by
    intro k width
    rw [field_append_of_le (by omega), Nat.sub_add_comm h]
  simp only [rawEntryAt, trainField, hfield, field_append_of_le h]

theorem rawEntryAt_bytes {e : RawEntry} (h : e.wf = true) (rest : List Byte) : rawEntryAt (rawEntryBytes e ++ rest) 0 = e := by
  obtain ⟨train, point, kind, booked, mask, used⟩ := e
  simp only [RawEntry.wf, fitsBytes, Bool.and_eq_true, decide_eq_true_eq] at h
  obtain ⟨⟨⟨⟨hpoint, hkind⟩, hbooked⟩, hmask⟩, hused⟩ := h
  simp only [rawEntryBytes, List.append_assoc, rawEntryAt]
  rw [trainField_eq (field_toBytes_append (trainNumber_toNat_lt train) _)]
  simp [field_append_of_le, field_toBytes_append hpoint, field_toBytes_append hkind, field_toBytes_append hbooked,
    field_toBytes_append hmask, field_toBytes_append hused]

/-- The entries after `bs`, read back one by one. -/
theorem rawEntryAt_flatMap {entries : List RawEntry} (h : ∀ e ∈ entries, e.wf = true) (bs : List Byte) :
    (List.range entries.length).map (fun k => rawEntryAt (bs ++ entries.flatMap rawEntryBytes) (bs.length + 10 * k)) = entries := by
  induction entries generalizing bs with
  | nil => rfl
  | cons e entries ih =>
    obtain ⟨he, hrest⟩ := List.forall_mem_cons.mp h
    have hnext : ∀ k, bs.length + 10 * (k + 1) = (bs ++ rawEntryBytes e).length + 10 * k := by
      intro k
      rw [List.length_append, length_rawEntryBytes]
      omega
    rw [List.length_cons, List.range_succ_eq_map, List.map_cons, List.map_map, List.flatMap_cons]
    congr 1
    · rw [Nat.mul_zero, Nat.add_zero, rawEntryAt_append_of_le (Nat.le_refl _), Nat.sub_self, rawEntryAt_bytes he]
    · refine (List.map_congr_left fun k _ => ?_).trans (ih hrest (bs ++ rawEntryBytes e))
      rw [Function.comp_apply, hnext, List.append_assoc]

theorem rawEntries_eq {first : Nat} {entries : List RawEntry} (h : ∀ e ∈ entries, e.wf = true) :
    rawEntries (toBytes 2 first ++ toBytes 1 entries.length ++ entries.flatMap rawEntryBytes) entries.length = entries :=
  rawEntryAt_flatMap h (toBytes 2 first ++ toBytes 1 entries.length)

/-! ### An order by its code (R185) -/

theorem exec_order (m : Manner) (code : Byte) (ps : List Byte) (s : State) :
    exec (.orderRefusedForm m (code :: ps)) s = .next ((s.release .i).takeOrder m (s.captureAt .i) code.toNat ps) := rfl

theorem State.sized_of_length {ps : List Byte} {length : Nat} (h : ps.length + 1 = length) (s : State) (m : Manner) (c : Capture)
    (code : Nat) (taken : State) : s.sized m c code ps length taken = taken := if_pos h

theorem State.takeOrder_of_unknown {code : Nat}
    (h : code ∉ [0x10, 0x11, 0x12, 0x20, 0x30, 0x31, 0x32, 0x33, 0x40, 0x41, 0x48, 0x49, 0x50, 0x51, 0x52, 0x60, 0x7F]) (s : State)
    (m : Manner) (c : Capture) (ps : List Byte) : s.takeOrder m c code ps = s.refuse m code c.date .unknown := by
  unfold State.takeOrder
  split
  case h_18 => rfl
  all_goals exact absurd (by decide) h

/-- The payload lengths of the orders but TIMETABLE WRITE (11 "Order payloads"). -/
def orderLengths : List (Nat × Nat) :=
  [(0x10, 6), (0x11, 8), (0x12, 6), (0x20, 6), (0x30, 10), (0x31, 10), (0x33, 2), (0x40, 13), (0x41, 2), (0x48, 6), (0x49, 7), (0x50, 6),
    (0x51, 5), (0x52, 1), (0x60, 7), (0x7F, 1)]

theorem State.takeOrder_of_length {code length : Nat} (h : (code, length) ∈ orderLengths) {ps : List Byte} (hlength : ps.length + 1 ≠ length)
    (s : State) (m : Manner) (c : Capture) : s.takeOrder m c code ps = s.refuse m code c.date .length := by
  simp only [orderLengths, List.mem_cons, Prod.mk.injEq, List.not_mem_nil, or_false] at h
  obtain ⟨rfl, rfl⟩ | ⟨rfl, rfl⟩ | ⟨rfl, rfl⟩ | ⟨rfl, rfl⟩ | ⟨rfl, rfl⟩ | ⟨rfl, rfl⟩ | ⟨rfl, rfl⟩ | ⟨rfl, rfl⟩ | ⟨rfl, rfl⟩ |
    ⟨rfl, rfl⟩ | ⟨rfl, rfl⟩ | ⟨rfl, rfl⟩ | ⟨rfl, rfl⟩ | ⟨rfl, rfl⟩ | ⟨rfl, rfl⟩ | ⟨rfl, rfl⟩ := h
  all_goals exact if_neg hlength

/-! ### TIMETABLE WRITE and CLOCK LINE SET by their own counts and codes (R123, R178, R205) -/

theorem State.takeTimetableWrite_of_short {ps : List Byte} (h : ps.length < 3) (s : State) (m : Manner) (c : Capture) :
    s.takeTimetableWrite m c ps = s.refuse m 0x32 c.date .length := if_pos h

theorem State.takeTimetableWrite_of_count {ps : List Byte} (h : ¬ ps.length < 3) (hcount : 1 ≤ field ps 2 1 ∧ field ps 2 1 ≤ 4) (s : State)
    (m : Manner) (c : Capture) :
    s.takeTimetableWrite m c ps = s.sized m c 0x32 ps (4 + 10 * field ps 2 1)
      (s.orderTimetableWrite m c (field ps 0 2) (field ps 2 1) (rawEntries ps (field ps 2 1))) := by
  simp only [State.takeTimetableWrite, if_neg h, if_pos hcount]

theorem State.takeTimetableWrite_of_no_count {ps : List Byte} (h : ¬ ps.length < 3) (hcount : ¬ (1 ≤ field ps 2 1 ∧ field ps 2 1 ≤ 4))
    (s : State) (m : Manner) (c : Capture) :
    s.takeTimetableWrite m c ps = s.orderTimetableWrite m c (field ps 0 2) (field ps 2 1) [] := by
  simp only [State.takeTimetableWrite, if_neg h, if_neg hcount]

theorem State.takeClockLineSet_of_neither {ps : List Byte} (h : 1 < field ps 1 1) (s : State) (m : Manner) (c : Capture) :
    s.takeClockLineSet m c ps = s.refuse m 0x60 c.date .range := by
  unfold State.takeClockLineSet
  split
  next h0 => omega
  next h1 => omega
  next => rfl

/-! ### Each order's own bytes (11 "Order payloads") -/

section
variable (s : State) (m : Manner) (c : Capture)

theorem State.takeOrder_timeMark {second : Nat} (h : second < 256 ^ 5) :
    s.takeOrder m c 0x10 (toBytes 5 second) = s.orderTimeMark m c second := by
  refine (State.sized_of_length (by simp) ..).trans ?_
  rw [field_toBytes h]

theorem State.takeOrder_timeSet {ms offset : Nat} (hms : ms < 256 ^ 6) (hoffset : offset < 256 ^ 1) :
    s.takeOrder m c 0x11 (toBytes 6 ms ++ toBytes 1 offset) = s.orderTimeSet m c ms offset := by
  refine (State.sized_of_length (by simp) ..).trans ?_
  simp [field_append_of_le, field_toBytes_append hms, field_toBytes hoffset]

theorem State.takeOrder_seasonChange {offset minute : Nat} (hoffset : offset < 256 ^ 1) (hminute : minute < 256 ^ 4) :
    s.takeOrder m c 0x12 (toBytes 1 offset ++ toBytes 4 minute) = s.orderSeasonChange m c offset minute := by
  refine (State.sized_of_length (by simp) ..).trans ?_
  simp [field_append_of_le, field_toBytes_append hoffset, field_toBytes hminute]

theorem State.takeOrder_configWrite {parameter : Nat} {value : Int} (hparameter : parameter < 256 ^ 1) (hlow : -2147483648 ≤ value)
    (hhigh : value ≤ 2147483647) :
    s.takeOrder m c 0x20 (toBytes 1 parameter ++ toBytesSigned 4 value) = s.orderConfigWrite m c parameter value := by
  refine (State.sized_of_length (by simp [toBytesSigned]) ..).trans ?_
  have hvalue : field (toBytes 1 parameter ++ toBytesSigned 4 value) 1 4 = (value % (256 ^ 4 : Nat)).toNat := by
    rw [field_append_of_le (by simp), length_toBytes, toBytesSigned, field_toBytes (by omega)]
  rw [hvalue, signedOf_toBytesSigned hlow hhigh, field_toBytes_append hparameter]

theorem State.takeOrder_elementWrite {index address kind limit cls used : Nat} (hindex : index < 256 ^ 2) (haddress : address < 256 ^ 2)
    (hkind : kind < 256 ^ 1) (hlimit : limit < 256 ^ 2) (hcls : cls < 256 ^ 1) (hused : used < 256 ^ 1) :
    s.takeOrder m c 0x30
        (toBytes 2 index ++ toBytes 2 address ++ toBytes 1 kind ++ toBytes 2 limit ++ toBytes 1 cls ++ toBytes 1 used) =
      s.orderElementWrite m c index address kind limit cls used := by
  refine (State.sized_of_length (by simp) ..).trans ?_
  simp [field_append_of_le, field_toBytes_append hindex, field_toBytes_append haddress, field_toBytes_append hkind,
    field_toBytes_append hlimit, field_toBytes_append hcls, field_toBytes hused]

theorem State.takeOrder_pointWrite {index sect edge signal threshold mode used : Nat} (hindex : index < 256 ^ 1) (hsect : sect < 256 ^ 2)
    (hedge : edge < 256 ^ 1) (hsignal : signal < 256 ^ 2) (hthreshold : threshold < 256 ^ 1) (hmode : mode < 256 ^ 1)
    (hused : used < 256 ^ 1) :
    s.takeOrder m c 0x31 (toBytes 1 index ++ toBytes 2 sect ++ toBytes 1 edge ++ toBytes 2 signal ++ toBytes 1 threshold ++
        toBytes 1 mode ++ toBytes 1 used) =
      s.orderPointWrite m c index sect edge signal threshold mode used := by
  refine (State.sized_of_length (by simp) ..).trans ?_
  simp [field_append_of_le, field_toBytes_append hindex, field_toBytes_append hsect, field_toBytes_append hedge,
    field_toBytes_append hsignal, field_toBytes_append hthreshold, field_toBytes_append hmode, field_toBytes hused]

theorem State.takeOrder_timetableWrite_of_length {b0 b1 : Byte} {count : Nat} {ps : List Byte} (hcount : 1 ≤ count ∧ count ≤ 4)
    (h : ps.length ≠ 10 * count) :
    s.takeOrder m c 0x32 (b0 :: b1 :: BitVec.ofNat 8 count :: ps) = s.refuse m 0x32 c.date .length := by
  have hfield : field (b0 :: b1 :: BitVec.ofNat 8 count :: ps) 2 1 = count := by
    simp only [field, ofBytes, List.drop_succ_cons, List.drop_zero, List.take_succ_cons, List.take_zero, List.foldl_cons, List.foldl_nil,
      BitVec.toNat_ofNat]
    omega
  have hwrite := State.takeTimetableWrite_of_count (ps := b0 :: b1 :: BitVec.ofNat 8 count :: ps) (by simp) (by rw [hfield]; exact hcount) s
    m c
  rw [hfield] at hwrite
  refine hwrite.trans (if_neg ?_)
  simp only [List.length_cons]
  omega

theorem State.takeOrder_timetableWrite {first : Nat} {entries : List RawEntry} (hfirst : first < 256 ^ 2)
    (hcount : 1 ≤ entries.length ∧ entries.length ≤ 4) (h : ∀ e ∈ entries, e.wf = true) :
    s.takeOrder m c 0x32 (toBytes 2 first ++ toBytes 1 entries.length ++ entries.flatMap rawEntryBytes) =
      s.orderTimetableWrite m c first entries.length entries := by
  have hfield : field (toBytes 2 first ++ toBytes 1 entries.length ++ entries.flatMap rawEntryBytes) 2 1 = entries.length := by
    rw [List.append_assoc, field_append_of_le (by simp), length_toBytes, field_toBytes_append (by omega)]
  have hlength : (entries.flatMap rawEntryBytes).length = 10 * entries.length := by
    simp [List.length_flatMap, length_rawEntryBytes, Nat.mul_comm]
  refine (State.takeTimetableWrite_of_count (by simp only [List.length_append, length_toBytes]; omega) (by rw [hfield]; exact hcount) s m
    c).trans ?_
  rw [hfield, rawEntries_eq h, List.append_assoc, field_toBytes_append hfirst]
  exact State.sized_of_length (by simp [hlength]; omega) ..

theorem State.takeOrder_timetableWrite_of_no_count {first count : Nat} (hfirst : first < 256 ^ 2) (hcount : count < 256 ^ 1)
    (h : count = 0 ∨ 4 < count) (ps : List Byte) :
    s.takeOrder m c 0x32 (toBytes 2 first ++ toBytes 1 count ++ ps) = s.orderTimetableWrite m c first count [] := by
  have hfield : field (toBytes 2 first ++ toBytes 1 count ++ ps) 2 1 = count := by
    rw [List.append_assoc, field_append_of_le (by simp), length_toBytes, field_toBytes_append hcount]
  refine (State.takeTimetableWrite_of_no_count (by simp only [List.length_append, length_toBytes]; omega) (by rw [hfield]; omega) s m c).trans ?_
  rw [hfield, List.append_assoc, field_toBytes_append hfirst]

theorem State.takeOrder_apply {scope : Nat} (h : scope < 256 ^ 1) : s.takeOrder m c 0x33 (toBytes 1 scope) = s.orderApply m c scope := by
  refine (State.sized_of_length (by simp) ..).trans ?_
  rw [field_toBytes h]

theorem State.takeOrder_overlayWrite {slot target action point booked mask : Nat} (train : TrainNumber) (hslot : slot < 256 ^ 1)
    (htarget : target < 256 ^ 2) (haction : action < 256 ^ 1) (hpoint : point < 256 ^ 1) (hbooked : booked < 256 ^ 2)
    (hmask : mask < 256 ^ 1) :
    s.takeOrder m c 0x40 (toBytes 1 slot ++ toBytes 2 target ++ toBytes 1 action ++ toBytes 4 train.toNat ++ toBytes 1 point ++
        toBytes 2 booked ++ toBytes 1 mask) =
      s.orderOverlayWrite m c slot target action train point booked mask := by
  refine (State.sized_of_length (by simp) ..).trans ?_
  rw [trainField_eq (train := train) (by simp [field_append_of_le, field_toBytes_append (trainNumber_toNat_lt train)])]
  simp [field_append_of_le, field_toBytes_append hslot, field_toBytes_append htarget, field_toBytes_append haction,
    field_toBytes_append hpoint, field_toBytes_append hbooked, field_toBytes hmask]

theorem State.takeOrder_overlayClear {slot : Nat} (h : slot < 256 ^ 1) :
    s.takeOrder m c 0x41 (toBytes 1 slot) = s.orderOverlayClear m c slot := by
  refine (State.sized_of_length (by simp) ..).trans ?_
  rw [field_toBytes h]

theorem State.takeOrder_trainIdent {point : Nat} (hpoint : point < 256 ^ 1) (train : TrainNumber) :
    s.takeOrder m c 0x48 (toBytes 1 point ++ toBytes 4 train.toNat) = s.orderTrainIdent m c point train := by
  refine (State.sized_of_length (by simp) ..).trans ?_
  rw [trainField_eq (train := train) (by simp [field_append_of_le, field_toBytes (trainNumber_toNat_lt train)]),
    field_toBytes_append hpoint]

theorem State.takeOrder_trainCancel {point : Nat} (hpoint : point < 256 ^ 2) (train : TrainNumber) :
    s.takeOrder m c 0x49 (toBytes 4 train.toNat ++ toBytes 2 point) = s.orderTrainCancel m c train point := by
  refine (State.sized_of_length (by simp) ..).trans ?_
  rw [trainField_eq (field_toBytes_append (trainNumber_toNat_lt train) _)]
  simp [field_append_of_le, field_toBytes hpoint]

theorem State.takeOrder_journalRead {start count : Nat} (hstart : start < 256 ^ 4) (hcount : count < 256 ^ 1) :
    s.takeOrder m c 0x50 (toBytes 4 start ++ toBytes 1 count) = s.orderJournalRead m c start count := by
  refine (State.sized_of_length (by simp) ..).trans ?_
  simp [field_append_of_le, field_toBytes_append hstart, field_toBytes hcount]

theorem State.takeOrder_tableRead {table selector index : Nat} (htable : table < 256 ^ 1) (hselector : selector < 256 ^ 1)
    (hindex : index < 256 ^ 2) :
    s.takeOrder m c 0x51 (toBytes 1 table ++ toBytes 1 selector ++ toBytes 2 index) = s.orderTableRead m c table selector index := by
  refine (State.sized_of_length (by simp) ..).trans ?_
  simp [field_append_of_le, field_toBytes_append htable, field_toBytes_append hselector, field_toBytes hindex]

theorem State.takeOrder_setRun {line interval shown polarity : Nat} (hline : line < 256 ^ 1) (hinterval : interval < 256 ^ 1)
    (hshown : shown < 256 ^ 2) (hpolarity : polarity < 256 ^ 1) :
    s.takeOrder m c 0x60 (toBytes 1 line ++ [1#8] ++ toBytes 1 interval ++ toBytes 2 shown ++ toBytes 1 polarity) =
      s.orderSetRun m c line interval shown polarity := by
  have hone : ([1#8] : List Byte) = toBytes 1 1 := rfl
  refine (State.sized_of_length (by simp) ..).trans ?_
  rw [hone, State.takeClockLineSet]
  have hrun : field (toBytes 1 line ++ toBytes 1 1 ++ toBytes 1 interval ++ toBytes 2 shown ++ toBytes 1 polarity) 1 1 = 1 := by
    simp [field_append_of_le, field_toBytes_append (width := 1) (n := 1) (by omega)]
  rw [hrun]
  simp [field_append_of_le, field_toBytes_append hline, field_toBytes_append hinterval, field_toBytes_append hshown,
    field_toBytes hpolarity]

theorem State.takeOrder_setStop {line : Nat} (hline : line < 256 ^ 1) {ps : List Byte} (hps : ps.length = 4) :
    s.takeOrder m c 0x60 (toBytes 1 line ++ [0#8] ++ ps) = s.orderSetStop m c line := by
  have hzero : ([0#8] : List Byte) = toBytes 1 0 := rfl
  refine (State.sized_of_length (by simp [hps]) ..).trans ?_
  rw [hzero, State.takeClockLineSet]
  have hstop : field (toBytes 1 line ++ toBytes 1 0 ++ ps) 1 1 = 0 := by
    rw [List.append_assoc, field_append_of_le (by simp), length_toBytes, field_toBytes_append (by omega)]
  rw [hstop]
  simp [field_toBytes_append hline]

theorem State.takeOrder_set_of_neither {run : Byte} (hrun : 1 < run.toNat) {ps : List Byte} (hps : ps.length = 4) (line : Byte) :
    s.takeOrder m c 0x60 (line :: run :: ps) = s.refuse m 0x60 c.date .range := by
  refine (State.sized_of_length (by simp [hps]) ..).trans (State.takeClockLineSet_of_neither ?_ s m c)
  simpa [field, ofBytes] using hrun

end

/-! ### The reply slot (R186 to R189) -/

theorem State.answer_of_empty {s : State} (h : s.orh.slot = none) (code : Option Nat) (arrival : Date) (content : ReplyContent) :
    s.answer .unicast code arrival content = { s with
      orh := { s.orh with slot := some { code := code, arrival := arrival, content := content, sent := 0, overrun := false } } } := by
  simp only [State.answer, State.onOrh, h]

theorem State.answer_of_full {s : State} {r : Reply} (h : s.orh.slot = some r) (code : Option Nat) (arrival : Date)
    (content : ReplyContent) :
    s.answer .unicast code arrival content = { s with orh := { s.orh with slot := some { r with overrun := true } } } := by
  simp only [State.answer, State.onOrh, h]

/-- Settles O49: an order's payload is judged and is its order's row, and a reply fills the slot. -/
theorem ordersAreJudgedAndAnswered : Obligations.OrdersAreJudgedAndAnswered := by
  refine ⟨fun code arrival content s => ⟨fun h => State.answer_of_empty h _ _ _, fun r h => State.answer_of_full h _ _ _, rfl,
    fun n reason => ⟨rfl, rfl⟩⟩, fun m s => ?_⟩
  intro date order
  have howner : ∀ {n : Nat} {code : Byte} {ps : List Byte} {t : State}, code.toNat = n →
      (s.release .i).takeOrder m (s.captureAt .i) n ps = t → order (code :: ps) = .next t := by
    intro n code ps t hcode ht
    rw [← ht, ← hcode]
    exact exec_order m code ps s
  exact ⟨rfl, fun code ps h => howner rfl (State.takeOrder_of_unknown h ..),
    fun code length ps hlength h => howner rfl (State.takeOrder_of_length hlength h ..),
    fun ps h => howner rfl (State.takeTimetableWrite_of_short h ..),
    fun b0 b1 count ps hlow hhigh h => howner rfl (State.takeOrder_timetableWrite_of_length _ _ _ ⟨hlow, hhigh⟩ h),
    fun second h => howner rfl (State.takeOrder_timeMark _ _ _ h),
    fun ms offset hms hoffset => howner rfl (State.takeOrder_timeSet _ _ _ hms hoffset),
    fun offset minute hoffset hminute => howner rfl (State.takeOrder_seasonChange _ _ _ hoffset hminute),
    fun parameter value hparameter hlow hhigh => howner rfl (State.takeOrder_configWrite _ _ _ hparameter hlow hhigh),
    fun index address kind limit cls used hi ha hk hl hc hu => howner rfl (State.takeOrder_elementWrite _ _ _ hi ha hk hl hc hu),
    fun index sect edge signal threshold mode used hi hs he hg ht hm hu =>
      howner rfl (State.takeOrder_pointWrite _ _ _ hi hs he hg ht hm hu),
    fun first entries hfirst hlow hhigh h =>
      (howner rfl (State.takeOrder_timetableWrite _ _ _ hfirst ⟨hlow, hhigh⟩ h)).trans (exec_timetableWrite_of_matched (.inr (.inr rfl))).symm,
    fun first count ps hfirst hcount h =>
      (howner rfl (State.takeOrder_timetableWrite_of_no_count _ _ _ hfirst hcount h ps)).trans
        (exec_timetableWrite_of_matched (h.imp_right .inl)).symm,
    fun scope h => howner rfl (State.takeOrder_apply _ _ _ h),
    fun slot target action train point booked mask hs ht ha hp hb hm =>
      howner rfl (State.takeOrder_overlayWrite _ _ _ train hs ht ha hp hb hm),
    fun slot h => howner rfl (State.takeOrder_overlayClear _ _ _ h),
    fun point train h => howner rfl (State.takeOrder_trainIdent _ _ _ h train),
    fun point train h => howner rfl (State.takeOrder_trainCancel _ _ _ h train),
    fun start count hstart hcount => howner rfl (State.takeOrder_journalRead _ _ _ hstart hcount),
    fun table selector index ht hs hi => howner rfl (State.takeOrder_tableRead _ _ _ ht hs hi), rfl,
    fun line interval shown polarity hl hi hs hp => howner rfl (State.takeOrder_setRun _ _ _ hl hi hs hp),
    fun line ps hline h => howner rfl (State.takeOrder_setStop _ _ _ hline h),
    fun line run ps hrun h => howner rfl (State.takeOrder_set_of_neither _ _ _ hrun h line), rfl⟩

end Sys2Proof.Machine
end

section
/-! TABLE READ and STATUS READ (R187, R189, R192, R193). -/

namespace Sys2Proof.Machine

/-! ### A reading order and the slot (R187, R189) -/

theorem State.reading_of_empty {s : State} (h : s.orh.slot = none) (carriedOut : State → State) :
    s.reading .unicast carriedOut = carriedOut s := by
  simp only [State.reading, h, Option.isSome_none, Bool.false_eq_true, if_false]

theorem State.reading_of_full {s : State} {r : Reply} (h : s.orh.slot = some r) (carriedOut : State → State) :
    s.reading .unicast carriedOut = { s with orh := { s.orh with slot := some { r with overrun := true } } } := by
  simp only [State.reading, h, Option.isSome_some, if_true, State.onOrh, Orh.overrun, Option.map_some]

/-! ### The entries of TABLE READ (R192) -/

theorem State.orderTableRead_of_entry {s : State} {table selector index : Nat} {entry : TableEntry} (hslot : s.orh.slot = none)
    (h : s.readEntry table selector index = some entry) (c : Capture) :
    s.orderTableRead .unicast c table selector index =
      { s with orh := { s.orh with slot := (some
          { code := some 0x51, arrival := c.date, content := .table table selector index entry, sent := 0, overrun := false }) } } := by
  rw [State.orderTableRead, State.reading_of_empty hslot]
  simp only [h]
  exact State.answer_of_empty hslot _ _ _

theorem State.orderTableRead_of_none {s : State} {table selector index : Nat} (hslot : s.orh.slot = none)
    (h : s.readEntry table selector index = none) (c : Capture) :
    s.orderTableRead .unicast c table selector index =
      { s with orh := { s.orh with slot := (some
          { code := some 0x51, arrival := c.date, content := .refusal .range, sent := 0, overrun := false }) } } := by
  rw [State.orderTableRead, State.reading_of_empty hslot]
  simp only [h]
  exact State.answer_of_empty hslot _ _ _

theorem State.readEntry_of_ne {table : Nat} (h : table ≠ 8) (s : State) (index : Nat) : s.readEntry table 0 index = s.tableEntry table index := by
  rw [State.readEntry, if_neg h, if_pos rfl]

/-- A status plane's entry, where the planes exist and the index is one of theirs. -/
theorem State.planeEntry_of_planes {s : State} {p : Planes} {index : Nat} (hplanes : s.ttc.planes = some p)
    (hindex : index < s.ttc.entries.length) :
    s.planeEntry .current index = some (.plane p.current.day p.current.cursor (p.current.statusOf index) (s.ttc.slotOf index)) ∧
      s.planeEntry .previous index =
        some (.plane p.previous.day p.previous.cursor (p.previous.statusOf index) (s.ttc.slotOf index)) := by
  simp only [State.planeEntry, Ttc.plane, hplanes, Option.map_some, if_pos hindex, and_self]

theorem State.planeEntry_eq_none {s : State} {index : Nat} (h : s.ttc.planes = none ∨ s.ttc.entries.length ≤ index) (w : PlaneName) :
    s.planeEntry w index = none := by
  rw [State.planeEntry]
  obtain hplanes | hindex := h
  · rw [Ttc.plane, hplanes]
    rfl
  · split
    · exact if_neg (by omega)
    · rfl

/-- A table or an index that is none. -/
theorem State.tableEntry_eq_none {s : State} {table index : Nat}
    (h : table = 0 ∨ 12 < table ∨ (table ≤ 2 ∧ 1023 < index) ∨ (table ≤ 4 ∧ 2 < table ∧ 255 < index) ∨
      (table ≤ 6 ∧ 4 < table ∧ 8191 < index) ∨ (table = 7 ∧ s.lys.elements.length ≤ index) ∨ (table = 9 ∧ 63 < index) ∨
      (table = 10 ∧ 31 < index) ∨ (table = 11 ∧ 63 < index) ∨ (table = 12 ∧ 1 < index)) :
    s.tableEntry table index = none := by
  unfold State.tableEntry
  split
  case h_7 =>
    rw [List.getElem?_eq_none (by simpa using h)]
    rfl
  case h_11 =>
    have hindex : 1 < index := by simpa using h
    split
    · omega
    · omega
    · rfl
  case h_12 => rfl
  all_goals exact if_neg (by simpa using h)

theorem State.readEntry_eq_none {s : State} {table selector index : Nat}
    (h : table = 0 ∨ 12 < table ∨ (table ≠ 8 ∧ selector ≠ 0) ∨ (table ≤ 2 ∧ 1023 < index) ∨ (table ≤ 4 ∧ 2 < table ∧ 255 < index) ∨
      (table ≤ 6 ∧ 4 < table ∧ 8191 < index) ∨ (table = 7 ∧ s.lys.elements.length ≤ index) ∨
      (table = 8 ∧ (1 < selector ∨ s.ttc.planes = none ∨ s.ttc.entries.length ≤ index)) ∨ (table = 9 ∧ 63 < index) ∨
      (table = 10 ∧ 31 < index) ∨ (table = 11 ∧ 63 < index) ∨ (table = 12 ∧ 1 < index)) :
    s.readEntry table selector index = none := by
  unfold State.readEntry
  split
  next h8 =>
    subst h8
    split
    · exact State.planeEntry_eq_none (by simpa using h) _
    · exact State.planeEntry_eq_none (by simpa using h) _
    · rfl
  next h8 =>
    split
    next hselector => exact State.tableEntry_eq_none (by simpa [h8, hselector] using h)
    next => rfl

/-! ### STATUS READ (R193) -/

theorem Lys.unseen_eq (l : Lys) : (l.elements.filter fun e => !e.state.seen).length = l.elements.countP fun e => e.state.seen == false := by
  rw [List.countP_eq_length_filter]
  congr 2
  funext e
  cases e.state.seen <;> rfl

theorem Mvs.openCount_eq (v : Mvs) : v.openCount = v.table.countP fun r => r.isSome := List.countP_eq_length_filter.symm

theorem State.orderStatusRead_of_empty {s : State} (hslot : s.orh.slot = none) (c : Capture) :
    s.orderStatusRead .unicast c =
      { s with orh := { s.orh with slot := (some
          { code := some 0x52, arrival := c.date, content := .status s.status, sent := 0, overrun := false }) } } := by
  rw [State.orderStatusRead, State.reading_of_empty hslot]
  exact State.answer_of_empty hslot _ _ _

/-- Settles O51: TABLE READ and STATUS READ with an EMPTY slot and with a FULL one, unicast and broadcast. -/
theorem readingOrdersReply : Obligations.ReadingOrdersReply := by
  intro s date reply reads
  refine ⟨fun hslot => ?_, fun r hslot => ⟨?_, fun table selector index => ?_, fun start count => ?_⟩, rfl, fun _ _ _ => rfl, fun _ _ => rfl⟩
  · have hread : ∀ {table selector index : Nat} {entry : TableEntry}, (s.release .i).readEntry table selector index = some entry →
        reads table selector index entry := fun h => congrArg _ (State.orderTableRead_of_entry (s := s.release .i) hslot h _)
    have hentry : ∀ {table index : Nat} {entry : TableEntry}, table ≠ 8 → (s.release .i).tableEntry table index = some entry →
        reads table 0 index entry := fun hne h => hread ((State.readEntry_of_ne hne _ _).trans h)
    refine ⟨?_, fun index h => hentry (by decide) (if_pos h), fun index h => hentry (by decide) (if_pos h),
      fun index h => hentry (by decide) (if_pos h), fun index h => hentry (by decide) (if_pos h),
      fun index h => hentry (by decide) (if_pos h), fun index h => hentry (by decide) (if_pos h), fun index e h => ?_,
      fun index p hplanes hindex => ?_, fun index h => hentry (by decide) (if_pos h), fun index h => hentry (by decide) (if_pos h),
      fun index h => hentry (by decide) (if_pos h), hentry (by decide) rfl, hentry (by decide) rfl, fun table selector index h => ?_⟩
    · refine congrArg _ ((State.orderStatusRead_of_empty (s := s.release .i) hslot _).trans ?_)
      simp only [State.status, Lys.unseen_eq, Mvs.openCount_eq]
      cases hplanes : s.ttc.planes <;> simp only [State.release_i, hplanes] <;> rfl
    · exact hentry (by decide) (by rw [State.tableEntry, State.release_i]; simp only [h, Option.map_some])
    · obtain ⟨hcurrent, hprevious⟩ := State.planeEntry_of_planes (s := s.release .i) hplanes hindex
      exact ⟨hread hcurrent, hread hprevious⟩
    · exact congrArg _ (State.orderTableRead_of_none (s := s.release .i) hslot (State.readEntry_eq_none h) _)
  · exact congrArg _ (State.reading_of_full (s := s.release .i) hslot _)
  · exact congrArg _ (State.reading_of_full (s := s.release .i) hslot _)
  · exact congrArg _ (State.reading_of_full (s := s.release .i) hslot _)

end Sys2Proof.Machine
end

section
/-! CONFIG WRITE (R12, R13, R37, R190, R191). -/

namespace Sys2Proof.Machine

/-- A parameter stored, and its CONFIG record. -/
def State.configStored (s : State) (n : Nat) (value : Int) (taken : Nat) (date : Date) : State :=
  { s with
    orh := { s.orh with params := s.orh.params.set (n - 1) taken }
    evj := s.evj.store (.config n value (s.orh.params.getD (n - 1) 0) taken) date {} }

theorem State.setParameter_eq (s : State) (n : Nat) (value : Int) (date : Date) :
    s.setParameter n value date = (s.configStored n value (s.orh.params.clamp n value) date).takeUp n := by
  rw [State.setParameter, State.write_of_not_minor (by simp [RecordBody.cls])]
  rfl

theorem State.takeUp_of_later {n : Nat} (hlimit : n ≠ 3) (htimeout : n ≠ 4) (s : State) : s.takeUp n = s := by
  rw [State.takeUp, if_neg hlimit, if_neg htimeout]

theorem param_range {n : Nat} {row : ParamRow} (h : paramTable[n - 1]? = some row) : n ≤ 25 := by
  obtain ⟨hlt, -⟩ := List.getElem?_eq_some_iff.mp h
  have hlength : paramTable.length = 25 := rfl
  omega

theorem isT2_iff {n : Nat} : isT2 n = true ↔ n ∈ [12, 15, 18, 21] := by simp [isT2, or_assoc]

theorem Params.clamp_of_row {n : Nat} {row : ParamRow} (h : paramTable[n - 1]? = some row) (ht2 : n ∉ [12, 15, 18, 21]) (c : Params)
    (value : Int) : c.clamp n value = (max (row.lo : Int) (min (row.hi : Int) value)).toNat := by
  have hnot : isT2 n = false := Bool.eq_false_iff.mpr fun his => ht2 (isT2_iff.mp his)
  rw [Params.clamp, Params.lowerBound, Params.upperBound, h, hnot]
  rfl

theorem Params.clamp_of_t2 {n : Nat} {row : ParamRow} (h : paramTable[n - 1]? = some row) (ht2 : n ∈ [12, 15, 18, 21]) (c : Params)
    (value : Int) : c.clamp n value = (max (c.getD (n - 2) 0 : Int) (min (row.hi : Int) value)).toNat := by
  rw [Params.clamp, Params.lowerBound, Params.upperBound, h, isT2_iff.mpr ht2]
  rfl

/-- The loss timeout moves a pending loss expiry, measured from the last ROUND OPEN (R12). -/
theorem Liu.moveLossExpiry_of_pending {l : Liu} {expiry arrival : Nat} (hexpiry : l.lossExpiry = some expiry)
    (hopen : l.lastOpenRt = some arrival) (timeout : Nat) :
    l.moveLossExpiry timeout = { l with lossExpiry := some (arrival + timeout * 1000) } := by
  simp only [Liu.moveLossExpiry, hexpiry, hopen]

theorem Liu.moveLossExpiry_of_none {l : Liu} (h : l.lossExpiry = none ∨ l.lastOpenRt = none) (timeout : Nat) :
    l.moveLossExpiry timeout = l := by
  obtain hexpiry | hopen := h
  · simp only [Liu.moveLossExpiry, hexpiry]
  · simp only [Liu.moveLossExpiry, hopen]
    cases l.lossExpiry <;> rfl

theorem exec_configWrite_of_param {n : Nat} (hlow : 1 ≤ n) {row : ParamRow} (h : paramTable[n - 1]? = some row) (m : Manner) (value : Int)
    (s : State) :
    exec (.configWrite m n value) s =
      .next (((s.release .i).configStored n value (s.orh.params.clamp n value) (s.captureAt .i).date).takeUp n) := by
  rw [exec_configWrite, State.orderConfigWrite, if_pos ⟨hlow, param_range h⟩, State.setParameter_eq]
  rfl

/-- Settles O50: CONFIG WRITE stores the clamped value, records it, and takes it up. -/
theorem configWriteClampsAndStores : Obligations.ConfigWriteClampsAndStores := by
  refine ⟨fun m n value row s => ⟨fun hlow hrow hn => ?_, fun hn => ?_⟩, fun m n value row s hrow => ?_⟩
  · intro taken
    have htaken : s.orh.params.clamp n value = taken := Params.clamp_of_row hrow (by simp at hn ⊢; omega) _ _
    rw [exec_configWrite_of_param hlow hrow, htaken, State.takeUp_of_later (by simp at hn; omega) (by simp at hn; omega)]
    rfl
  · rw [exec_configWrite, State.orderConfigWrite, if_neg (by omega)]
  · intro stored
    refine ⟨fun hn => ?_, fun hn => ?_, fun hn hsound => ?_⟩
    · have hlow : 1 ≤ n := by simp at hn; omega
      rw [exec_configWrite_of_param hlow hrow, Params.clamp_of_t2 hrow hn, State.takeUp_of_later (by simp at hn; omega) (by simp at hn; omega)]
      rfl
    · subst hn
      rw [exec_configWrite_of_param (by decide) hrow, Params.clamp_of_row hrow (by decide)]
      rfl
    · subst hn
      intro taken moved
      have hvalue : (s.orh.params.store 4 taken).lossTimeout = taken :=
        (Params.value_store hsound.1 (n := 4) (m := 4) (by decide) (by decide) taken).trans (if_pos rfl)
      have hmoved : (s.release .i).liu.moveLossExpiry taken = { s.liu with rxI := {}, lossExpiry := moved } := by
        cases hexpiry : s.liu.lossExpiry with
        | none =>
          have hstays : moved = s.liu.lossExpiry := by simp only [moved, hexpiry]
          rw [Liu.moveLossExpiry_of_none (l := (s.release .i).liu) (.inl hexpiry), hstays]
          rfl
        | some expiry =>
          cases hopen : s.liu.lastOpenRt with
          | none =>
            have hstays : moved = s.liu.lossExpiry := by simp only [moved, hexpiry, hopen]
            rw [Liu.moveLossExpiry_of_none (l := (s.release .i).liu) (.inr hopen), hstays]
            rfl
          | some arrival =>
            have hmoves : moved = some (arrival + taken * 1000) := by simp only [moved, hexpiry, hopen]
            rw [Liu.moveLossExpiry_of_pending (l := (s.release .i).liu) hexpiry hopen, hmoves]
            rfl
      rw [exec_configWrite_of_param (by decide) hrow, Params.clamp_of_row hrow (by decide)]
      refine congrArg (fun l : Liu => Host.Outcome.next { stored taken with liu := l }.takeLoss) ?_
      exact (congrArg (Liu.moveLossExpiry (s.release .i).liu) hvalue).trans hmoved

end Sys2Proof.Machine
end

section
/-! APPLY from its order (R72, R73): the checks of an APPLY find the first failure of its tables, and its scope is refused, or armed. -/

namespace Sys2Proof.Machine

/-! ### One table's checks as a walk along the bank (R72)

The three banks are checked alike: entry by entry, against the one before it. `scanBank` is that walk, for any judgement of an entry; the three
checks of the model are shown to be it, and its meaning is proved once. -/

section
variable {α : Type}

/-- A bank walked from position `k` on, `before` being the entry before it: the first entry that stands beyond its position, or that is judged bad. -/
def scanBank (table : ApplyTable) (judge : Option α → α → Option ApplyReason) : Nat → Option α → Bank α → Option ApplyFailure
  | _, _, [] => none
  | k, before, (i, e) :: rest =>
      if i ≠ k then some ⟨table, i, .prefixRule⟩
      else match judge before e with
        | some reason => some ⟨table, i, reason⟩
        | none => scanBank table judge (k + 1) (some e) rest

/-- An index of a bank, read by index, fails: an unused entry stands before it, or its entry breaks a rule against the one before. -/
def bankFails (breaks : Option α → α → ApplyReason → Prop) (bank : Nat → Option α) (i : Nat) (reason : ApplyReason) : Prop :=
  (reason = .prefixRule ∧ (∃ e, bank i = some e) ∧ ∃ j, j < i ∧ bank j = none) ∨
    ∃ e, bank i = some e ∧ breaks (if i = 0 then none else bank (i - 1)) e reason

/-- A judgement is the first reason, in the order of R72's list, among those that hold. -/
def FirstReason (holds : ApplyReason → Prop) : Option ApplyReason → Prop
  | none => ∀ reason, ¬ holds reason
  | some reason => holds reason ∧ ∀ other, holds other → reason.code ≤ other.code

theorem FirstReason.of_eq_none {holds : ApplyReason → Prop} {found : Option ApplyReason} (h : FirstReason holds found) (hnone : found = none)
    (reason : ApplyReason) : ¬ holds reason := by
  subst hnone
  exact h reason

theorem FirstReason.of_eq_some {holds : ApplyReason → Prop} {found : Option ApplyReason} {reason : ApplyReason}
    (h : FirstReason holds found) (hsome : found = some reason) : holds reason ∧ ∀ other, holds other → reason.code ≤ other.code := by
  subst hsome
  exact h

theorem ApplyReason.one_le_code (reason : ApplyReason) : 1 ≤ reason.code := by
  cases reason <;> decide

/-- Below the first index of a bank nothing is used. -/
theorem Bank.get?_eq_none {b : Bank α} {i : Nat} (h : ∀ x ∈ b, x.1 ≠ i) : b.get? i = none := by
  induction b with
  | nil => rfl
  | cons x rest ih =>
    obtain ⟨hx, hrest⟩ := List.forall_mem_cons.mp h
    rw [Bank.get?, if_neg (Ne.symm hx), ih hrest]

section
variable {table : ApplyTable} {judge : Option α → α → Option ApplyReason} {breaks : Option α → α → ApplyReason → Prop}

/-- The walk from position `k` on finds the first failure, where the entries before `k` are used and none of them fails. -/
theorem scanBank_firstFailure_from {bank : Nat → Option α} {b : Bank α}
    (hjudge : ∀ before, ∀ x ∈ b, FirstReason (breaks before x.2) (judge before x.2)) (hsorted : b.Pairwise (fun x y => x.1 < y.1))
    {k : Nat} (hrest : ∀ i, k ≤ i → bank i = b.get? i) (hlow : ∀ x ∈ b, k ≤ x.1) (hused : ∀ j < k, bank j ≠ none)
    (hpast : ∀ i < k, ∀ reason, ¬ bankFails breaks bank i reason) :
    FirstFailure table (bankFails breaks bank) (scanBank table judge k (if k = 0 then none else bank (k - 1)) b) := by
  have hunused : ∀ {i : Nat}, bank i = none → ∀ reason, ¬ bankFails breaks bank i reason := by
    rintro i hnone reason (⟨-, ⟨e, he⟩, -⟩ | ⟨e, he, -⟩) <;> exact absurd (hnone.symm.trans he) nofun
  induction b generalizing k with
  | nil =>
    intro i reason
    obtain hi | hi := Nat.lt_or_ge i k
    · exact hpast i hi reason
    · exact hunused (hrest i hi) reason
  | cons x rest ih =>
    obtain ⟨i, e⟩ := x
    obtain ⟨hfirst, hsorted⟩ := List.pairwise_cons.mp hsorted
    obtain ⟨hki, hlow⟩ := List.forall_mem_cons.mp hlow
    have hbank : bank i = some e := by rw [hrest i hki, Bank.get?, if_pos rfl]
    rw [scanBank]
    split
    next hne =>
      have hgap : ∀ j, k ≤ j → j < i → bank j = none := by
        intro j hkj hji
        rw [hrest j hkj]
        refine Bank.get?_eq_none (List.forall_mem_cons.mpr ⟨(Nat.ne_of_gt hji), fun y hy => ?_⟩)
        exact Nat.ne_of_gt (hji.trans (hfirst y hy))
      have hlt : k < i := Nat.lt_of_le_of_ne hki (Ne.symm hne)
      refine ⟨rfl, .inl ⟨rfl, ⟨e, hbank⟩, k, hlt, hgap k (Nat.le_refl k) hlt⟩, fun j reason hj => ?_, fun reason _ => ?_⟩
      · obtain hjk | hjk := Nat.lt_or_ge j k
        · exact hpast j hjk reason
        · exact hunused (hgap j hjk hj) reason
      · exact reason.one_le_code
    next heq =>
      obtain rfl := not_ne_iff.mp heq
      have hjudged := hjudge (if i = 0 then none else bank (i - 1)) (i, e) List.mem_cons_self
      have hbreaks : ∀ {reason}, bankFails breaks bank i reason → breaks (if i = 0 then none else bank (i - 1)) e reason := by
        rintro reason (⟨-, -, j, hj, hnone⟩ | ⟨e', he', h⟩)
        · exact absurd hnone (hused j hj)
        · obtain rfl := Option.some.inj (he'.symm.trans hbank)
          exact h
      split
      next reason hsome =>
        obtain ⟨hholds, hleast⟩ := hjudged.of_eq_some hsome
        exact ⟨rfl, .inr ⟨e, hbank, hholds⟩, fun j reason hj => hpast j hj reason, fun other hother => hleast other (hbreaks hother)⟩
      next hnone =>
        have hnext := ih (k := i + 1) (fun before y hy => hjudge before y (List.mem_cons_of_mem _ hy)) hsorted
          (fun j hj => by rw [hrest j (Nat.le_of_succ_le hj), Bank.get?, if_neg (by omega)]) (fun y hy => hfirst y hy) ?_ ?_
        · rw [if_neg (Nat.succ_ne_zero i), Nat.add_sub_cancel, hbank] at hnext
          exact hnext
        · intro j hj
          obtain rfl | hlt := Nat.eq_or_lt_of_le (Nat.le_of_lt_succ hj)
          · rw [hbank]
            exact Option.some_ne_none e
          · exact hused j hlt
        · intro j hj reason hfails
          obtain rfl | hlt := Nat.eq_or_lt_of_le (Nat.le_of_lt_succ hj)
          · exact hjudged.of_eq_none hnone reason (hbreaks hfails)
          · exact hpast j hlt reason hfails

/-- The walk along a whole bank finds its first failure. -/
theorem scanBank_firstFailure {b : Bank α} {size : Nat} (hwf : b.wf size = true)
    (hjudge : ∀ before, ∀ x ∈ b, FirstReason (breaks before x.2) (judge before x.2)) :
    FirstFailure table (bankFails breaks b.get?) (scanBank table judge 0 none b) :=
  scanBank_firstFailure_from hjudge ((Bank.wf_iff size b).mp hwf).1 (fun _ _ => rfl) (fun _ _ => Nat.zero_le _) nofun nofun

end
end

/-! ### The model's checks are such walks (R72) -/

/-- An element out of address order. -/
def elementJudge (before : Option Element) (e : Element) : Option ApplyReason :=
  if e.address ≤ (before.map (·.address)).getD 0 then some .addressOrder else none

/-- A timing point whose links do not stand. -/
def pointJudge (elements : Bank Element) (_ : Option TimingPoint) (p : TimingPoint) : Option ApplyReason :=
  if linksOk elements p = false then some .link else none

/-- A timetable entry out of booked order, or of a timing point beyond the count. -/
def timetableJudge (points : Nat) (before : Option TimetableEntry) (e : TimetableEntry) : Option ApplyReason :=
  if e.booked < (before.map (·.booked)).getD 0 then some .bookedOrder else if points ≤ e.point then some .timingPoint else none

theorem checkElements_eq_scan (k : Nat) (before : Option Element) (b : Bank Element) :
    checkElements k ((before.map (·.address)).getD 0) b = scanBank .element elementJudge k before b := by
  induction b generalizing k before with
  | nil => rfl
  | cons x rest ih =>
    rw [checkElements, scanBank, elementJudge]
    split
    · rfl
    · split
      · rfl
      · exact ih (k + 1) (some x.2)

theorem checkPoints_eq_scan (elements : Bank Element) (k : Nat) (before : Option TimingPoint) (b : Bank TimingPoint) :
    checkPoints elements k b = scanBank .point (pointJudge elements) k before b := by
  induction b generalizing k before with
  | nil => rfl
  | cons x rest ih =>
    rw [checkPoints, scanBank, pointJudge]
    split
    · rfl
    · split
      · rfl
      · exact ih (k + 1) (some x.2)

theorem checkTimetable_eq_scan (points k : Nat) (before : Option TimetableEntry) (b : Bank TimetableEntry) :
    checkTimetable points k ((before.map (·.booked)).getD 0) b = scanBank .timetable (timetableJudge points) k before b := by
  induction b generalizing k before with
  | nil => rfl
  | cons x rest ih =>
    rw [checkTimetable, scanBank, timetableJudge]
    split
    · rfl
    · split
      · rfl
      · split
        · rfl
        · exact ih (k + 1) (some x.2)

/-! ### What the checks find, in the statement's words -/

theorem exists_before_iff {α : Type} {bank : Nat → Option α} {i : Nat} {holds : α → α → Prop} :
    (∃ e, bank i = some e ∧ ∃ before, (if i = 0 then none else bank (i - 1)) = some before ∧ holds e before) ↔
      0 < i ∧ ∃ e before, bank i = some e ∧ bank (i - 1) = some before ∧ holds e before := by
  split
  next h0 => simp [h0]
  next hi =>
    constructor
    · rintro ⟨e, he, before, hbefore, h⟩
      exact ⟨Nat.pos_of_ne_zero hi, e, before, he, hbefore, h⟩
    · rintro ⟨-, e, before, he, hbefore, h⟩
      exact ⟨e, he, before, hbefore, h⟩

/-- What an element breaks against the one before. -/
def elementBreaks (before : Option Element) (e : Element) (reason : ApplyReason) : Prop :=
  reason = .addressOrder ∧ ∃ x, before = some x ∧ e.address ≤ x.address

theorem elementFails_eq (bank : Nat → Option Element) : elementFails bank = bankFails elementBreaks bank := by
  funext i reason
  have hbefore := exists_before_iff (bank := bank) (i := i) (holds := fun e x => e.address ≤ x.address)
  cases reason <;> simp only [elementFails, bankFails, elementBreaks, reduceCtorEq, true_and, false_and, and_false, exists_false, or_false,
    false_or, hbefore]

/-- What a timing point breaks. -/
def pointBreaks (elements : Nat → Option Element) (_ : Option TimingPoint) (p : TimingPoint) (reason : ApplyReason) : Prop :=
  reason = .link ∧ ((∀ e, elements p.sect = some e → e.kind ≠ .sect) ∨
    ∃ x, p.signal = some x ∧ ∀ e, elements x = some e → e.kind ≠ .signal)

theorem pointFails_eq (elements : Nat → Option Element) (bank : Nat → Option TimingPoint) :
    pointFails elements bank = bankFails (pointBreaks elements) bank := by
  funext i reason
  cases reason <;> simp only [pointFails, bankFails, pointBreaks, reduceCtorEq, true_and, false_and, and_false, exists_false, or_false,
    false_or]

/-- What a timetable entry breaks against the one before. -/
def timetableBreaks (points : Nat) (before : Option TimetableEntry) (e : TimetableEntry) (reason : ApplyReason) : Prop :=
  (reason = .bookedOrder ∧ ∃ x, before = some x ∧ e.booked < x.booked) ∨ (reason = .timingPoint ∧ points ≤ e.point)

theorem timetableFails_eq (points : Nat) (bank : Nat → Option TimetableEntry) :
    timetableFails points bank = bankFails (timetableBreaks points) bank := by
  funext i reason
  have hbefore := exists_before_iff (bank := bank) (i := i) (holds := fun e x => e.booked < x.booked)
  cases reason <;> simp only [timetableFails, bankFails, timetableBreaks, reduceCtorEq, true_and, false_and, and_false, exists_false, or_false,
    false_or, hbefore]

/-! ### Each judgement is the first reason -/

theorem elementJudge_firstReason {e : Element} (h : 1 ≤ e.address) (before : Option Element) :
    FirstReason (elementBreaks before e) (elementJudge before e) := by
  rw [elementJudge]
  cases before with
  | none =>
    rw [Option.map_none, Option.getD_none, if_neg (by omega)]
    rintro reason ⟨-, x, hx, -⟩
    cases hx
  | some x =>
    split
    next hle => exact ⟨⟨rfl, x, rfl, hle⟩, fun other ⟨hother, _⟩ => hother ▸ Nat.le_refl _⟩
    next hlt =>
      rintro reason ⟨-, y, hy, hle⟩
      cases hy
      exact hlt hle

theorem pointJudge_firstReason (elements : Bank Element) (before : Option TimingPoint) (p : TimingPoint) :
    FirstReason (pointBreaks elements.get? before p) (pointJudge elements before p) := by
  have hlinks := linksOk_iff elements p
  rw [pointJudge]
  split
  next hbad =>
    refine ⟨⟨rfl, ?_⟩, fun other ⟨hother, _⟩ => hother ▸ Nat.le_refl _⟩
    by_contra hgood
    push Not at hgood
    exact absurd (hlinks.mpr hgood) (by rw [hbad]; decide)
  next hgood =>
    obtain ⟨⟨e, he, hkind⟩, hsignal⟩ := hlinks.mp (by simpa using hgood)
    rintro reason ⟨-, hsect | ⟨x, hx, hnone⟩⟩
    · exact hsect e he hkind
    · obtain ⟨e', he', hkind'⟩ := hsignal x hx
      exact hnone e' he' hkind'

theorem timetableJudge_firstReason (points : Nat) (before : Option TimetableEntry) (e : TimetableEntry) :
    FirstReason (timetableBreaks points before e) (timetableJudge points before e) := by
  have hbefore : (∃ x, before = some x ∧ e.booked < x.booked) ↔ e.booked < (before.map (·.booked)).getD 0 := by
    cases before <;> simp
  rw [timetableJudge]
  split
  next hlt =>
    refine ⟨.inl ⟨rfl, hbefore.mpr hlt⟩, ?_⟩
    rintro other (⟨rfl, -⟩ | ⟨rfl, -⟩) <;> decide
  next hle =>
    split
    next hpoint =>
      refine ⟨.inr ⟨rfl, hpoint⟩, ?_⟩
      rintro other (⟨-, hbooked⟩ | ⟨rfl, -⟩)
      · exact absurd (hbefore.mp hbooked) hle
      · decide
    next hpoint =>
      rintro reason (⟨-, hbooked⟩ | ⟨-, hbeyond⟩)
      · exact hle (hbefore.mp hbooked)
      · exact hpoint hbeyond

/-! ### The checks of the tables (R72) -/

theorem checkElements_firstFailure {b : Bank Element} {size : Nat} (hwf : b.wf size = true) (h : ∀ x ∈ b, 1 ≤ x.2.address) :
    FirstFailure .element (elementFails b.get?) (checkElements 0 0 b) := by
  rw [elementFails_eq, show checkElements 0 0 b = _ from checkElements_eq_scan 0 none b]
  exact scanBank_firstFailure hwf fun before x hx => elementJudge_firstReason (h x hx) before

theorem checkPoints_firstFailure (elements : Bank Element) {b : Bank TimingPoint} {size : Nat} (hwf : b.wf size = true) :
    FirstFailure .point (pointFails elements.get? b.get?) (checkPoints elements 0 b) := by
  rw [pointFails_eq, checkPoints_eq_scan elements 0 none b]
  exact scanBank_firstFailure hwf fun before x _ => pointJudge_firstReason elements before x.2

theorem checkTimetable_firstFailure (points : Nat) {b : Bank TimetableEntry} {size : Nat} (hwf : b.wf size = true) :
    FirstFailure .timetable (timetableFails points b.get?) (checkTimetable points 0 0 b) := by
  rw [timetableFails_eq, show checkTimetable points 0 0 b = _ from checkTimetable_eq_scan points 0 none b]
  exact scanBank_firstFailure hwf fun before x _ => timetableJudge_firstReason points before x.2

theorem Bank.le_of_mem_indexed {α : Type} {k : Nat} {l : List α} {x : Nat × α} (h : x ∈ indexed k l) : k ≤ x.1 := by
  induction l generalizing k with
  | nil => cases h
  | cons y rest ih =>
    obtain rfl | hmem := List.mem_cons.mp h
    · exact Nat.le_refl k
    · exact Nat.le_of_succ_le (ih hmem)

/-- An active bank, indexed, is canonical. -/
theorem Bank.wf_indexed {α : Type} (k : Nat) (l : List α) : (indexed k l).wf (k + l.length) = true := by
  induction l generalizing k with
  | nil => rfl
  | cons x rest ih =>
    have hrest := ih (k + 1)
    rw [Nat.add_right_comm] at hrest
    have hlow : (indexed (k + 1) rest).all (fun e => decide (k < e.1)) = true :=
      List.all_eq_true.mpr fun e he => decide_eq_true (Bank.le_of_mem_indexed he)
    rw [indexed, Bank.wf, hlow, List.length_cons, decide_eq_true (by omega), ← Nat.add_assoc, hrest]
    rfl

theorem checkOverlay_firstFailure_from {points : Nat} {slots : Nat → Option OverlaySlot} {k : Nat} {l : List (Option OverlaySlot)}
    (hrest : ∀ i, k ≤ i → slots i = (l[i - k]?).join) (hpast : ∀ i < k, ∀ reason, ¬ overlayFails points slots i reason) :
    FirstFailure .overlay (overlayFails points slots) (checkOverlay points k l) := by
  induction l generalizing k with
  | nil =>
    rintro i reason ⟨hreason, target, train, point, booked, mask, hslot, hpoint⟩
    obtain hi | hi := Nat.lt_or_ge i k
    · exact hpast i hi reason ⟨hreason, target, train, point, booked, mask, hslot, hpoint⟩
    · rw [hrest i hi] at hslot
      cases hslot
  | cons x rest ih =>
    have hk : slots k = x := by rw [hrest k (Nat.le_refl k), Nat.sub_self]; cases x <;> rfl
    have hnext : (∀ reason, ¬ overlayFails points slots k reason) →
        FirstFailure .overlay (overlayFails points slots) (checkOverlay points (k + 1) rest) := by
      intro hpasses
      refine ih (fun i hi => ?_) fun i hi => ?_
      · rw [hrest i (Nat.le_of_succ_le hi), show i - k = i - (k + 1) + 1 by omega, List.getElem?_cons_succ]
      · obtain rfl | hlt := Nat.eq_or_lt_of_le (Nat.le_of_lt_succ hi)
        · exact hpasses
        · exact hpast i hlt
    match x with
    | none =>
      refine hnext ?_
      rintro reason ⟨-, target, train, point, booked, mask, hslot, -⟩
      cases hk.symm.trans hslot
    | some { target := target, action := .cancel } =>
      refine hnext ?_
      rintro reason ⟨-, target', train, point, booked, mask, hslot, -⟩
      cases hk.symm.trans hslot
    | some { target := target, action := .replace train point booked mask } =>
      rw [checkOverlay]
      split
      next hbeyond =>
        exact ⟨rfl, ⟨rfl, target, train, point, booked, mask, hk, hbeyond⟩, fun i reason hi => hpast i hi reason,
          fun other ⟨hother, _⟩ => hother ▸ Nat.le_refl _⟩
      next hwithin =>
        refine hnext ?_
        rintro reason ⟨-, target', train', point', booked', mask', hslot, hpoint⟩
        cases hk.symm.trans hslot
        exact hwithin hpoint

theorem checkOverlay_firstFailure (points : Nat) (t : Ttc) :
    FirstFailure .overlay (overlayFails points t.slot) (checkOverlay points 0 t.overlay) :=
  checkOverlay_firstFailure_from (fun _ _ => rfl) nofun

/-! ### The checks of an APPLY, in order (R72) -/

theorem checksGive_or {table : ApplyTable} {fails : Nat → ApplyReason → Prop} {found later : Option ApplyFailure}
    {rest : List (ApplyTable × (Nat → ApplyReason → Prop))} (h : FirstFailure table fails found) (hrest : ChecksGive rest later) :
    ChecksGive ((table, fails) :: rest) (found.or later) := by
  cases found with
  | none => exact .inr ⟨h, hrest⟩
  | some failure => exact .inl ⟨nofun, h⟩

theorem checksGive_last {table : ApplyTable} {fails : Nat → ApplyReason → Prop} {found : Option ApplyFailure}
    (h : FirstFailure table fails found) : ChecksGive [(table, fails)] found := by
  cases found with
  | none => exact .inr ⟨h, rfl⟩
  | some failure => exact .inl ⟨nofun, h⟩

/-! ### APPLY from its order (R72, R73) -/

theorem scopeOf_eq_none {code : Nat} (h : code = 0 ∨ 3 < code) : scopeOf code = none := by
  match code, h with
  | 0, _ => rfl
  | _ + 4, _ => rfl

section
variable {s : State} {code : Nat} {asked : Scope} (hscope : scopeOf code = some asked) (m : Manner)
include hscope

theorem exec_apply_of_failure {failure : ApplyFailure} (h : s.validate (mergeScope s.lys.armed asked) = some failure) :
    exec (.apply m code) s = .next ((s.release .i).refuse m 0x33 (s.captureAt .i).date (.order failure)) := by
  have hvalidate : (s.release .i).validate (mergeScope (s.release .i).lys.armed asked) = some failure := h
  rw [exec_apply, State.orderApply, hscope]
  simp only [hvalidate]

theorem exec_apply_of_pass (h : s.validate (mergeScope s.lys.armed asked) = none) (hline : s.liu.lineState ≠ .lost) :
    exec (.apply m code) s = .next { s.release .i with lys := { s.lys with armed := some (mergeScope s.lys.armed asked) } } := by
  have hvalidate : (s.release .i).validate (mergeScope (s.release .i).lys.armed asked) = none := h
  have hstate : (s.release .i).liu.lineState ≠ .lost := hline
  rw [exec_apply, State.orderApply, hscope]
  simp only [hvalidate, if_neg hstate]
  rfl

end

/-- Settles O27: an APPLY refused or armed, and the checks of each scope. -/
theorem applyValidatesAndArms : Obligations.ApplyValidatesAndArms := by
  refine ⟨fun m code s => ⟨fun hcode => ?_, fun asked failure hscope h => exec_apply_of_failure hscope m h,
    fun asked hscope h hline => exec_apply_of_pass hscope m h hline⟩, fun s hbanks hlayout => ?_⟩
  · rw [exec_apply, State.orderApply, scopeOf_eq_none hcode]
  · intro elements points timetable staged
    have helements : FirstFailure .element (elementFails s.lys.stagingElements.get?) (checkElements 0 0 s.lys.stagingElements) :=
      checkElements_firstFailure hbanks.elements fun x hx => (hlayout.staging x.1 x.2 hx).1
    have hpoints : FirstFailure .point (pointFails s.lys.stagingElements.get? s.lys.stagingPoints.get?)
        (checkPoints s.lys.stagingElements 0 s.lys.stagingPoints) := checkPoints_firstFailure _ hbanks.points
    have hstaged : ∀ count, FirstFailure .timetable (timetableFails count s.ttc.staging.get?) (checkTimetable count 0 0 s.ttc.staging) :=
      fun count => checkTimetable_firstFailure count hbanks.timetable
    have hactive : FirstFailure .timetable (timetableFails staged fun i => s.ttc.entries[i]?)
        (checkTimetable staged 0 0 (indexed 0 s.ttc.entries)) := by
      rw [← funext fun i => Bank.get?_indexed_zero i s.ttc.entries]
      exact checkTimetable_firstFailure staged (Bank.wf_indexed 0 s.ttc.entries)
    exact ⟨checksGive_or helements (checksGive_or hpoints (checksGive_or hactive
        (checksGive_last (checkOverlay_firstFailure staged s.ttc)))), checksGive_last (hstaged _),
      checksGive_or helements (checksGive_or hpoints (checksGive_last (hstaged staged)))⟩

end Sys2Proof.Machine
end

section
/-! The missed sweep: what it tells, and how the base cursors and the slots work the planes (R135 to R137, R139). -/

namespace Sys2Proof.Machine

/-! ### What a sweep tells -/

/-- Work on the planes that tells these MISSED records, in this order, each reported, from a ring within its size (R135, R137). -/
structure State.Misses (s t : State) (said : List RecordBody) : Prop where
  tells : s.evj.stored ≤ 16384 → ∃ more, s.evj.Grown t.evj more ∧ more.reverse.map (·.body) = said ∧ s.MissedReported t more
  ttc : t.ttc = { s.ttc with planes := t.ttc.planes }
  tbu : t.tbu = s.tbu
  params : t.orh.params = s.orh.params

theorem State.MissedReported.nil {s t : State} (h : t.orh = s.orh) : s.MissedReported t [] := ⟨fun _ hx => absurd hx List.not_mem_nil, h⟩

theorem State.Misses.refl (s : State) : s.Misses s [] where
  tells := fun h => ⟨[], .refl h, rfl, .nil rfl⟩
  ttc := rfl
  tbu := rfl
  params := rfl

theorem State.Misses.trans {s t u : State} {xs ys : List RecordBody} (h : s.Misses t xs) (h' : t.Misses u ys) : s.Misses u (xs ++ ys) where
  tells := fun hs => by
    obtain ⟨more, hgrown, hsaid, hdated, horh⟩ := h.tells hs
    obtain ⟨more', hgrown', hsaid', hdated', horh'⟩ := h'.tells hgrown.stored_le
    have hnow : t.now = s.now := State.now_congr h.tbu
    refine ⟨more' ++ more, hgrown.trans hgrown', ?_, fun x hx => ?_, ?_⟩
    · rw [List.reverse_append, List.map_append, hsaid, hsaid']
    · obtain hx | hx := List.mem_append.mp hx
      · rw [← hnow]
        exact hdated' x hx
      · exact hdated x hx
    · rw [horh', horh, List.reverse_append, List.map_append, List.foldl_append]
  ttc := by rw [h'.ttc, h.ttc]
  tbu := h'.tbu.trans h.tbu
  params := h'.params.trans h.params

/-- Work on the planes that writes nothing. -/
theorem State.Misses.onTtc (s : State) (w : PlaneName) (f : Plane → Plane) : s.Misses (s.onTtc fun t => t.onPlane w f) [] where
  tells := fun h => ⟨[], .refl h, rfl, .nil rfl⟩
  ttc := rfl
  tbu := rfl
  params := rfl

/-- The MISSED record of an entry, by the values that were missed (R137). -/
def State.missedRecord (s : State) (day : Int) (i : Nat) (slot : Option Nat) (e : TimetableEntry) : RecordBody :=
  .missed day i e.kind slot e.train e.point e.booked (s.windowEnd day e) s.ttc.generation

theorem State.missEntry_eq (s : State) (w : PlaneName) (day : Int) (i : Nat) (slot : Option Nat) (e : TimetableEntry) :
    s.missEntry w day i slot e = { s with
      ttc := s.ttc.onPlane w fun p => p.setStatus i .missed
      evj := s.evj.store (s.missedRecord day i slot e) s.now {}
      orh := s.orh.raise
        { kind := .missed, priority := 2, seq := s.evj.next, date := s.now, flags := {}
          summary := .ofRecord (s.missedRecord day i slot e) } } := by
  have hclass : (s.missedRecord day i slot e).cls ≠ .minor := nofun
  exact State.writeReport_of_not_minor hclass (s.onTtc fun t => t.onPlane w fun p => p.setStatus i .missed) s.now .missed {}

theorem State.missEntry_misses (s : State) (w : PlaneName) (day : Int) (i : Nat) (slot : Option Nat) (e : TimetableEntry) :
    s.Misses (s.missEntry w day i slot e) [s.missedRecord day i slot e] := by
  rw [State.missEntry_eq]
  exact {
    tells := fun _ =>
      ⟨[{ seq := s.evj.next, body := s.missedRecord day i slot e, date := s.now, flags := {} }], .store .., rfl,
        fun x hx => List.mem_singleton.mp hx ▸ ⟨rfl, rfl⟩, rfl⟩
    ttc := rfl
    tbu := rfl
    params := Orh.raise_params _ _ }

theorem State.Misses.windowEnd {s t : State} {said : List RecordBody} (h : s.Misses t said) (day : Int) (e : TimetableEntry) :
    t.windowEnd day e = s.windowEnd day e := by
  rw [State.windowEnd, State.windowEnd, h.params, h.ttc]

theorem State.Misses.ctMs {s t : State} {said : List RecordBody} (h : s.Misses t said) : t.ctMs = s.ctMs := State.ctMs_congr h.tbu

theorem State.Misses.entries {s t : State} {said : List RecordBody} (h : s.Misses t said) : t.ttc.entries = s.ttc.entries := by rw [h.ttc]

theorem State.Misses.slot {s t : State} {said : List RecordBody} (h : s.Misses t said) (k : Nat) : t.ttc.slot k = s.ttc.slot k := by
  rw [h.ttc]
  rfl

theorem State.Misses.slotOf {s t : State} {said : List RecordBody} (h : s.Misses t said) (i : Nat) : t.ttc.slotOf i = s.ttc.slotOf i := by
  rw [h.ttc]
  rfl

theorem State.Misses.missedRecord {s t : State} {said : List RecordBody} (h : s.Misses t said) (day : Int) (i : Nat) (slot : Option Nat)
    (e : TimetableEntry) : t.missedRecord day i slot e = s.missedRecord day i slot e := by
  rw [State.missedRecord, State.missedRecord, h.windowEnd, h.ttc]

/-! ### A plane of the two -/

theorem Ttc.plane_onPlane {t : Ttc} {w : PlaneName} {p : Plane} (h : t.plane w = some p) (f : Plane → Plane) :
    (t.onPlane w f).plane w = some (f p) := by
  simp only [Ttc.plane, Option.map_eq_some_iff] at h
  obtain ⟨q, hq, rfl⟩ := h
  cases w <;> simp only [Ttc.onPlane, Ttc.plane, hq, Option.map_some]

theorem Ttc.plane_onPlane_of_ne {w w' : PlaneName} (h : w' ≠ w) (t : Ttc) (f : Plane → Plane) : (t.onPlane w f).plane w' = t.plane w' := by
  cases hplanes : t.planes <;> cases w <;> cases w' <;>
    first | exact absurd rfl h | simp only [Ttc.onPlane, Ttc.plane, hplanes, Option.map_some, Option.map_none]

theorem Ttc.onPlane_onPlane (t : Ttc) (w : PlaneName) (f g : Plane → Plane) :
    (t.onPlane w f).onPlane w g = t.onPlane w fun p => g (f p) := by
  cases hplanes : t.planes <;> cases w <;> simp only [Ttc.onPlane, hplanes, Option.map_some, Option.map_none]

/-- A plane known, updated. -/
theorem Ttc.onPlane_congr {t : Ttc} {w : PlaneName} {p : Plane} (h : t.plane w = some p) {f g : Plane → Plane} (hfg : f p = g p) :
    t.onPlane w f = t.onPlane w g := by
  simp only [Ttc.plane, Option.map_eq_some_iff] at h
  obtain ⟨q, hq, rfl⟩ := h
  cases w <;> simp only [Ttc.onPlane, hq, Option.map_some, hfg]

theorem Ttc.onPlane_self {t : Ttc} {w : PlaneName} {p : Plane} (h : t.plane w = some p) : (t.onPlane w fun _ => p) = t := by
  simp only [Ttc.plane, Option.map_eq_some_iff] at h
  obtain ⟨q, hq, rfl⟩ := h
  cases w <;> simp only [Ttc.onPlane, hq, Option.map_some] <;> rw [← hq]

theorem Plane.statusOf_set (p : Plane) {i : Nat} (hi : p.statusOf i ≠ .void) (st : EntryStatus) (j : Nat) :
    (p.setStatus i st).statusOf j = if j = i then st else p.statusOf j := by
  have hlt : i < p.status.length := by
    by_contra hge
    exact hi (List.getD_eq_default _ _ (Nat.not_lt.mp hge))
  simp only [Plane.statusOf, Plane.setStatus, List.getD_eq_getElem?_getD, List.getElem?_set]
  by_cases hij : i = j
  · subst hij
    simp [hlt]
  · rw [if_neg hij, if_neg (Ne.symm hij)]

end Sys2Proof.Machine
end

section
/-! The base cursor's work in a sweep, with no overlay slot ACTIVE (R135, R137). -/

namespace Sys2Proof.Machine

/-! ### One entry passed -/

/-- A plane whose base cursor passes its entry (R135, R137). -/
def Plane.passed (p : Plane) : Plane :=
  { p with
    cursor := p.cursor + 1
    status := if p.statusOf p.cursor = .pending then p.status.set p.cursor .missed else p.status }

theorem Plane.statusOf_passed (p : Plane) (i : Nat) :
    p.passed.statusOf i = if i = p.cursor ∧ p.statusOf i = .pending then .missed else p.statusOf i := by
  by_cases hpending : p.statusOf p.cursor = .pending
  · have hset : p.passed.statusOf i = (p.setStatus p.cursor .missed).statusOf i := by
      rw [Plane.statusOf, Plane.passed, if_pos hpending]
      rfl
    rw [hset, Plane.statusOf_set p (by rw [hpending]; decide)]
    by_cases hi : i = p.cursor
    · rw [if_pos hi, if_pos ⟨hi, hi ▸ hpending⟩]
    · rw [if_neg hi, if_neg (fun h => hi h.1)]
  · have hkept : p.passed.statusOf i = p.statusOf i := by
      rw [Plane.statusOf, Plane.passed, if_neg hpending]
      rfl
    rw [hkept, if_neg]
    rintro ⟨rfl, h⟩
    exact hpending h

/-- A base cursor moved past an entry, which becomes MISSED where it was PENDING. -/
def State.passEntry (s : State) (w : PlaneName) (p : Plane) (e : TimetableEntry) : State :=
  let s1 := s.onTtc fun t => t.onPlane w fun q => { q with cursor := p.cursor + 1 }
  if p.statusOf p.cursor = .pending then s1.missEntry w p.day p.cursor none e else s1

section
variable {s : State} {w : PlaneName} {p : Plane} (hp : s.ttc.plane w = some p)
include hp

theorem State.sweepBase_of_closed {e : TimetableEntry} (hfree : s.ttc.slotOf p.cursor = none) (he : s.ttc.entries[p.cursor]? = some e)
    (hclosed : s.windowEnd p.day e < s.ctMs) (fuel : Nat) :
    s.sweepBase w (fuel + 1) = (s.passEntry w p e).sweepBase w fuel := by
  rw [State.sweepBase]
  simp only [hp, he, if_pos hclosed, hfree, Option.isNone_none, true_and, State.passEntry]
  split <;> rfl

/-- A base cursor at an entry whose window has not closed, or at the end, stands (R135). -/
theorem State.sweepBase_of_open (hopen : ∀ e, s.ttc.entries[p.cursor]? = some e → (s.ctMs : Int) ≤ s.windowEnd p.day e) (fuel : Nat) :
    s.sweepBase w fuel = s := by
  cases fuel with
  | zero => rfl
  | succ fuel =>
    rw [State.sweepBase]
    cases he : s.ttc.entries[p.cursor]? with
    | none => simp only [hp, he]
    | some e => simp only [hp, he, if_neg (Int.not_lt.mpr (hopen e he))]

theorem State.passEntry_ttc (e : TimetableEntry) : (s.passEntry w p e).ttc = s.ttc.onPlane w fun _ => p.passed := by
  rw [State.passEntry]
  split
  next hpending =>
    have hmissed : ((s.onTtc fun t => t.onPlane w fun q => { q with cursor := p.cursor + 1 }).missEntry w p.day p.cursor none e).ttc =
        (s.ttc.onPlane w fun q => { q with cursor := p.cursor + 1 }).onPlane w fun q => q.setStatus p.cursor .missed := rfl
    rw [hmissed, Ttc.onPlane_onPlane]
    refine Ttc.onPlane_congr hp ?_
    simp only [Plane.passed, Plane.setStatus, if_pos hpending]
  next hkept =>
    have hmoved : (s.onTtc fun t => t.onPlane w fun q => { q with cursor := p.cursor + 1 }).ttc =
        s.ttc.onPlane w fun q => { q with cursor := p.cursor + 1 } := rfl
    rw [hmoved]
    refine Ttc.onPlane_congr hp ?_
    simp only [Plane.passed, if_neg hkept]

omit hp in
theorem State.passEntry_misses (e : TimetableEntry) :
    s.Misses (s.passEntry w p e) (if p.statusOf p.cursor = .pending then [s.missedRecord p.day p.cursor none e] else []) := by
  have hmoved : s.Misses (s.onTtc fun t => t.onPlane w fun q => { q with cursor := p.cursor + 1 }) [] := .onTtc s w _
  rw [State.passEntry]
  split
  · exact hmoved.trans (State.missEntry_misses _ w p.day p.cursor none e)
  · exact hmoved

end

/-! ### A whole sweep of a plane -/

theorem State.Swept.refl {s : State} {p : Plane}
    (hopen : ∀ e, s.ttc.entries[p.cursor]? = some e → (s.ctMs : Int) ≤ s.windowEnd p.day e) : s.Swept p p :=
  ⟨rfl, Nat.le_refl _, hopen, fun i e hle hlt => absurd hle (Nat.not_le.mpr hlt), fun i => by
    rw [if_neg fun h => absurd h.1 (Nat.not_le.mpr h.2.1)]⟩

theorem State.Swept.congr {s t : State} {said : List RecordBody} (h : s.Misses t said) {p q : Plane} (hswept : t.Swept p q) : s.Swept p q := by
  simpa only [State.Swept, h.entries, h.ctMs, h.windowEnd] using hswept

/-- A sweep after one entry passed. -/
theorem State.Swept.passed {s : State} {p q : Plane} {e : TimetableEntry} (he : s.ttc.entries[p.cursor]? = some e)
    (hclosed : s.windowEnd p.day e < s.ctMs) (h : s.Swept p.passed q) : s.Swept p q := by
  obtain ⟨hday, hcursor, hopen, hpast, hstatus⟩ := h
  have hlt : p.cursor < q.cursor := hcursor
  refine ⟨hday, Nat.le_of_lt hlt, hopen, fun i e' hle hi he' => ?_, fun i => ?_⟩
  · obtain rfl | hnext := Nat.eq_or_lt_of_le hle
    · obtain rfl := Option.some.inj (he.symm.trans he')
      exact hclosed
    · exact hpast i e' hnext hi he'
  · rw [hstatus, Plane.statusOf_passed]
    obtain hbelow | rfl | habove := lt_trichotomy i p.cursor
    · rw [if_neg (fun h => by have := h.1; simp only [Plane.passed] at this; omega), if_neg (by omega), if_neg (by omega)]
    · rw [if_neg (fun h => by have := h.1; simp only [Plane.passed] at this; omega)]
      simp [hlt]
    · have hcond : p.passed.cursor ≤ i := habove
      rw [if_neg (c := i = p.cursor ∧ _) (by omega)]
      simp only [hcond, Nat.le_of_lt habove, true_and]

/-- The record of an entry that a base cursor passes on its way, if it was PENDING (R137). -/
def State.missedAt (s : State) (old new : Plane) (i : Nat) : Option RecordBody :=
  if old.cursor ≤ i ∧ i < new.cursor ∧ old.statusOf i = .pending then
    (s.ttc.entries[i]?).map fun e => s.missedRecord old.day i none e
  else none

theorem State.missedAt_congr {s t : State} {said : List RecordBody} (h : s.Misses t said) (old new : Plane) (i : Nat) :
    t.missedAt old new i = s.missedAt old new i := by
  simp only [State.missedAt, h.entries, h.missedRecord]

theorem State.missedAt_self (s : State) (p : Plane) (i : Nat) : s.missedAt p p i = none := if_neg fun h => by omega

/-- What a sweep misses at the entry it stands at, and what it misses beyond. -/
theorem State.filterMap_missedAt_passed {s : State} {p q : Plane} {e : TimetableEntry} (he : s.ttc.entries[p.cursor]? = some e)
    (hlt : p.cursor < q.cursor) :
    (List.range' p.cursor (s.ttc.entries.length - p.cursor)).filterMap (s.missedAt p q) =
      (if p.statusOf p.cursor = .pending then [s.missedRecord p.day p.cursor none e] else []) ++
        (List.range' p.passed.cursor (s.ttc.entries.length - p.passed.cursor)).filterMap (s.missedAt p.passed q) := by
  have hwithin : p.cursor < s.ttc.entries.length := (List.getElem?_eq_some_iff.mp he).1
  have hfirst : s.missedAt p q p.cursor =
      if p.statusOf p.cursor = .pending then some (s.missedRecord p.day p.cursor none e) else none := by
    simp only [State.missedAt, he, Option.map_some, Nat.le_refl, hlt, true_and]
  have hrest : (List.range' (p.cursor + 1) (s.ttc.entries.length - (p.cursor + 1))).filterMap (s.missedAt p q) =
      (List.range' (p.cursor + 1) (s.ttc.entries.length - (p.cursor + 1))).filterMap (s.missedAt p.passed q) := by
    refine List.filterMap_congr fun i hi => ?_
    have habove : p.cursor < i := (List.mem_range'_1.mp hi).1
    have hcursor : p.passed.cursor ≤ i := habove
    have hday : p.passed.day = p.day := rfl
    simp only [State.missedAt, Plane.statusOf_passed, hcursor, Nat.le_of_lt habove, Nat.ne_of_gt habove, false_and, if_false, hday]
  rw [show s.ttc.entries.length - p.cursor = s.ttc.entries.length - (p.cursor + 1) + 1 by omega, List.range'_succ, List.filterMap_cons,
    hrest]
  by_cases hpending : p.statusOf p.cursor = .pending
  · rw [if_pos hpending] at hfirst ⊢
    rw [hfirst]
    rfl
  · rw [if_neg hpending] at hfirst ⊢
    rw [hfirst]
    rfl

/-- A sweep that ends where it stands. -/
theorem State.sweepBase_swept_of_open {s : State} {w : PlaneName} {p : Plane} (hp : s.ttc.plane w = some p)
    (hopen : ∀ e, s.ttc.entries[p.cursor]? = some e → (s.ctMs : Int) ≤ s.windowEnd p.day e) (fuel : Nat) :
    ∃ q, (s.sweepBase w fuel).ttc = s.ttc.onPlane w (fun _ => q) ∧ s.Swept p q ∧
      s.Misses (s.sweepBase w fuel) ((List.range' p.cursor (s.ttc.entries.length - p.cursor)).filterMap (s.missedAt p q)) := by
  rw [State.sweepBase_of_open hp hopen]
  refine ⟨p, (Ttc.onPlane_self hp).symm, .refl hopen, ?_⟩
  rw [List.filterMap_eq_nil_iff.mpr fun i _ => s.missedAt_self p i]
  exact .refl s

/-- The base cursor's work: the plane is swept, and what it misses is told in rising order (R135, R137). -/
theorem State.sweepBase_swept {s : State} {w : PlaneName} {p : Plane} (hp : s.ttc.plane w = some p) (hfree : ∀ i, s.ttc.slotOf i = none)
    {fuel : Nat} (hfuel : s.ttc.entries.length ≤ p.cursor + fuel) :
    ∃ q, (s.sweepBase w fuel).ttc = s.ttc.onPlane w (fun _ => q) ∧ s.Swept p q ∧
      s.Misses (s.sweepBase w fuel) ((List.range' p.cursor (s.ttc.entries.length - p.cursor)).filterMap (s.missedAt p q)) := by
  induction fuel generalizing s p with
  | zero =>
    refine State.sweepBase_swept_of_open hp (fun e he => ?_) 0
    have := (List.getElem?_eq_some_iff.mp he).1
    omega
  | succ fuel ih =>
    cases he : s.ttc.entries[p.cursor]? with
    | none => exact State.sweepBase_swept_of_open hp (fun e h => absurd (he.symm.trans h) nofun) _
    | some e =>
      by_cases hclosed : s.windowEnd p.day e < s.ctMs
      · have hpass := s.passEntry_misses (w := w) (p := p) e
        have httc := State.passEntry_ttc hp e
        obtain ⟨q, hq, hswept, hmisses⟩ := ih (s := s.passEntry w p e) (p := p.passed)
          (by rw [httc]; exact Ttc.plane_onPlane hp _) (fun i => (hpass.slotOf i).trans (hfree i))
          (by rw [hpass.entries]; simp only [Plane.passed]; omega)
        have hswept' : s.Swept p.passed q := .congr hpass hswept
        refine ⟨q, ?_, hswept'.passed he hclosed, ?_⟩
        · rw [State.sweepBase_of_closed hp (hfree _) he hclosed, hq, httc, Ttc.onPlane_onPlane]
        · rw [State.sweepBase_of_closed hp (hfree _) he hclosed, State.filterMap_missedAt_passed he hswept'.2.1]
          have hsame : (s.passEntry w p e).missedAt p.passed q = s.missedAt p.passed q :=
            funext fun i => State.missedAt_congr hpass p.passed q i
          rw [hsame, hpass.entries] at hmisses
          exact hpass.trans hmisses
      · exact State.sweepBase_swept_of_open hp (fun e' h => Option.some.inj (he.symm.trans h) ▸ Int.not_lt.mp hclosed) _

/-- The entries below the base cursor are of no account to a sweep. -/
theorem State.filterMap_missedAt_range (s : State) (p q : Plane) :
    (List.range s.ttc.entries.length).filterMap (s.missedAt p q) =
      (List.range' p.cursor (s.ttc.entries.length - p.cursor)).filterMap (s.missedAt p q) := by
  have hbelow : ∀ n ≤ p.cursor, (List.range n).filterMap (s.missedAt p q) = [] := fun n hn =>
    List.filterMap_eq_nil_iff.mpr fun i hi => if_neg fun h => by have := List.mem_range.mp hi; omega
  obtain hle | hlt := le_or_gt s.ttc.entries.length p.cursor
  · rw [hbelow _ hle, Nat.sub_eq_zero_of_le hle]
    rfl
  · have hsplit : List.range s.ttc.entries.length = List.range p.cursor ++ List.range' p.cursor (s.ttc.entries.length - p.cursor) := by
      have happend := List.range'_append_1 (s := 0) (m := p.cursor) (n := s.ttc.entries.length - p.cursor)
      rw [Nat.zero_add, Nat.add_sub_cancel' (Nat.le_of_lt hlt)] at happend
      rw [List.range_eq_range', List.range_eq_range', happend]
    rw [hsplit, List.filterMap_append, hbelow _ (Nat.le_refl _), List.nil_append]

end Sys2Proof.Machine
end

section
/-! The scan of the REPLACE slots, and the sweep of both planes (R135 to R137). -/

namespace Sys2Proof.Machine

/-! ### One slot against one plane (R136) -/

/-- The entry that a scan of a slot misses in a plane, by the slot's values: a REPLACE slot in effect on the plane's day, its target PENDING, the
window of its booked time closed. -/
def State.hitBy (s : State) (k : Nat) (p : Plane) : Option (Nat × TimetableEntry) :=
  match s.ttc.slot k with
  | some { target := i, action := .replace train point booked mask } =>
      (s.ttc.entries[i]?).bind fun base =>
        let e := { base with train := train, point := point, booked := booked, mask := mask }
        if p.statusOf i = .pending ∧ maskHas mask (weekdayOf p.day) = true ∧ s.windowEnd p.day e < s.ctMs then some (i, e) else none
  | _ => none

/-- A plane after a scan of a slot. -/
def State.scanned (s : State) (p : Plane) (k : Nat) : Plane :=
  match s.hitBy k p with
  | some (i, _) => p.setStatus i .missed
  | none => p

/-- The record of a scan of a slot, if it misses. -/
def State.scanRecord (s : State) (k : Nat) (p : Plane) : Option RecordBody :=
  (s.hitBy k p).map fun x => s.missedRecord p.day x.1 (some k) x.2

/-- What a scan that misses has found. -/
theorem State.hitBy_eq_some {s : State} {k i : Nat} {p : Plane} {e : TimetableEntry} (h : s.hitBy k p = some (i, e)) :
    ∃ x, s.ttc.slot k = some x ∧ x.target = i ∧ p.statusOf i = .pending := by
  unfold State.hitBy at h
  split at h
  next i' train point booked mask hslot =>
    obtain ⟨base, -, h⟩ := Option.bind_eq_some_iff.mp h
    dsimp only at h
    split at h
    next hcond =>
      cases h
      exact ⟨_, hslot, rfl, hcond.1⟩
    next => cases h
  next => cases h

theorem State.scanSlot_eq {s : State} {w : PlaneName} {p : Plane} (hp : s.ttc.plane w = some p) (k : Nat) :
    s.scanSlot k w = match s.hitBy k p with
      | some (i, e) => s.missEntry w p.day i (some k) e
      | none => s := by
  unfold State.scanSlot State.hitBy
  cases hslot : s.ttc.slot k with
  | none => rfl
  | some x =>
    obtain ⟨target, action⟩ := x
    cases action with
    | cancel => rfl
    | replace train point booked mask =>
      simp only [hp]
      cases s.ttc.entries[target]? with
      | none => rfl
      | some base =>
        simp only [Option.bind_some]
        split <;> rfl

section
variable {s : State} {w : PlaneName} {p : Plane} (hp : s.ttc.plane w = some p) (k : Nat)
include hp

theorem State.scanSlot_ttc : (s.scanSlot k w).ttc = s.ttc.onPlane w fun _ => s.scanned p k := by
  rw [State.scanSlot_eq hp, State.scanned]
  cases s.hitBy k p with
  | none => exact (Ttc.onPlane_self hp).symm
  | some x => exact Ttc.onPlane_congr (f := fun q => q.setStatus x.1 .missed) hp rfl

theorem State.scanSlot_misses : s.Misses (s.scanSlot k w) (s.scanRecord k p).toList := by
  rw [State.scanSlot_eq hp, State.scanRecord]
  cases s.hitBy k p with
  | none => exact .refl s
  | some x => exact s.missEntry_misses w p.day x.1 (some k) x.2

end

/-! ### Slots do not meet (R142) -/

theorem State.hitBy_congr {s t : State} {said : List RecordBody} (h : s.Misses t said) (k : Nat) (p : Plane) : t.hitBy k p = s.hitBy k p := by
  simp only [State.hitBy, h.slot, h.entries, h.windowEnd, h.ctMs]

theorem State.scanned_congr {s t : State} {said : List RecordBody} (h : s.Misses t said) : t.scanned = s.scanned := by
  funext p k
  simp only [State.scanned, State.hitBy_congr h]

theorem State.scanRecord_congr {s t : State} {said : List RecordBody} (h : s.Misses t said) : t.scanRecord = s.scanRecord := by
  funext k p
  simp only [State.scanRecord, State.hitBy_congr h, h.missedRecord]

theorem Plane.statusOf_setStatus_of_ne (p : Plane) {i j : Nat} (h : j ≠ i) (st : EntryStatus) : (p.setStatus i st).statusOf j = p.statusOf j := by
  simp only [Plane.statusOf, Plane.setStatus, List.getD_eq_getElem?_getD, List.getElem?_set_ne (Ne.symm h)]

/-- No two slots have one target (R142). -/
def Ttc.SlotsDistinct (t : Ttc) : Prop := ∀ j k x y, t.slot j = some x → t.slot k = some y → x.target = y.target → j = k

/-- A slot reads its own target's status alone. -/
theorem State.hitBy_setStatus (s : State) {k i : Nat} (h : ∀ x, s.ttc.slot k = some x → x.target ≠ i) (p : Plane) (st : EntryStatus) :
    s.hitBy k (p.setStatus i st) = s.hitBy k p := by
  unfold State.hitBy
  cases hslot : s.ttc.slot k with
  | none => rfl
  | some x =>
    have hstatus := Plane.statusOf_setStatus_of_ne p (h x hslot) st
    obtain ⟨j, action⟩ := x
    have hday : (p.setStatus i st).day = p.day := rfl
    cases action with
    | cancel => rfl
    | replace train point booked mask => simp only [hstatus, hday]

section
variable {s : State} (hdistinct : s.ttc.SlotsDistinct)
include hdistinct

theorem State.hitBy_scanned_of_ne {j k : Nat} (h : j ≠ k) (p : Plane) : s.hitBy j (s.scanned p k) = s.hitBy j p := by
  rw [State.scanned]
  cases hk : s.hitBy k p with
  | none => rfl
  | some x =>
    obtain ⟨y, hslot, htarget, -⟩ := State.hitBy_eq_some hk
    exact s.hitBy_setStatus (fun z hz hzi => h (hdistinct j k z y hz hslot (hzi.trans htarget.symm))) p .missed

omit hdistinct in
theorem State.scanned_frame (s : State) (p : Plane) (k : Nat) : (s.scanned p k).day = p.day ∧ (s.scanned p k).cursor = p.cursor := by
  rw [State.scanned]
  split <;> exact ⟨rfl, rfl⟩

omit hdistinct in
theorem State.statusOf_scanned_of_hit {k i : Nat} {p : Plane} {e : TimetableEntry} (h : s.hitBy k p = some (i, e)) :
    (s.scanned p k).statusOf i = .missed := by
  obtain ⟨-, -, -, hpending⟩ := State.hitBy_eq_some h
  rw [State.scanned, h]
  dsimp only
  rw [Plane.statusOf_set p (by rw [hpending]; decide), if_pos rfl]

omit hdistinct in
theorem State.statusOf_scanned_of_no_hit {k i : Nat} {p : Plane} (h : ∀ e, s.hitBy k p ≠ some (i, e)) :
    (s.scanned p k).statusOf i = p.statusOf i := by
  rw [State.scanned]
  cases hk : s.hitBy k p with
  | none => rfl
  | some x =>
    obtain ⟨j, e⟩ := x
    exact Plane.statusOf_setStatus_of_ne p (fun heq => h e (by rw [hk, heq])) .missed

/-- A plane after a scan of some slots: the day and the cursor stand, and the targets missed are MISSED (R136). -/
theorem State.foldl_scanned {slots : List Nat} (hnodup : slots.Nodup) (p : Plane) :
    (slots.foldl s.scanned p).day = p.day ∧ (slots.foldl s.scanned p).cursor = p.cursor ∧
      ∀ i, (∀ k ∈ slots, ∀ e, s.hitBy k p = some (i, e) → (slots.foldl s.scanned p).statusOf i = .missed) ∧
        ((∀ k ∈ slots, ∀ e, s.hitBy k p ≠ some (i, e)) → (slots.foldl s.scanned p).statusOf i = p.statusOf i) := by
  induction slots generalizing p with
  | nil => exact ⟨rfl, rfl, fun i => ⟨fun k hk => absurd hk List.not_mem_nil, fun _ => rfl⟩⟩
  | cons k slots ih =>
    obtain ⟨hnew, hnodup⟩ := List.nodup_cons.mp hnodup
    obtain ⟨hday, hcursor, hstatus⟩ := ih hnodup (s.scanned p k)
    obtain ⟨hday', hcursor'⟩ := s.scanned_frame p k
    have hrest : ∀ j ∈ slots, s.hitBy j (s.scanned p k) = s.hitBy j p := fun j hj =>
      State.hitBy_scanned_of_ne hdistinct (fun heq : j = k => hnew (heq ▸ hj)) p
    refine ⟨hday.trans hday', hcursor.trans hcursor', fun i => ?_⟩
    obtain ⟨hhit, hmiss⟩ := hstatus i
    refine ⟨fun j hj e he => ?_, fun hnone => ?_⟩
    · obtain rfl | hj := List.mem_cons.mp hj
      · by_cases hlater : ∃ j' ∈ slots, ∃ e', s.hitBy j' (s.scanned p j) = some (i, e')
        · obtain ⟨j', hj', e', he'⟩ := hlater
          exact hhit j' hj' e' he'
        · have hkept := hmiss fun j' hj' e' he' => hlater ⟨j', hj', e', he'⟩
          rw [List.foldl_cons, hkept, State.statusOf_scanned_of_hit he]
      · exact hhit j hj e ((hrest j hj).trans he)
    · obtain ⟨hk, hslots⟩ := List.forall_mem_cons.mp hnone
      rw [List.foldl_cons, hmiss fun j hj e => hrest j hj ▸ hslots j hj e, State.statusOf_scanned_of_no_hit hk]

theorem State.scanRecord_scanned_of_ne {j k : Nat} (h : j ≠ k) (p : Plane) : s.scanRecord j (s.scanned p k) = s.scanRecord j p := by
  rw [State.scanRecord, State.scanRecord, State.hitBy_scanned_of_ne hdistinct h, (s.scanned_frame p k).1]

omit hdistinct in
/-- A slot scanned against both planes (R136). -/
theorem State.scanSlot_both {p : Planes} (hp : s.ttc.planes = some p) (k : Nat) :
    ((s.scanSlot k .previous).scanSlot k .current).ttc.planes =
        some { previous := s.scanned p.previous k, current := s.scanned p.current k } ∧
      s.Misses ((s.scanSlot k .previous).scanSlot k .current) ([p.previous, p.current].filterMap (s.scanRecord k)) := by
  have hprevious : s.ttc.plane .previous = some p.previous := by rw [Ttc.plane, hp]; rfl
  have hfirst := State.scanSlot_misses hprevious k
  have httc := State.scanSlot_ttc hprevious k
  have hcurrent : (s.scanSlot k .previous).ttc.plane .current = some p.current := by
    rw [httc, Ttc.plane_onPlane_of_ne (by decide), Ttc.plane, hp]
    rfl
  have hsecond := State.scanSlot_misses hcurrent k
  have httc' := State.scanSlot_ttc hcurrent k
  rw [State.scanRecord_congr hfirst] at hsecond
  rw [State.scanned_congr hfirst, httc] at httc'
  refine ⟨?_, ?_⟩
  · rw [httc', Ttc.onPlane, Ttc.onPlane, hp]
    rfl
  · have hrecords : [p.previous, p.current].filterMap (s.scanRecord k) =
        (s.scanRecord k p.previous).toList ++ (s.scanRecord k p.current).toList := by
      simp only [List.filterMap_cons, List.filterMap_nil]
      cases s.scanRecord k p.previous <;> cases s.scanRecord k p.current <;> rfl
    rw [hrecords]
    exact hfirst.trans hsecond

/-- The scan of some slots, each against both planes (R136). -/
theorem State.scanSlots_both {slots : List Nat} (hnodup : slots.Nodup) {p : Planes} (hp : s.ttc.planes = some p) :
    (slots.foldl (fun s k => [PlaneName.previous, .current].foldl (fun s w => s.scanSlot k w) s) s).ttc.planes =
        some { previous := slots.foldl s.scanned p.previous, current := slots.foldl s.scanned p.current } ∧
      s.Misses (slots.foldl (fun s k => [PlaneName.previous, .current].foldl (fun s w => s.scanSlot k w) s) s)
        (slots.flatMap fun k => [p.previous, p.current].filterMap (s.scanRecord k)) := by
  induction slots generalizing s p with
  | nil => exact ⟨hp, .refl s⟩
  | cons k slots ih =>
    obtain ⟨hnew, hnodup⟩ := List.nodup_cons.mp hnodup
    obtain ⟨hplanes, hmisses⟩ := State.scanSlot_both hp k
    have hdistinct' : ((s.scanSlot k .previous).scanSlot k .current).ttc.SlotsDistinct := fun i j x y hi hj =>
      hdistinct i j x y (by rw [← hmisses.slot]; exact hi) (by rw [← hmisses.slot]; exact hj)
    obtain ⟨hrest, hmisses'⟩ := ih hdistinct' hnodup hplanes
    rw [State.scanned_congr hmisses] at hrest
    rw [State.scanRecord_congr hmisses] at hmisses'
    have hrecords : (slots.flatMap fun j => [s.scanned p.previous k, s.scanned p.current k].filterMap (s.scanRecord j)) =
        slots.flatMap fun j => [p.previous, p.current].filterMap (s.scanRecord j) := by
      refine List.flatMap_congr fun j hj => ?_
      have hne : j ≠ k := fun heq => hnew (heq ▸ hj)
      simp only [List.filterMap_cons, State.scanRecord_scanned_of_ne hdistinct hne]
    refine ⟨hrest, ?_⟩
    rw [List.flatMap_cons, ← hrecords]
    exact hmisses.trans hmisses'

omit hdistinct in
/-- A plane after a scan of all slots. -/
def State.scannedAll (s : State) (p : Plane) : Plane := (List.range 64).foldl s.scanned p

theorem State.scannedAll_spec (p : Plane) :
    (s.scannedAll p).day = p.day ∧ (s.scannedAll p).cursor = p.cursor ∧
      ∀ i, (∀ k < 64, ∀ e, s.hitBy k p = some (i, e) → (s.scannedAll p).statusOf i = .missed) ∧
        ((∀ k < 64, ∀ e, s.hitBy k p ≠ some (i, e)) → (s.scannedAll p).statusOf i = p.statusOf i) := by
  obtain ⟨hday, hcursor, hstatus⟩ := State.foldl_scanned hdistinct (List.nodup_range (n := 64)) p
  simp only [List.mem_range] at hstatus
  exact ⟨hday, hcursor, hstatus⟩

/-- The scan of all slots against both planes (R136). -/
theorem State.scanSlots_eq {p : Planes} (hp : s.ttc.planes = some p) :
    (s.scanSlots [.previous, .current]).ttc.planes = some { previous := s.scannedAll p.previous, current := s.scannedAll p.current } ∧
      s.Misses (s.scanSlots [.previous, .current]) ((List.range 64).flatMap fun k => [p.previous, p.current].filterMap (s.scanRecord k)) := by
  unfold State.scannedAll State.scanSlots
  exact State.scanSlots_both hdistinct List.nodup_range hp

end

end Sys2Proof.Machine
end

section
/-! A sweep event: both planes swept with no overlay slot ACTIVE, and the REPLACE slots scanned where no base cursor moves (R135 to R137). -/

namespace Sys2Proof.Machine

/-! ### With no slot ACTIVE -/

theorem Ttc.slot_of_replicate {t : Ttc} (h : t.overlay = List.replicate 64 none) (k : Nat) : t.slot k = none := by
  rw [Ttc.slot, h, List.getElem?_replicate]
  split <;> rfl

theorem Ttc.slotOf_of_free {t : Ttc} (h : ∀ k, t.slot k = none) (i : Nat) : t.slotOf i = none := by
  cases hslot : t.slotOf i with
  | none => rfl
  | some k =>
    obtain ⟨x, hx, -⟩ := Ttc.slotOf_eq_some hslot
    exact absurd ((h k).symm.trans hx) nofun

theorem State.scanSlots_of_free {s : State} (h : ∀ k, s.ttc.slot k = none) (planes : List PlaneName) : s.scanSlots planes = s := by
  have hslot : ∀ k w, s.scanSlot k w = s := by
    intro k w
    rw [State.scanSlot, h k]
  have hplanes : ∀ k, planes.foldl (fun s w => s.scanSlot k w) s = s := fun k => List.foldl_fixed' (hslot k) planes
  exact List.foldl_fixed' hplanes _

/-- Both planes swept, the previous one first, with no slot ACTIVE (R135, R137). -/
theorem State.sweepPlanes_of_free {s : State} {p : Planes} (hp : s.ttc.planes = some p) (hfree : ∀ k, s.ttc.slot k = none) :
    ∃ q, s.sweepPlanes.ttc.planes = some q ∧ s.Swept p.previous q.previous ∧ s.Swept p.current q.current ∧
      s.Misses s.sweepPlanes ((List.range s.ttc.entries.length).filterMap (s.missedAt p.previous q.previous) ++
        (List.range s.ttc.entries.length).filterMap (s.missedAt p.current q.current)) := by
  have hprevious : s.ttc.plane .previous = some p.previous := by rw [Ttc.plane, hp]; rfl
  obtain ⟨q₁, httc₁, hswept₁, hmisses₁⟩ := State.sweepBase_swept hprevious (Ttc.slotOf_of_free hfree) (Nat.le_add_left _ _)
  have hcurrent : (s.sweepBase .previous s.ttc.entries.length).ttc.plane .current = some p.current := by
    rw [httc₁, Ttc.plane_onPlane_of_ne (by decide), Ttc.plane, hp]
    rfl
  obtain ⟨q₂, httc₂, hswept₂, hmisses₂⟩ := State.sweepBase_swept hcurrent
    (fun i => (hmisses₁.slotOf i).trans (Ttc.slotOf_of_free hfree i)) (fuel := s.ttc.entries.length)
    (by rw [hmisses₁.entries]; exact Nat.le_add_left _ _)
  have hboth := hmisses₁.trans hmisses₂
  have hmissedAt : (s.sweepBase .previous s.ttc.entries.length).missedAt p.current q₂ = s.missedAt p.current q₂ :=
    funext fun i => State.missedAt_congr hmisses₁ _ _ i
  rw [hmissedAt, hmisses₁.entries, ← State.filterMap_missedAt_range, ← State.filterMap_missedAt_range] at hboth
  have hscan : s.sweepPlanes = (s.sweepBase .previous s.ttc.entries.length).sweepBase .current s.ttc.entries.length :=
    State.scanSlots_of_free (fun k => (hboth.slot k).trans (hfree k)) _
  refine ⟨{ previous := q₁, current := q₂ }, ?_, hswept₁, hswept₂.congr hmisses₁, hscan ▸ hboth⟩
  rw [hscan, httc₂, httc₁, Ttc.onPlane, Ttc.onPlane, hp]
  rfl

/-! ### With no base cursor to move -/

/-- Where no base cursor moves, a sweep is the scan of the slots (R136). -/
theorem State.sweepPlanes_of_open {s : State} {p : Planes} (hp : s.ttc.planes = some p)
    (hopen : ∀ plane, plane = p.current ∨ plane = p.previous → ∀ e, s.ttc.entries[plane.cursor]? = some e →
      (s.ctMs : Int) ≤ s.windowEnd plane.day e) :
    s.sweepPlanes = s.scanSlots [.previous, .current] := by
  have hprevious : s.ttc.plane .previous = some p.previous := by rw [Ttc.plane, hp]; rfl
  have hcurrent : s.ttc.plane .current = some p.current := by rw [Ttc.plane, hp]; rfl
  rw [State.sweepPlanes, State.sweepBase_of_open hprevious (hopen _ (.inr rfl)), State.sweepBase_of_open hcurrent (hopen _ (.inl rfl))]

/-! ### The sweep event -/

theorem State.rollOverIfDue_of_early {s : State} {q : Planes} (hq : s.ttc.planes = some q)
    (hearly : (s.ctMs : Int) < dayStart s.ttc.h0 (q.current.day + 1)) : s.rollOverIfDue = s := by
  simp only [State.rollOverIfDue, hq, if_neg (Int.not_le.mpr hearly)]

/-- The sweep of this second of ST taken (entry 25). -/
def State.sweepNoted (s : State) : State := s.onClk fun c => { c with sweepTaken := true }

theorem exec_sweep_of_due {s : State} (hdue : s.sweepDue = true) : exec .sweep s = .next s.sweepNoted.sweepEvent := by
  rw [exec_sweep, execSweep, if_pos hdue]
  rfl

theorem State.sweepNoted_misses (s : State) : s.Misses s.sweepNoted [] where
  tells := fun h => ⟨[], .refl h, rfl, .nil rfl⟩
  ttc := rfl
  tbu := rfl
  params := rfl

theorem State.sweepEvent_of_planes {s : State} {p : Planes} (hp : s.ttc.planes = some p) : s.sweepEvent = s.sweepPlanes.rollOverIfDue := by
  rw [State.sweepEvent, if_pos (Option.isSome_iff_exists.mpr ⟨p, hp⟩)]

/-- What a REPLACE slot misses of its target in a plane: it is PENDING, the slot is in effect on the plane's day, and the window of the slot's booked
time has closed (R136, R143). -/
abbrev State.closedBy (s : State) (p : Plane) (i booked mask : Nat) : Prop :=
  p.statusOf i = .pending ∧ mask.testBit ((p.day + 5) % 7).toNat = true ∧
    p.day * 86400000 + (s.ttc.h0 * 3600000 : Nat) + (booked * 30000 : Nat) + (s.orh.params.lateLimit * 60000 : Nat) < (s.ctMs : Int)

theorem State.hitBy_of_closed {s : State} {k i point booked mask : Nat} {train : TrainNumber} {p : Plane} {base : TimetableEntry}
    (hslot : s.ttc.slot k = some { target := i, action := .replace train point booked mask }) (hbase : s.ttc.entries[i]? = some base)
    (hclosed : s.closedBy p i booked mask) :
    s.hitBy k p = some (i, { base with train := train, point := point, booked := booked, mask := mask }) := by
  simp only [State.hitBy, hslot, hbase, Option.bind_some]
  exact if_pos hclosed

theorem State.hitBy_of_not_closed {s : State} {k i point booked mask : Nat} {train : TrainNumber} {p : Plane}
    (hslot : s.ttc.slot k = some { target := i, action := .replace train point booked mask }) (hopen : ¬ s.closedBy p i booked mask) :
    s.hitBy k p = none := by
  simp only [State.hitBy, hslot]
  cases s.ttc.entries[i]? with
  | none => rfl
  | some base => exact if_neg hopen

theorem State.hitBy_of_no_replace {s : State} {k : Nat}
    (h : ∀ i train point booked mask, s.ttc.slot k ≠ some { target := i, action := .replace train point booked mask }) (p : Plane) :
    s.hitBy k p = none := by
  unfold State.hitBy
  split
  next i train point booked mask hslot => exact absurd hslot (h i train point booked mask)
  next => rfl

/-- The record of a slot's scan: of a target closed by the slot's values (R136, R137). -/
theorem State.scanRecord_of_replace {s : State} {k i point booked mask : Nat} {train : TrainNumber}
    (hslot : s.ttc.slot k = some { target := i, action := .replace train point booked mask }) (p : Plane) :
    s.scanRecord k p = if s.closedBy p i booked mask then
      (s.ttc.entries[i]?).map fun base => .missed p.day i base.kind (some k) train point booked
        (p.day * 86400000 + (s.ttc.h0 * 3600000 : Nat) + (booked * 30000 : Nat) + (s.orh.params.lateLimit * 60000 : Nat)) s.ttc.generation
      else none := by
  split
  next hclosed =>
    cases hbase : s.ttc.entries[i]? with
    | none =>
      simp only [State.scanRecord, State.hitBy, hslot, hbase, Option.bind_none, Option.map_none]
    | some base =>
      rw [State.scanRecord, State.hitBy_of_closed hslot hbase hclosed]
      rfl
  next hopen => rw [State.scanRecord, State.hitBy_of_not_closed hslot hopen, Option.map_none]

/-- A plane after the scan of all slots, in the statement's words. -/
theorem State.scannedAll_closed {s : State} (h : s.PlanesSound) (p : Plane) (i : Nat) :
    ((∀ k train point booked mask, s.ttc.slot k = some { target := i, action := .replace train point booked mask } →
        ¬ s.closedBy p i booked mask) → (s.scannedAll p).statusOf i = p.statusOf i) ∧
      (∀ k train point booked mask, s.ttc.slot k = some { target := i, action := .replace train point booked mask } →
        s.closedBy p i booked mask → (s.scannedAll p).statusOf i = .missed) := by
  obtain ⟨-, -, hstatus⟩ := State.scannedAll_spec h.distinct p
  obtain ⟨hhit, hmiss⟩ := hstatus i
  refine ⟨fun hopen => hmiss fun k _ e he => ?_, fun k train point booked mask hslot hclosed => ?_⟩
  · obtain ⟨⟨target, action⟩, hslot, rfl, -⟩ := State.hitBy_eq_some he
    have hnone : s.hitBy k p = none := by
      cases action with
      | cancel => exact State.hitBy_of_no_replace (fun _ _ _ _ _ heq => by cases hslot.symm.trans heq) p
      | replace train point booked mask => exact State.hitBy_of_not_closed hslot (hopen k train point booked mask hslot)
    exact absurd (hnone.symm.trans he) nofun
  · have hlt : i < s.ttc.entries.length := h.targets k _ hslot
    exact hhit k (State.slot_lt h hslot) _ (State.hitBy_of_closed hslot (List.getElem?_eq_getElem hlt) hclosed)

/-- Settles O40: a sweep with no slot ACTIVE, and one that scans the slots. -/
theorem sweepMissesClosedEntries : Obligations.SweepMissesClosedEntries := by
  refine ⟨fun p s hdue hp hoverlay hearly => ?_, fun p s hsound hring hdue hp hearly hopen => ?_⟩
  · have hnoted := s.sweepNoted_misses
    obtain ⟨q, hq, hprevious, hcurrent, hmisses⟩ := State.sweepPlanes_of_free (s := s.sweepNoted) hp (Ttc.slot_of_replicate hoverlay)
    have hswept := hnoted.trans hmisses
    have hexec : exec .sweep s = .next s.sweepNoted.sweepPlanes := by
      rw [exec_sweep_of_due hdue, State.sweepEvent_of_planes (s := s.sweepNoted) hp]
      refine congrArg _ (State.rollOverIfDue_of_early hq ?_)
      rw [hswept.ctMs, hswept.ttc, hcurrent.1]
      exact hearly
    obtain ⟨-, hliu, -, -, hlys, -, hpsd, -⟩ := s.sweepNoted.sweepPlanes_frame
    refine ⟨_, q, hexec, hq, ?_, fun hstored => ?_, hswept.entries, by rw [hswept.ttc], hswept.tbu, hlys, hpsd, hliu⟩
    · rintro old new (⟨rfl, rfl⟩ | ⟨rfl, rfl⟩)
      · exact hcurrent.congr hnoted
      · exact hprevious.congr hnoted
    · obtain ⟨more, hgrown, hsaid, hreported⟩ := hswept.tells hstored
      exact ⟨more, hgrown, hsaid, hreported⟩
  · intro windowEnd closed missed
    have hnoted := s.sweepNoted_misses
    obtain ⟨hq, hmisses⟩ := State.scanSlots_eq (s := s.sweepNoted) hsound.distinct hp
    have hswept := hnoted.trans hmisses
    have hexec : exec .sweep s = .next (s.sweepNoted.scanSlots [.previous, .current]) := by
      rw [exec_sweep_of_due hdue, State.sweepEvent_of_planes (s := s.sweepNoted) hp, State.sweepPlanes_of_open (s := s.sweepNoted) hp hopen]
      refine congrArg _ (State.rollOverIfDue_of_early hq ?_)
      obtain ⟨hday, -⟩ := State.scannedAll_spec (s := s.sweepNoted) hsound.distinct p.current
      rw [hswept.ctMs, hswept.ttc, hday]
      refine lt_of_lt_of_eq hearly ?_
      rw [dayStart, Int.add_mul]
      rfl
    have hrecord : ∀ k, s.sweepNoted.scanRecord k = missed k := by
      intro k
      funext plane
      rw [State.scanRecord_congr hnoted]
      cases hslot : s.ttc.slot k with
      | none =>
        simp only [missed, hslot]
        rw [State.scanRecord, State.hitBy_of_no_replace fun _ _ _ _ _ heq => absurd (hslot.symm.trans heq) nofun]
        rfl
      | some x =>
        obtain ⟨i, action⟩ := x
        simp only [missed, hslot]
        cases action with
        | cancel =>
          rw [State.scanRecord, State.hitBy_of_no_replace fun _ _ _ _ _ heq => by cases hslot.symm.trans heq]
          rfl
        | replace train point booked mask => exact State.scanRecord_of_replace hslot plane
    obtain ⟨-, hliu, -, -, hlys, -, hpsd, -⟩ := s.sweepNoted.scanSlots_frame [.previous, .current]
    obtain ⟨more, hgrown, hsaid, hreported⟩ := hswept.tells hring.storedMax
    have hoverlay : (s.sweepNoted.scanSlots [.previous, .current]).ttc.overlay = s.ttc.overlay := by rw [hswept.ttc]
    refine ⟨_, _, more, hexec, hq, hgrown, ?_, hreported, ?_, hswept.entries, hoverlay, hswept.tbu, hlys, hpsd, hliu⟩
    · simp only [← hrecord]
      exact hsaid
    · have hplane : ∀ old : Plane, (s.sweepNoted.scannedAll old).day = old.day ∧ (s.sweepNoted.scannedAll old).cursor = old.cursor ∧
          (∀ i, (∀ k train point booked mask, s.ttc.slot k = some { target := i, action := .replace train point booked mask } →
            ¬ closed old i booked mask) → (s.sweepNoted.scannedAll old).statusOf i = old.statusOf i) ∧
          ∀ i k train point booked mask, s.ttc.slot k = some { target := i, action := .replace train point booked mask } →
            closed old i booked mask → (s.sweepNoted.scannedAll old).statusOf i = .missed := by
        intro old
        have hsound' : s.sweepNoted.PlanesSound := { hsound with }
        obtain ⟨hday, hcursor, -⟩ := State.scannedAll_spec hsound'.distinct old
        exact ⟨hday, hcursor, fun i => (State.scannedAll_closed hsound' old i).1, fun i => (State.scannedAll_closed hsound' old i).2⟩
      rintro old new (⟨rfl, rfl⟩ | ⟨rfl, rfl⟩)
      · exact hplane p.current
      · exact hplane p.previous

end Sys2Proof.Machine
end

section
/-! The planes made afresh, rolled over, and after a time change (R27, R139 to R141). -/

namespace Sys2Proof.Machine

/-! ### Planes made afresh (R141) -/

theorem State.statusOf_freshPlane {s : State} {i : Nat} {e : TimetableEntry} (he : s.ttc.entries[i]? = some e) (day : Int) :
    (s.freshPlane day).statusOf i =
      if e.mask.testBit ((day + 5) % 7).toNat = true ∧ (s.ctMs : Int) ≤ s.windowEnd day (e.effective (s.ttc.alteration i)) then .pending
      else .void := by
  simp only [Plane.statusOf, State.freshPlane, List.getD_eq_getElem?_getD, List.getElem?_mapIdx, he, Option.map_some, Option.getD_some]
  rfl

/-- The planes made afresh, as they stand (R141). -/
theorem State.remakePlanes_eq (s : State) (cause : ResetCause) :
    let day := timetableDay s.ttc.h0 s.ctMs
    s.remakePlanes cause = { s with
      ttc := { s.ttc with planes := some { current := s.freshPlane day, previous := s.freshPlane (day - 1) } }
      evj := s.evj.store (.timetableReset cause s.ttc.generation s.ttc.h0 day s.ttc.entries.length (s.freshPlane day).pendingCount
        (s.freshPlane (day - 1)).pendingCount s.ttc.pendingCount) s.now {} } := by
  intro day
  have hclass : (RecordBody.timetableReset cause s.ttc.generation s.ttc.h0 day s.ttc.entries.length (s.freshPlane day).pendingCount
    (s.freshPlane (day - 1)).pendingCount s.ttc.pendingCount).cls ≠ .minor := nofun
  exact State.write_of_not_minor hclass _ _ _

/-! ### A rollover (R139) -/

theorem State.rollOverIfDue_of_due {s : State} {q : Planes} (hq : s.ttc.planes = some q)
    (hdue : dayStart s.ttc.h0 (q.current.day + 1) ≤ (s.ctMs : Int)) : s.rollOverIfDue = s.rollOver q := by
  simp only [State.rollOverIfDue, hq, if_pos hdue]

/-- With no slot ACTIVE, a rollover makes the current plane the previous one, and makes and sweeps a current one of the next day. -/
theorem State.rollOver_of_free {s : State} (q : Planes) (hfree : ∀ k, s.ttc.slot k = none) :
    ∃ new said, (s.rollOver q).ttc.planes = some { previous := q.current, current := new } ∧
      s.Swept (s.ttc.newPlane (q.current.day + 1)) new ∧ s.Misses (s.rollOver q) said := by
  let rolled := s.onTtc fun t => { t with planes := some { previous := q.current, current := t.newPlane (q.current.day + 1) } }
  have hrolled : s.Misses rolled [] := ⟨fun h => ⟨[], .refl h, rfl, .nil rfl⟩, rfl, rfl, rfl⟩
  obtain ⟨new, httc, hswept, hmisses⟩ := State.sweepBase_swept (s := rolled) (w := .current)
    (p := s.ttc.newPlane (q.current.day + 1)) rfl (Ttc.slotOf_of_free hfree) (fuel := s.ttc.entries.length) (Nat.le_add_left _ _)
  have hboth := hrolled.trans hmisses
  have hscan : s.rollOver q = rolled.sweepBase .current s.ttc.entries.length :=
    State.scanSlots_of_free (fun k => (hboth.slot k).trans (hfree k)) [.current]
  refine ⟨new, _, ?_, hswept.congr hrolled, hscan ▸ hboth⟩
  rw [hscan, httc]
  rfl

/-! ### The planes at a time change (R27, R140) -/

section
variable {s : State} (a : Announcement)

/-- With both lines STOPPED, a time change is announced to the planes alone. -/
theorem State.announce_of_stopped (ha : s.cld.a.state = .stopped) (hb : s.cld.b.state = .stopped) : s.announce a = s.announceToTtc a := by
  have hcld : (s.announceToTtc a).cld = s.cld := by simp
  exact State.announceToLines_of_silent (State.silent_of_stopped (by rw [hcld]; exact ha) (by rw [hcld]; exact hb))

theorem State.announceToTtc_of_first (hplanes : s.ttc.planes = none) (hbefore : a.unsetBefore = true) (hset : s.tbu.timeState ≠ .unset)
    (hactive : s.ttc.active = true) : s.announceToTtc a = s.remakePlanes .firstTime := by
  simp only [State.announceToTtc, hplanes]
  exact if_pos ⟨hbefore, hset, hactive⟩

variable {a} (hplanes : s.ttc.planes ≠ none)
include hplanes

theorem State.announceToTtc_of_step (hcause : a.cause = .step) :
    s.announceToTtc a = if 21600000000 < a.ctChange.natAbs then s.remakePlanes .step else s.sweepEvent := by
  obtain ⟨p, hp⟩ := Option.ne_none_iff_exists'.mp hplanes
  simp only [State.announceToTtc, hp, hcause, Announcement.large, decide_eq_true_iff]

theorem State.announceToTtc_of_timeSet (hcause : a.cause = .timeSet) :
    s.announceToTtc a = if 21600000000 < a.ctChange.natAbs then s.remakePlanes .timeSet else s.sweepEvent := by
  obtain ⟨p, hp⟩ := Option.ne_none_iff_exists'.mp hplanes
  simp only [State.announceToTtc, hp, hcause, Announcement.large, decide_eq_true_iff]

theorem State.announceToTtc_of_season (hcause : a.cause = .season) : s.announceToTtc a = s.sweepEvent := by
  obtain ⟨p, hp⟩ := Option.ne_none_iff_exists'.mp hplanes
  simp only [State.announceToTtc, hp, hcause]

end

/-- A STEP moves CT by its phase error, the other way. -/
theorem Announcement.natAbs_ctChange_of_step {a : Announcement} {n : Nat} {e : Int} (hafter : a.stAfter = n * 1000000)
    (hseason : a.seasonAfter = a.seasonBefore) (he : e = (a.stBefore : Int) - (n * 1000000 : Nat)) : a.ctChange.natAbs = e.natAbs := by
  rw [Announcement.ctChange, hafter, hseason, he]
  push_cast
  omega

/-- A mark that steps, with both lines STOPPED and no seasonal change scheduled, is announced to the planes (R31, R27). -/
theorem exec_mark_of_step {s : State} {n : Nat} {labelled : Bool} (ha : s.cld.a.state = .stopped) (hb : s.cld.b.state = .stopped)
    (hagainst : s.MarkAgainst n labelled) (hscheduled : s.tbu.scheduled = none)
    (hstep : s.tbu.timeState = .unset ∨ s.tbu.timeState ≠ .locked ∧ s.orh.params.stepLimit < (s.phaseError n).natAbs) :
    exec .mark s = .next ((s.latchForMark.steppedTo n (s.phaseError n) labelled).announceToTtc
      { cause := .step, stBefore := s.tbu.st, stAfter := stepTo n, seasonBefore := s.tbu.season, seasonAfter := s.tbu.season
        unsetBefore := decide (s.tbu.timeState = .unset) }) := by
  have hclock : s.latchForMark.stepClock n (s.phaseError n) labelled = s.latchForMark.steppedTo n (s.phaseError n) labelled := by
    rw [State.stepClock_eq, State.applySeasonIfReached_of_not_reached]
    exact fun offset minute h => absurd (hscheduled.symm.trans h) nofun
  have haction := State.actOnMark_of_step (s := s.latchForMark) (n := n) labelled hstep
  rw [exec_mark, State.takeMark_of_markAgainst hagainst, haction]
  refine congrArg _ ((?_ : s.latchForMark.stepMark n (s.phaseError n) labelled = _).trans (State.announce_of_stopped _ ha hb))
  rw [State.stepMark, hclock]
  rfl

/-- Settles O41: the planes made afresh, rolled over, and after a time change. -/
theorem planesAreMadeAfresh : Obligations.PlanesAreMadeAfresh := by
  refine ⟨fun cause s => ?_, fun p s hdue hp hoverlay hlate => ?_, fun s ha hb => ⟨?_, ?_, ?_⟩⟩
  · intro day
    refine ⟨_, _, s.remakePlanes_eq cause, rfl, rfl, rfl, rfl, ?_, rfl⟩
    rintro plane (rfl | rfl) i e he
    · exact State.statusOf_freshPlane he _
    · exact State.statusOf_freshPlane he _
  · intro made
    have hnoted := s.sweepNoted_misses
    have hfree := Ttc.slot_of_replicate hoverlay
    obtain ⟨q, hq, -, hcurrent, hmisses⟩ := State.sweepPlanes_of_free (s := s.sweepNoted) hp hfree
    have hswept := hnoted.trans hmisses
    obtain ⟨new, said, hplanes, hnew, hrolled⟩ :=
      State.rollOver_of_free (s := s.sweepNoted.sweepPlanes) q fun k => (hswept.slot k).trans (hfree k)
    have hall := hswept.trans hrolled
    have hexec : exec .sweep s = .next (s.sweepNoted.sweepPlanes.rollOver q) := by
      rw [exec_sweep_of_due hdue, State.sweepEvent_of_planes (s := s.sweepNoted) hp]
      refine congrArg _ (State.rollOverIfDue_of_due hq ?_)
      rw [hswept.ctMs, hswept.ttc, hcurrent.1]
      refine le_of_eq_of_le ?_ hlate
      rw [dayStart, Int.add_mul]
      rfl
    have hmade : s.sweepNoted.sweepPlanes.ttc.newPlane (q.current.day + 1) = made := by
      rw [Ttc.newPlane, hswept.entries, hcurrent.1]
      rfl
    obtain ⟨-, hliu, -, -, hlys, -, hpsd, -⟩ := (s.sweepNoted.sweepPlanes.rollOver_frame q)
    obtain ⟨-, hliu', -, -, hlys', -, hpsd', -⟩ := s.sweepNoted.sweepPlanes_frame
    rw [hmade] at hnew
    exact ⟨_, _, hexec, hplanes, hcurrent.congr hnoted, hnew.congr hswept, hall.entries, by rw [hall.ttc], by rw [hall.ttc], by rw [hall.ttc],
      hall.tbu, hlys.trans hlys', hpsd.trans hpsd', hliu.trans hliu'⟩
  · intro m ms offset hms hoffset hscheduled body date set change
    have hset : (s.release .i).setClock ms offset = set := by
      rw [State.setClock_eq]
      simp only [State.release_i, Tbu.set, hscheduled]
      rfl
    have hexec : exec (.timeSet m ms offset) s = .next (set.announceToTtc
        { cause := .timeSet, stBefore := s.tbu.st, stAfter := ms * 1000, seasonBefore := s.tbu.season, seasonAfter := offset
          unsetBefore := decide (s.tbu.timeState = .unset) }) := by
      rw [exec_timeSet, State.orderTimeSet, if_pos ⟨hms, hoffset⟩, State.setTime_eq, hset]
      exact congrArg _ (State.announce_of_stopped _ ha hb)
    have hfree : set.tbu.timeState ≠ .unset := by simp [set]
    refine ⟨fun hplanes hactive hunset => ?_, fun hplanes hlarge => ?_, fun hplanes hsmall => ?_⟩
    · rw [hexec, State.announceToTtc_of_first (s := set) _ hplanes (decide_eq_true hunset) hfree hactive]
    · rw [hexec, State.announceToTtc_of_timeSet (s := set) hplanes rfl]
      exact congrArg _ (if_pos hlarge)
    · rw [hexec, State.announceToTtc_of_timeSet (s := set) hplanes rfl]
      exact congrArg _ (if_neg (Nat.not_lt.mpr hsmall))
  · intro n labelled hagainst hn hscheduled e hstep body date stepped
    have hstepTo : stepTo n = n * 1000000 := if_pos hn
    have hstepped : s.latchForMark.steppedTo n (s.phaseError n) labelled = stepped := by
      simp only [State.steppedTo, if_pos hn]
      rw [Tbu.stepped, hstepTo]
      rfl
    have hchange := Announcement.natAbs_ctChange_of_step (e := e)
      (a := { cause := .step, stBefore := s.tbu.st, stAfter := stepTo n, seasonBefore := s.tbu.season, seasonAfter := s.tbu.season
              unsetBefore := decide (s.tbu.timeState = .unset) }) hstepTo rfl rfl
    have hexec := exec_mark_of_step ha hb hagainst hscheduled hstep
    rw [hstepped] at hexec
    refine ⟨fun hplanes hactive hunset => ?_, fun hplanes hlarge => ?_, fun hplanes hsmall => ?_⟩
    · rw [hexec, State.announceToTtc_of_first (s := stepped) _ hplanes (decide_eq_true hunset) (by simp [stepped]) hactive]
    · rw [hexec, State.announceToTtc_of_step (s := stepped) hplanes rfl, hchange, if_pos hlarge]
    · rw [hexec, State.announceToTtc_of_step (s := stepped) hplanes rfl, hchange, if_neg (Nat.not_lt.mpr hsmall)]
  · intro offset minute hscheduled hreached hplanes date body
    rw [exec_season, State.takeSeason_of_reached hscheduled hreached, State.announce_of_stopped _ (by simpa using ha) (by simpa using hb),
      State.announceToTtc_of_season (by simpa using hplanes) rfl, State.applySeason_eq]
    rfl

end Sys2Proof.Machine
end

section
/-! A LAYOUT apply, piece by piece (R75 to R77, R100, R119): the elements and movements carried over, the points matched, and what it tells. -/

namespace Sys2Proof.Machine

/-! ### The elements and the movements carried (R76, R77, R100) -/

/-- A scope with LAYOUT passes only where the staging elements' addresses rise (R72). -/
theorem State.staged_rising {s : State} {scope : Scope} (hlayout : scope.hasLayout = true) (hvalid : s.validate scope = none) :
    (s.lys.stagingElements.values.map (·.address)).Pairwise (· < ·) := by
  have helements : checkElements 0 0 s.lys.stagingElements = none := by
    cases scope with
    | layout => exact (Option.or_eq_none_iff.mp hvalid).1
    | timetable => cases hlayout
    | both => exact (Option.or_eq_none_iff.mp hvalid).1
  exact (List.pairwise_cons.mp (checkElements_eq_none helements).2).2

section
variable {s : State} (hold : (s.lys.elements.map (·.entry.address)).Pairwise (· < ·))
  (hnew : (s.lys.stagingElements.values.map (·.address)).Pairwise (· < ·)) (ending : Instant)
include hold hnew

/-- An element of the bank after a LAYOUT apply, with its place among the staging entries. -/
theorem State.mem_applyLayout_elements {e : LiveElement} (he : e ∈ (s.applyLayout ending).lys.elements) :
    ∃ (i : Nat) (x : Element), s.lys.stagingElements.values[i]? = some x ∧ e = carriedElement s.lys.elements ending.rt x ∧ e.entry = x := by
  obtain ⟨i, hi⟩ := List.getElem?_of_mem he
  rw [State.applyLayout_elements hold hnew, Option.map_eq_some_iff] at hi
  obtain ⟨x, hx, rfl⟩ := hi
  refine ⟨i, x, hx, rfl, ?_⟩
  unfold carriedElement
  split <;> rfl

theorem State.applyLayout_kept {e o : LiveElement} (he : e ∈ (s.applyLayout ending).lys.elements) (ho : o ∈ s.lys.elements)
    (haddress : o.entry.address = e.entry.address) (hkind : o.entry.kind = e.entry.kind) : e.state = { o.state with seen := false } := by
  obtain ⟨i, x, hx, heq, hentry⟩ := State.mem_applyLayout_elements hold hnew ending he
  obtain ⟨j, hj⟩ := List.getElem?_of_mem ho
  rw [heq, carriedElement_of_matched (matched_iff hold hnew hj hx (hentry ▸ haddress.symm) (hentry ▸ hkind.symm)).2 hj]

theorem State.applyLayout_fresh {e : LiveElement} (he : e ∈ (s.applyLayout ending).lys.elements)
    (hnone : ∀ o ∈ s.lys.elements, o.entry.address ≠ e.entry.address ∨ o.entry.kind ≠ e.entry.kind) :
    e.state = { sectionSince := ending.rt } := by
  obtain ⟨i, x, hx, heq, hentry⟩ := State.mem_applyLayout_elements hold hnew ending he
  cases hm : matchElement s.lys.elements x with
  | none => rw [heq, carriedElement_of_new hm]; rfl
  | some j =>
    obtain ⟨o, ho, haddress, hkind⟩ := matchElement_spec hm
    rcases hnone o (List.mem_of_getElem? ho) with hne | hne
    · exact absurd (haddress.trans (congrArg Element.address hentry.symm)) hne
    · exact absurd (hkind.trans (congrArg Element.kind hentry.symm)) hne

variable (h : s.MovementsSound)
include h

/-- Where the new bank has the element of an open movement, the movement is re-linked. -/
theorem State.applyLayout_moved {k i : Nat} {r : Movement} {e : LiveElement} (hr : s.mvs.at? k = some r)
    (he : (s.applyLayout ending).lys.elements[i]? = some e) (haddress : e.entry.address = r.address) (hkind : e.entry.kind = r.kind) :
    (s.applyLayout ending).mvs.at? k = some { r with element := i } := by
  obtain ⟨x, hx, hxaddress, hxkind, -, -⟩ := h.records k r hr
  have hi : s.lys.stagingElements.values[i]? = some e.entry := by
    rw [← (s.applyLayout_entries ending).1, List.getElem?_map, he]
    rfl
  have hindex := (matched_iff hold hnew hx hi (haddress.trans hxaddress.symm) (hkind.trans hxkind.symm)).1
  rw [State.applyLayout_mvs, State.carryMovements_at? h.positions, hr, Option.bind_some, Movement.carried, hindex]
  rfl

end

section
variable {s : State} (h : s.MovementsSound)
include h

/-- An open movement keeps its element in a new bank just where the bank has an entry of its address and kind. -/
theorem State.MovementsSound.newIndexOf_eq_none {k : Nat} {r : Movement} (hr : s.mvs.at? k = some r) (new : List Element) :
    newIndexOf s.lys.elements new r.element = none ↔ (new.any fun e => e.address == r.address && e.kind == r.kind) = false := by
  obtain ⟨x, hx, haddress, hkind, -, -⟩ := h.records k r hr
  simp only [newIndexOf, hx, haddress, hkind, List.findIdx?_eq_none_iff, List.any_eq_false, Bool.not_eq_true]

theorem State.applyLayout_ended (ending : Instant) {k : Nat} {r : Movement} (hr : s.mvs.at? k = some r)
    (hnone : ∀ e ∈ (s.applyLayout ending).lys.elements, e.entry.address ≠ r.address ∨ e.entry.kind ≠ r.kind) :
    (s.applyLayout ending).mvs.at? k = none := by
  have hindex : newIndexOf s.lys.elements s.lys.stagingElements.values r.element = none := by
    rw [h.newIndexOf_eq_none hr, List.any_eq_false, ← (s.applyLayout_entries ending).1]
    intro x hx
    obtain ⟨e, he, rfl⟩ := List.mem_map.mp hx
    rcases hnone e he with hne | hne <;> simp [hne]
  rw [State.applyLayout_mvs, State.carryMovements_at? h.positions, hr, Option.bind_some, Movement.carried, hindex]
  rfl

theorem State.applyLayout_free (ending : Instant) {k : Nat} (hk : s.mvs.at? k = none) : (s.applyLayout ending).mvs.at? k = none := by
  rw [State.applyLayout_mvs, State.carryMovements_at? h.positions, hk]
  rfl

end

/-! ### What the carrying of the movements tells (R100) -/

/-- What the carrying of a position's movement tells. -/
def State.carryAt (s : State) (new : List Element) (ending : Instant) (k : Nat) : List (RecordBody × Date) :=
  match s.mvs.at? k with
  | some r => if (newIndexOf s.lys.elements new r.element).isSome then [] else
      [(r.endRecord k .abandoned (some .apply) ending.rt, ending.date)]
  | none => []

theorem State.carryMovements_logged (s : State) (new : List Element) (ending : Instant) :
    s.Logged (s.carryMovements new ending) ((List.range 64).flatMap (s.carryAt new ending)) := by
  refine foldl_logged (said := fun s => s.carryAt new ending) (fun s k => ?_) (fun s k k' hk => ?_) List.nodup_range s
  · unfold State.carryAt State.carryMovement
    have hreason : AbandonReason.apply ≠ .noEnd := nofun
    cases hr : s.mvs.at? k with
    | none => exact .refl s
    | some r =>
      cases hi : newIndexOf s.lys.elements new r.element with
      | none => simpa [hi] using s.closeMovement_logged k r hreason ending
      | some i => simpa [hi] using State.Logged.of_eq (s := s) (t := s.onMvs fun v => v.put k (some { r with element := i })) rfl rfl
  · unfold State.carryAt
    rw [State.carryMovement_at?, if_neg hk]
    simp only [newIndexOf_congr (s.carryMovement_restated new ending k).entries]

/-! ### What the dropping of the queues tells (R119) -/

theorem State.dropQueue_logged (s : State) (oldElements : List Element) (point : Nat) (p : LivePoint) (date : Date) :
    s.Logged (s.dropQueue oldElements point p date) (p.record.queue.map fun train =>
      (.expectationDropped point ((sectionAddressIn oldElements p.entry).getD 0) p.entry.edge train true, date)) := by
  unfold State.dropQueue
  generalize p.record.queue = queue
  induction queue generalizing s with
  | nil => exact .refl s
  | cons train queue ih =>
    have hone := s.dropExpectation_logged point ((sectionAddressIn oldElements p.entry).getD 0) p.entry.edge train true date
    exact hone.trans (ih _)

/-- What the dropping of the queues tells at an old point. -/
def droppedAt (oldElements : List Element) (old : List LivePoint) (taken : List (Option Nat)) (date : Date) (j : Nat) :
    List (RecordBody × Date) :=
  match old[j]? with
  | some p => if taken.contains (some j) then [] else p.record.queue.map fun train =>
      (.expectationDropped j ((sectionAddressIn oldElements p.entry).getD 0) p.entry.edge train true, date)
  | none => []

theorem State.dropQueues_logged (s : State) (oldElements : List Element) (old : List LivePoint) (taken : List (Option Nat)) (date : Date) :
    s.Logged (s.dropQueues oldElements old taken date)
      ((List.range old.length).flatMap (droppedAt oldElements old taken date)) := by
  refine foldl_logged (said := fun _ => droppedAt oldElements old taken date) (fun s j => ?_) (fun _ _ _ _ => rfl) List.nodup_range s
  unfold droppedAt
  cases old[j]? with
  | none => exact .refl s
  | some p =>
    dsimp only
    split
    · exact .refl s
    · exact s.dropQueue_logged ..

theorem State.applyLayout_logged (s : State) (ending : Instant) :
    s.Logged (s.applyLayout ending)
      ((List.range 64).flatMap (s.carryAt s.lys.stagingElements.values ending) ++
        (List.range s.psd.points.length).flatMap
          (droppedAt (s.lys.elements.map (·.entry)) s.psd.points s.matchedPoints ending.date)) := by
  rw [State.applyLayout_eq]
  refine (s.carryMovements_logged _ ending).trans ?_
  generalize s.carryMovements s.lys.stagingElements.values ending = carried
  exact (State.dropQueues_logged ((carried.onLys _).onPsd _) ..).congr ⟨rfl, rfl⟩ ⟨rfl, rfl⟩

end Sys2Proof.Machine
end

section
/-! A LAYOUT apply: the old timing points that the new ones are matched with, and the records they keep (R77, R105). -/

namespace Sys2Proof.Machine

/-- An old point, none of those taken, that a new point may be matched with: its edge, and its section's address (R77). -/
def mayMatch (oldElements newElements : List Element) (old : List LivePoint) (taken : List Nat) (p : TimingPoint) (j : Nat) : Prop :=
  j ∉ taken ∧ ∃ q, old[j]? = some q ∧ q.entry.edge = p.edge ∧ sectionAddressIn oldElements q.entry = sectionAddressIn newElements p

section
variable {oldElements newElements : List Element} {old : List LivePoint} {taken : List Nat} {p : TimingPoint} {j : Nat}

/-- The search of `matchPoint`, by a test of whether an old point may be matched. -/
theorem matchPoint_eq_find (oldElements newElements : List Element) (old : List LivePoint) (taken : List Nat) (p : TimingPoint) :
    ∃ test : Nat → Bool, (∀ j, test j = true ↔ mayMatch oldElements newElements old taken p j) ∧
      matchPoint oldElements newElements old taken p = (List.range old.length).find? test := by
  refine ⟨_, fun j => ?_, rfl⟩
  unfold mayMatch
  cases old[j]? <;> simp

theorem mayMatch.lt (h : mayMatch oldElements newElements old taken p j) : j < old.length := by
  obtain ⟨-, q, hq, -⟩ := h
  exact (List.getElem?_eq_some_iff.mp hq).1

theorem matchPoint_eq_some : matchPoint oldElements newElements old taken p = some j ↔
    mayMatch oldElements newElements old taken p j ∧ ∀ lower < j, ¬ mayMatch oldElements newElements old taken p lower := by
  obtain ⟨test, htest, hfind⟩ := matchPoint_eq_find oldElements newElements old taken p
  simp only [hfind, List.find?_range_eq_some, List.mem_range, Bool.not_eq_true', ← Bool.not_eq_true, htest]
  exact ⟨fun ⟨hj, _, hlower⟩ => ⟨hj, hlower⟩, fun ⟨hj, hlower⟩ => ⟨hj, hj.lt, hlower⟩⟩

theorem matchPoint_eq_none : matchPoint oldElements newElements old taken p = none ↔
    ∀ j, ¬ mayMatch oldElements newElements old taken p j := by
  obtain ⟨test, htest, hfind⟩ := matchPoint_eq_find oldElements newElements old taken p
  simp only [hfind, List.find?_range_eq_none, Bool.not_eq_true', ← Bool.not_eq_true, htest]
  exact ⟨fun h j hj => h j hj.lt hj, fun h j _ => h j⟩

end

/-- Each new point is matched with the lowest old one that it may be, those of the points before it taken (R77). -/
theorem matchPoints_getElem? (oldElements newElements : List Element) (old : List LivePoint) (taken : List Nat) (new : List TimingPoint)
    {i : Nat} {p : TimingPoint} (hp : new[i]? = some p) :
    ∃ taken', (matchPoints oldElements newElements old taken new)[i]? = some (matchPoint oldElements newElements old taken' p) ∧
      ∀ j, j ∈ taken' ↔ j ∈ taken ∨ some j ∈ (matchPoints oldElements newElements old taken new).take i := by
  induction new generalizing taken i with
  | nil => cases hp
  | cons first rest ih =>
    cases i with
    | zero =>
      obtain rfl : first = p := by simpa using hp
      refine ⟨taken, ?_, by simp⟩
      cases hm : matchPoint oldElements newElements old taken first <;> simp [matchPoints, hm]
    | succ i =>
      have hrest : rest[i]? = some p := by simpa using hp
      cases hm : matchPoint oldElements newElements old taken first with
      | none =>
        obtain ⟨taken', hat, hmem⟩ := ih taken hrest
        exact ⟨taken', by simpa [matchPoints, hm] using hat, by simpa [matchPoints, hm] using hmem⟩
      | some k =>
        obtain ⟨taken', hat, hmem⟩ := ih (k :: taken) hrest
        refine ⟨taken', by simpa [matchPoints, hm] using hat, fun j => ?_⟩
        simp [matchPoints, hm, hmem, or_assoc, or_left_comm]

/-- The record that a new point has after a LAYOUT apply (R105). -/
theorem carryPoints_getElem? {old : List LivePoint} {new : List TimingPoint} {matched : List (Option Nat)} {i : Nat} {p : LivePoint}
    {m : Option Nat} (hp : (carryPoints old new matched)[i]? = some p) (hm : matched[i]? = some m) :
    p.record = ((m.bind fun j => old[j]?).map (·.record)).getD {} := by
  simp only [carryPoints, List.getElem?_map, Option.map_eq_some_iff, List.getElem?_zip_eq_some] at hp
  obtain ⟨⟨q, m'⟩, ⟨-, hm'⟩, rfl⟩ := hp
  obtain rfl : m = m' := by simpa [hm] using hm'
  rfl

/-- The address of the section that a point's link names, which is there. -/
theorem State.sectionAddress_of_linksIn {s : State} {p : TimingPoint} (h : linksIn s.lys.elements p) :
    sectionAddressIn (s.lys.elements.map (·.entry)) p = some (s.sectionAddress p) := by
  obtain ⟨⟨e, he, -⟩, -⟩ := h
  simp [sectionAddressIn, State.sectionAddress, he]

section
variable {s t : State} {ending : Instant} (h : s.LayoutSound) (ht : t.LayoutSound)
  (hentries : t.lys.elements.map (·.entry) = s.lys.stagingElements.values) (hpoints : t.psd.points = (s.applyLayout ending).psd.points)

/-- An old point that the new point at an index may be matched with, where both banks' links stand (R77). -/
def State.mayCarry (s t : State) (i : Nat) (p : LivePoint) (j : Nat) : Prop :=
  some j ∉ s.matchedPoints.take i ∧ ∃ q, s.psd.points[j]? = some q ∧ q.entry.edge = p.entry.edge ∧
    s.sectionAddress q.entry = t.sectionAddress p.entry

include h ht hentries in
theorem State.mayMatch_iff_mayCarry {i : Nat} {p : LivePoint} (hp : t.psd.points[i]? = some p) {taken : List Nat}
    (htaken : ∀ j, j ∈ taken ↔ some j ∈ s.matchedPoints.take i) (j : Nat) :
    mayMatch (s.lys.elements.map (·.entry)) s.lys.stagingElements.values s.psd.points taken p.entry j ↔ s.mayCarry t i p j := by
  have hnew := State.sectionAddress_of_linksIn (ht.links p (List.mem_of_getElem? hp))
  rw [hentries] at hnew
  unfold mayMatch State.mayCarry
  rw [htaken, hnew]
  refine and_congr_right fun _ => exists_congr fun q => and_congr_right fun hq => and_congr_right fun _ => ?_
  rw [State.sectionAddress_of_linksIn (h.links q (List.mem_of_getElem? hq)), Option.some_inj]

include h ht hentries hpoints

/-- Each point after a LAYOUT apply is matched with the lowest old one that it may be and keeps its record, or with none and is fresh (R77, R105). -/
theorem State.applyLayout_point {i : Nat} {p : LivePoint} (hp : t.psd.points[i]? = some p) :
    (∀ j, s.matchedPoints[i]? = some (some j) →
      s.mayCarry t i p j ∧ (∀ lower, lower < j → ¬ s.mayCarry t i p lower) ∧ ∀ q, s.psd.points[j]? = some q → p.record = q.record) ∧
    (s.matchedPoints[i]? = some none → (∀ j, ¬ s.mayCarry t i p j) ∧ p.record = {}) := by
  have hat : s.lys.stagingPoints.values[i]? = some p.entry := by
    rw [← (s.applyLayout_entries ending).2, ← hpoints, List.getElem?_map, hp]
    rfl
  obtain ⟨taken, hmatched, htaken⟩ :=
    matchPoints_getElem? (s.lys.elements.map (·.entry)) s.lys.stagingElements.values s.psd.points [] _ hat
  have hmay := State.mayMatch_iff_mayCarry h ht hentries hp fun j => (htaken j).trans (by simp [State.matchedPoints])
  have hcarried : (carryPoints s.psd.points s.lys.stagingPoints.values s.matchedPoints)[i]? = some p := by
    rw [← hp, hpoints, State.applyLayout_psd]
    rfl
  refine ⟨fun j hj => ?_, fun hnone => ?_⟩
  · obtain ⟨hcan, hlower⟩ := matchPoint_eq_some.mp (Option.some_inj.mp (hmatched.symm.trans hj))
    refine ⟨(hmay j).mp hcan, fun lower hlt hmayLower => hlower lower hlt ((hmay lower).mpr hmayLower), fun q hq => ?_⟩
    simpa [hq] using carryPoints_getElem? hcarried hj
  · have hcannot := matchPoint_eq_none.mp (Option.some_inj.mp (hmatched.symm.trans hnone))
    exact ⟨fun j hj => hcannot j ((hmay j).mpr hj), by simpa using carryPoints_getElem? hcarried hnone⟩

end

end Sys2Proof.Machine
end

section
/-! An APPLY with LAYOUT taken (R75 to R77, R100, R119, R146): its blocks, its records and its reports, in the order told. -/

namespace Sys2Proof.Machine

/-! ### The planes made afresh, read from outside (R141) -/

/-- The record of the planes made afresh, as the newest of the ring. -/
def State.remadeSaid (s : State) (cause : ResetCause) : List (RecordBody × Date) :=
  (s.remakePlanes cause).evj.ring.head?.toList.map fun x => (x.body, x.date)

theorem State.remakePlanes_logged (s : State) (cause : ResetCause) : s.Logged (s.remakePlanes cause) (s.remadeSaid cause) := by
  let body : RecordBody := .timetableReset cause s.ttc.generation s.ttc.h0 (timetableDay s.ttc.h0 s.ctMs) s.ttc.entries.length
    (s.freshPlane (timetableDay s.ttc.h0 s.ctMs)).pendingCount (s.freshPlane (timetableDay s.ttc.h0 s.ctMs - 1)).pendingCount
    s.ttc.pendingCount
  have hclass : body.cls ≠ .minor := nofun
  have hsaid : s.remadeSaid cause = [(body, s.now)] := by
    rw [State.remadeSaid, State.remakePlanes_eq]
    rfl
  rw [hsaid]
  refine (State.Logged.write s hclass (fun _ _ _ _ _ => nofun) s.now {}).congr ⟨rfl, rfl⟩ ?_
  rw [State.remakePlanes_eq, State.write_of_not_minor hclass]
  exact ⟨rfl, rfl⟩

/-- What the planes made afresh come from: the timetable check, the time base and the configuration. -/
theorem State.remakePlanes_congr {s t : State} (httc : t.ttc = s.ttc) (htbu : t.tbu = s.tbu) (hparams : t.orh.params = s.orh.params)
    (cause : ResetCause) : (t.remakePlanes cause).ttc = (s.remakePlanes cause).ttc ∧ t.remadeSaid cause = s.remadeSaid cause := by
  have hct : t.ctMs = s.ctMs := by rw [State.ctMs, State.ctMs, htbu]
  have hnow : t.now = s.now := by rw [State.now, State.now, State.quality, State.quality, htbu]
  have hfresh : ∀ day, t.freshPlane day = s.freshPlane day := fun day => by
    simp only [State.freshPlane, State.windowEnd, hct, httc, hparams]
    rfl
  constructor
  · rw [State.remakePlanes_eq, State.remakePlanes_eq]
    simp only [hct, hfresh, httc]
  · rw [State.remadeSaid, State.remadeSaid, State.remakePlanes_eq, State.remakePlanes_eq]
    simp only [hct, hfresh, httc, hnow]
    rfl

theorem State.applyTimetable_of_unset {s : State} (h : s.tbu.timeState = .unset) : s.applyTimetable = { s with ttc := s.renewedTtc } :=
  if_pos h

theorem State.applyTimetable_of_set {s : State} (h : s.tbu.timeState ≠ .unset) :
    s.applyTimetable = State.remakePlanes { s with ttc := s.renewedTtc } .apply := if_neg h

/-! ### The APPLY record first (R75) -/

/-- The state once the APPLY record is stored and its report raised. -/
def State.applyRecorded (s : State) (scope : Scope) (trigger : ApplyTrigger) (date : Date) : State :=
  { s with
    evj := s.evj.store (s.applyRecord scope trigger) date {}
    orh := s.orh.raise
      { kind := .applyDone, priority := 3, seq := s.evj.next, date := date, flags := {}
        summary := .ofRecord (s.applyRecord scope trigger) } }

theorem State.takeApply_eq (s : State) (scope : Scope) (trigger : ApplyTrigger) (ending : Instant) :
    s.takeApply scope trigger ending =
      ((if scope.hasTimetable then
          (if scope.hasLayout then (s.applyRecorded scope trigger ending.date).applyLayout ending
            else s.applyRecorded scope trigger ending.date).applyTimetable
        else if scope.hasLayout then (s.applyRecorded scope trigger ending.date).applyLayout ending
          else s.applyRecorded scope trigger ending.date).onLys fun l => { l with armed := none }) := by
  have hclass : (s.applyRecord scope trigger).cls ≠ .minor := nofun
  rw [State.takeApply, State.writeReport_of_not_minor hclass]
  rfl

end Sys2Proof.Machine
end

section
/-! What an APPLY with LAYOUT does, block by block (R75 to R77, R100, R119, R146). -/

namespace Sys2Proof.Machine

/-! ### Its movements closed and its queues dropped, as records (R100, R119) -/

/-- The movement ended at a position by a LAYOUT apply, where the new bank has not its element (R100). -/
theorem State.MovementsSound.carryAt_eq {s : State} (h : s.MovementsSound) {elements : List LiveElement} (ending : Instant) (k : Nat) :
    s.carryAt (elements.map (·.entry)) ending k =
      ((s.mvs.at? k).bind fun r =>
        if elements.any fun e => e.entry.address == r.address && e.entry.kind == r.kind then none
        else some (r.endRecord k .abandoned (some .apply) ending.rt, ending.date)).toList := by
  unfold State.carryAt
  cases hr : s.mvs.at? k with
  | none => rfl
  | some r =>
    have hnone := h.newIndexOf_eq_none hr (elements.map (·.entry))
    rw [List.any_map] at hnone
    cases hindex : newIndexOf s.lys.elements (elements.map (·.entry)) r.element with
    | none =>
      have hany := hnone.mp hindex
      simp only [Function.comp_def] at hany
      simp only [hindex, hany, Option.bind_some, Option.isSome_none, Option.toList_some, Bool.false_eq_true, if_false]
    | some i =>
      have hany := mt hnone.mpr (by rw [hindex]; nofun)
      simp only [Function.comp_def, Bool.not_eq_false] at hany
      simp only [hindex, hany, Option.bind_some, Option.isSome_some, Option.toList_none, if_true]

/-- The numbers dropped at an old point by a LAYOUT apply, where the point is left unmatched (R119). -/
theorem State.LayoutSound.droppedAt_eq {s : State} (h : s.LayoutSound) (matched : List (Option Nat)) (date : Date) (j : Nat) :
    droppedAt (s.lys.elements.map (·.entry)) s.psd.points matched date j =
      (s.psd.points[j]?).toList.flatMap fun q =>
        if some j ∈ matched then []
        else q.record.queue.map fun train => (.expectationDropped j (s.sectionAddress q.entry) q.entry.edge train true, date) := by
  unfold droppedAt
  cases hq : s.psd.points[j]? with
  | none => rfl
  | some q =>
    have haddress := State.sectionAddress_of_linksIn (h.links q (List.mem_of_getElem? hq))
    simp [haddress]

/-! ### Its blocks -/

section
variable {s : State} {scope : Scope} (hscope : scope ≠ .timetable) (trigger : ApplyTrigger) (ending : Instant)
include hscope

theorem Scope.hasLayout_of_ne : scope.hasLayout = true := by
  cases scope with
  | layout => rfl
  | timetable => exact absurd rfl hscope
  | both => rfl

/-- The layout, the movements and the timing points are those of the layout's own taking. -/
theorem State.takeApply_blocks :
    let u := (s.applyRecorded scope trigger ending.date).applyLayout ending
    (s.takeApply scope trigger ending).lys = { u.lys with armed := none } ∧ (s.takeApply scope trigger ending).mvs = u.mvs ∧
      (s.takeApply scope trigger ending).psd = u.psd := by
  intro u
  rw [State.takeApply_eq, Scope.hasLayout_of_ne hscope]
  cases scope.hasTimetable <;> simp [u]

/-- The timetable check stands, or is renewed and its planes made afresh, their record the last. -/
theorem State.takeApply_timetable :
    let u := (s.applyRecorded scope trigger ending.date).applyLayout ending
    let renewed : State := { s with ttc := s.renewedTtc }
    let t := s.takeApply scope trigger ending
    (scope = .layout → t.ttc = s.ttc) ∧
    (scope = .both → s.tbu.timeState = .unset → t.ttc = s.renewedTtc) ∧
    (scope = .both → s.tbu.timeState ≠ .unset → t.ttc = (renewed.remakePlanes .apply).ttc) ∧
    u.Logged t (if scope = .both ∧ s.tbu.timeState ≠ .unset then renewed.remadeSaid .apply else []) := by
  intro u renewed t
  have hparams : u.orh.params = s.orh.params := (State.applyLayout_told _ ending).params.trans (Orh.raise_params _ _)
  have httc : u.ttc = s.ttc := by simp [u, State.applyRecorded]
  have htbu : u.tbu = s.tbu := by simp [u, State.applyRecorded]
  have hrenewed : u.renewedTtc = s.renewedTtc := by rw [State.renewedTtc, State.renewedTtc, httc, hparams]
  have ht : t = ((if scope.hasTimetable then u.applyTimetable else u).onLys fun l => { l with armed := none }) := by
    simp only [t, State.takeApply_eq, Scope.hasLayout_of_ne hscope, if_true]
    rfl
  rw [ht]
  cases scope with
  | layout => exact ⟨fun _ => httc, nofun, nofun, .of_eq rfl rfl⟩
  | timetable => exact absurd rfl hscope
  | both =>
    by_cases hunset : s.tbu.timeState = .unset
    · have hu : u.applyTimetable = { u with ttc := s.renewedTtc } := hrenewed ▸ State.applyTimetable_of_unset (htbu ▸ hunset)
      simp only [Scope.hasTimetable, if_true, hu, hunset]
      exact ⟨nofun, fun _ _ => rfl, fun _ hset => absurd rfl hset, .of_eq rfl rfl⟩
    · have hu : u.applyTimetable = State.remakePlanes { u with ttc := s.renewedTtc } .apply :=
        hrenewed ▸ State.applyTimetable_of_set (htbu ▸ hunset)
      obtain ⟨hplanes, hsaid⟩ :=
        State.remakePlanes_congr (s := renewed) (t := { u with ttc := s.renewedTtc }) rfl htbu hparams .apply
      simp only [Scope.hasTimetable, if_true, hu, hunset, ne_eq, not_false_eq_true, and_self, ← hsaid]
      exact ⟨nofun, fun _ h => h.elim, fun _ _ => hplanes, (State.remakePlanes_logged _ .apply).congr ⟨rfl, rfl⟩ ⟨rfl, rfl⟩⟩

/-- What an APPLY with LAYOUT tells after its own record: the movements ended, the numbers dropped, and the planes made afresh. -/
theorem State.takeApply_logged (h : s.LayoutSound) (hm : s.MovementsSound) {t : State} (ht : t = s.takeApply scope trigger ending) :
    (s.applyRecorded scope trigger ending.date).Logged t
      (((List.range 64).filterMap fun k => (s.mvs.at? k).bind fun r =>
          if t.lys.elements.any fun e => e.entry.address == r.address && e.entry.kind == r.kind then none
          else some (r.endRecord k .abandoned (some .apply) ending.rt, ending.date)) ++
        ((List.range s.psd.points.length).flatMap fun j => (s.psd.points[j]?).toList.flatMap fun q =>
          if some j ∈ s.matchedPoints then []
          else q.record.queue.map fun train =>
            (.expectationDropped j (s.sectionAddress q.entry) q.entry.edge train true, ending.date)) ++
        (if scope = .both ∧ s.tbu.timeState ≠ .unset then State.remadeSaid { s with ttc := s.renewedTtc } .apply else [])) := by
  obtain ⟨hlys, -, -⟩ := State.takeApply_blocks (s := s) hscope trigger ending
  obtain ⟨-, -, -, htimetable⟩ := State.takeApply_timetable (s := s) hscope trigger ending
  have hentries : t.lys.elements.map (·.entry) = s.lys.stagingElements.values := by
    rw [ht, hlys]
    exact (State.applyLayout_entries _ ending).1
  have hlayout := (s.applyRecorded scope trigger ending.date).applyLayout_logged ending
  have hmoved : ∀ k, s.carryAt s.lys.stagingElements.values ending k = _ := fun k => hentries ▸ hm.carryAt_eq (elements := t.lys.elements) ending k
  have hdropped := funext fun j => h.droppedAt_eq s.matchedPoints ending.date j
  rw [List.filterMap_eq_flatMap_toList, ← funext hmoved, ← hdropped, ht]
  exact hlayout.trans htimetable

end

end Sys2Proof.Machine
end

section
/-! An APPLY with LAYOUT leaves what R75 to R77, R100, R119 and R146 say, from any sound state where its validation has passed. -/

namespace Sys2Proof.Machine

section
variable {s : State} {scope : Scope}

theorem State.applyRecord_of_layout (hscope : scope ≠ .timetable) (trigger : ApplyTrigger) :
    s.applyRecord scope trigger = .apply scope trigger ((s.lys.generation + 1) % 65536)
      (if scope = .both then (s.ttc.generation + 1) % 65536 else s.ttc.generation) s.lys.stagingElements.length
      s.lys.stagingPoints.length s.elementsCarried s.pointsCarried := by
  cases scope with
  | layout => rfl
  | timetable => exact absurd rfl hscope
  | both => rfl

/-- The layout store after a LAYOUT apply, but for its elements (R75). -/
theorem State.applyLayout_store (s : State) (ending : Instant) :
    (s.applyLayout ending).lys.generation = (s.lys.generation + 1) % 65536 ∧ (s.applyLayout ending).lys.unknown = [] := by
  rw [State.applyLayout_lys, (s.carryMovements_restated s.lys.stagingElements.values ending).frame]
  exact ⟨rfl, rfl⟩

/-- Where its validation has passed, an APPLY with LAYOUT leaves what R75 to R77, R100, R119 and R146 say. -/
theorem State.takeApply_layoutTaken (hscope : scope ≠ .timetable) (h : s.LayoutSound) (hm : s.MovementsSound)
    (hvalid : s.validate scope = none) (trigger : ApplyTrigger) (ending : Instant) :
    s.LayoutTaken (s.takeApply scope trigger ending) scope trigger ending := by
  have hlayout : (s.takeApply scope trigger ending).LayoutSound := State.takeApply_layoutSound h hvalid trigger ending
  obtain ⟨hlys, hmvs, hpsd⟩ := State.takeApply_blocks (s := s) hscope trigger ending
  obtain ⟨hstands, hunset, hset, -⟩ := State.takeApply_timetable (s := s) hscope trigger ending
  have hlogged := State.takeApply_logged hscope trigger ending h hm rfl
  generalize ht : s.takeApply scope trigger ending = t at *
  let r := s.applyRecorded scope trigger ending.date
  have hnew : (r.lys.stagingElements.values.map (·.address)).Pairwise (· < ·) := State.staged_rising (Scope.hasLayout_of_ne hscope) hvalid
  have hold : (r.lys.elements.map (·.entry.address)).Pairwise (· < ·) := h.rising
  have hrm : r.MovementsSound := hm.of_eq rfl rfl
  have helements : t.lys.elements = (r.applyLayout ending).lys.elements := by rw [hlys]
  obtain ⟨hbank, hpoints⟩ := r.applyLayout_entries ending
  have hcarried : t.psd.points = (s.applyLayout ending).psd.points := by
    rw [hpsd, State.applyLayout_psd, State.applyLayout_psd]
    rfl
  have hframe := s.takeApply_frame scope trigger ending
  rw [ht] at hframe
  exact {
    banks := by
      obtain ⟨hgeneration, hunknown⟩ := r.applyLayout_store ending
      obtain ⟨hstaged, hstagedPoints⟩ := r.applyLayout_banks ending
      rw [hpsd, hlys]
      exact ⟨rfl, hgeneration, hunknown, hstaged, hstagedPoints, hbank, hpoints⟩
    kept := fun e he o ho => State.applyLayout_kept hold hnew ending (helements ▸ he) ho
    fresh := fun e he => State.applyLayout_fresh hold hnew ending (helements ▸ he)
    moved := fun k m i e hk he => hmvs ▸ State.applyLayout_moved hold hnew ending hrm hk (helements ▸ he)
    ended := fun k m hk hnone => hmvs ▸ State.applyLayout_ended hrm ending hk (helements ▸ hnone)
    free := fun k hk => hmvs ▸ State.applyLayout_free hrm ending hk
    carried := by
      have hfirst : s.evj.Grown r.evj _ := .store ..
      obtain ⟨more, hgrown, horh, hsaid⟩ := hlogged.logged hfirst.stored_le
      have hbody := State.applyRecord_of_layout (s := s) hscope trigger
      refine ⟨s.matchedPoints, more, s.applyRecord scope trigger, ?_, fun i p hp => ?_, hfirst.trans hgrown, hbody, horh, hsaid⟩
      · rw [s.matchedPoints_length, ← List.length_map (f := fun x : LivePoint => x.entry), hpsd, hpoints]
        rfl
      · exact State.applyLayout_point h hlayout (helements ▸ hbank) hcarried hp
    timetable := ⟨hstands, hunset, hset⟩
    others := hframe }

end

end Sys2Proof.Machine
end

section
/-! An APPLY in effect at a ROUND OPEN, at the loss of the line and in LOST (R74): it neither reads nor touches the line unit, the captures or what is
armed. -/

namespace Sys2Proof.Machine

/-! ### The line unit, the captures and what is armed, worked on apart -/

/-- The state with its line unit, its captures and what is armed worked on. -/
def State.relined (s : State) (f : Liu → Liu) (g : Dtu → Dtu) (a : Option Scope → Option Scope) : State :=
  { s with liu := f s.liu, dtu := g s.dtu, lys := { s.lys with armed := a s.lys.armed } }

section
variable (s : State) (f : Liu → Liu) (g : Dtu → Dtu) (a : Option Scope → Option Scope)

theorem foldl_relined {β : Type} {step step' : State → β → State}
    (h : ∀ s b, step' (s.relined f g a) b = (step s b).relined f g a) (l : List β) :
    l.foldl step' (s.relined f g a) = (l.foldl step s).relined f g a :=
  List.foldl_hom (fun s : State => s.relined f g a) h

theorem State.closeMovement_relined (position : Nat) (r : Movement) (outcome : MovementOutcome) (reason : Option AbandonReason)
    (ending : Instant) (flags : Flags) :
    (s.relined f g a).closeMovement position r outcome reason ending flags =
      (s.closeMovement position r outcome reason ending flags).relined f g a := by
  unfold State.closeMovement
  cases outcomeReport outcome reason <;> rfl

theorem State.closeAll_relined (reason : AbandonReason) (ending : Instant) :
    (s.relined f g a).closeAll reason ending = (s.closeAll reason ending).relined f g a :=
  foldl_relined s f g a (fun s k => by
    have hmvs : (s.relined f g a).mvs = s.mvs := rfl
    rw [hmvs]
    cases s.mvs.at? k with
    | none => rfl
    | some r => exact s.closeMovement_relined ..) _

theorem State.lineKnowledgeLost_relined (ending : Instant) :
    (s.relined f g a).lineKnowledgeLost ending = (s.lineKnowledgeLost ending).relined f g a := by
  have hreset : (s.relined f g a).onElements (fun x => x.lineReset ending.rt) =
      (s.onElements fun x => x.lineReset ending.rt).relined f g a := rfl
  rw [State.lineKnowledgeLost, State.lineKnowledgeLost, hreset, State.closeAll_relined]

theorem State.carryMovement_relined (new : List Element) (ending : Instant) (k : Nat) :
    (s.relined f g a).carryMovement new ending k = (s.carryMovement new ending k).relined f g a := by
  have hmvs : (s.relined f g a).mvs = s.mvs := rfl
  have helements : (s.relined f g a).lys.elements = s.lys.elements := rfl
  unfold State.carryMovement
  rw [hmvs, helements]
  cases s.mvs.at? k with
  | none => rfl
  | some r =>
    dsimp only
    cases newIndexOf s.lys.elements new r.element with
    | none => exact s.closeMovement_relined ..
    | some i => rfl

theorem State.carryMovements_relined (new : List Element) (ending : Instant) :
    (s.relined f g a).carryMovements new ending = (s.carryMovements new ending).relined f g a :=
  foldl_relined s f g a (fun s k => s.carryMovement_relined f g a new ending k) _

theorem State.dropQueues_relined (oldElements : List Element) (old : List LivePoint) (taken : List (Option Nat)) (date : Date) :
    (s.relined f g a).dropQueues oldElements old taken date = (s.dropQueues oldElements old taken date).relined f g a :=
  foldl_relined s f g a (fun s j => by
    cases old[j]? with
    | none => rfl
    | some p =>
      dsimp only
      split
      · rfl
      · exact foldl_relined s f g a (fun _ _ => rfl) p.record.queue) _

theorem State.applyLayout_relined (ending : Instant) :
    (s.relined f g a).applyLayout ending = (s.applyLayout ending).relined f g a := by
  have hlys : (s.relined f g a).lys = { s.lys with armed := a s.lys.armed } := rfl
  have hpsd : (s.relined f g a).psd = s.psd := rfl
  have hmatched : (s.relined f g a).matchedPoints = s.matchedPoints := rfl
  rw [State.applyLayout_eq, State.applyLayout_eq, ← State.dropQueues_relined, hlys, hpsd, hmatched, State.carryMovements_relined]
  generalize s.carryMovements s.lys.stagingElements.values ending = carried
  exact congrArg (State.dropQueues · _ _ _ _) rfl

theorem State.applyTimetable_relined : (s.relined f g a).applyTimetable = s.applyTimetable.relined f g a := by
  by_cases hunset : s.tbu.timeState = .unset
  · rw [State.applyTimetable_of_unset hunset, State.applyTimetable_of_unset (s := s.relined f g a) hunset]
    rfl
  · rw [State.applyTimetable_of_set hunset, State.applyTimetable_of_set (s := s.relined f g a) hunset]
    rfl

/-- An APPLY taking effect neither reads nor touches the line unit, the captures or what is armed, and leaves nothing armed. -/
theorem State.takeApply_relined (scope : Scope) (trigger : ApplyTrigger) (ending : Instant) :
    (s.relined f g a).takeApply scope trigger ending = (s.takeApply scope trigger ending).relined f g id := by
  have hrecorded : (s.relined f g a).applyRecorded scope trigger ending.date =
      (s.applyRecorded scope trigger ending.date).relined f g a := rfl
  rw [State.takeApply_eq, State.takeApply_eq, hrecorded]
  cases scope.hasTimetable <;> cases scope.hasLayout <;>
    simp only [if_true, if_false, Bool.false_eq_true, State.applyLayout_relined, State.applyTimetable_relined] <;> rfl

end

end Sys2Proof.Machine
end

section
/-! Where an APPLY takes effect (R74): at a ROUND OPEN, at the loss of the line once the field is forgotten, and in LOST at once. -/

namespace Sys2Proof.Machine

theorem State.takeArmed_of_some {s : State} {scope : Scope} (h : s.lys.armed = some scope) (trigger : ApplyTrigger) (ending : Instant) :
    s.takeArmed trigger ending = s.takeApply scope trigger ending := by
  simp only [State.takeArmed, h]

theorem State.takeApply_armed (s : State) (scope : Scope) (trigger : ApplyTrigger) (ending : Instant) :
    (s.takeApply scope trigger ending).lys.armed = none := by
  rw [State.takeApply_eq]
  rfl

theorem State.takeApply_captureAt (s : State) (scope : Scope) (trigger : ApplyTrigger) (ending : Instant) :
    (s.takeApply scope trigger ending).captureAt .i = s.captureAt .i := by
  obtain ⟨-, -, hdtu, htbu, -⟩ := s.takeApply_frame scope trigger ending
  simp only [State.captureAt, State.capture, State.captureNow, State.quality, hdtu, htbu]

/-- An armed APPLY at a ROUND OPEN: the rest of the row is the row with the APPLY taken before it and nothing armed. -/
theorem exec_roundOpen_armed {s : State} {scope : Scope} (h : s.lys.armed = some scope) (number : Nat) :
    exec (.roundOpen number) s = exec (.roundOpen number) (s.takeApply scope .roundOpen (s.captureAt .i).instant) := by
  let opened : Liu → Liu := fun l => { l with rxI := {} }.openRound (s.captureAt .i).rt s.orh.params.lossTimeout
  let released : Dtu → Dtu := fun d => { d with capI := none }
  let applied := s.takeApply scope .roundOpen (s.captureAt .i).instant
  have hparams : applied.orh.params = s.orh.params := (s.takeApply_told scope .roundOpen (s.captureAt .i).instant).params
  have hcapture : applied.captureAt .i = s.captureAt .i := State.takeApply_captureAt ..
  have harmed : (s.relined opened released id).takeArmed .roundOpen (s.captureAt .i).instant = applied.relined opened released id := by
    rw [State.takeArmed_of_some (s := s.relined opened released id) h]
    exact s.takeApply_relined opened released id ..
  have hnone : (applied.relined opened released id).takeArmed .roundOpen (s.captureAt .i).instant = applied.relined opened released id :=
    State.takeArmed_of_none (s := applied.relined opened released id) (s.takeApply_armed ..) ..
  have hs : (s.release .i).onLiu (fun l => l.openRound (s.captureAt .i).rt (s.release .i).orh.params.lossTimeout) =
      s.relined opened released id := rfl
  have happlied : (applied.release .i).onLiu (fun l => l.openRound (s.captureAt .i).rt (applied.release .i).orh.params.lossTimeout) =
      applied.relined opened released id := by
    have hreleased : (applied.release .i).orh.params = s.orh.params := hparams
    rw [hreleased]
    rfl
  show exec (.roundOpen number) s = exec (.roundOpen number) applied
  rw [exec_roundOpen, exec_roundOpen, hcapture, State.takeRoundOpen, State.takeRoundOpen, hs, happlied, harmed, hnone]

/-- The state with nothing armed. -/
def State.disarmed (s : State) : State := s.relined id id fun _ => none

theorem State.LayoutSound.disarmed {s : State} (h : s.LayoutSound) : s.disarmed.LayoutSound := { h with armed := nofun }

theorem State.takeApply_disarmed (s : State) (scope : Scope) (trigger : ApplyTrigger) (ending : Instant) :
    s.disarmed.takeApply scope trigger ending = s.takeApply scope trigger ending :=
  s.takeApply_relined id id (fun _ => none) scope trigger ending

/-- The loss of the line as it is recorded and reported, before the field is forgotten (R13). -/
def State.lossWritten (s : State) : State :=
  ((s.onLiu fun l => l.lose s.tbu.rt).endTurn).writeReport (.lineLost s.liu.round s.orh.params.lossTimeout) s.now .lineLost

theorem State.takeLoss_of_due {s : State} (h : s.lossDue = true) :
    s.takeLoss = (s.lossWritten.lineKnowledgeLost s.nowInstant).takeArmed .lineLost s.nowInstant := by
  rw [State.takeLoss, if_pos h]
  rfl

/-- An armed APPLY at the loss of the line: taken once the field is forgotten, as with nothing armed. -/
theorem exec_lossExpiry_armed {s : State} {scope : Scope} (h : s.lys.armed = some scope) (hdue : s.lossDue = true) :
    ∃ lost, exec .lossExpiry { s with lys := { s.lys with armed := none } } = .next lost ∧
      exec .lossExpiry s = .next (lost.takeApply scope .lineLost s.nowInstant) ∧
      (s.LayoutSound → lost.LayoutSound ∧ lost.validate scope = none) ∧ (s.MovementsSound → lost.MovementsSound) := by
  have hrestated : s.lys.Restated (s.lossWritten.lineKnowledgeLost s.nowInstant).lys := s.lossWritten.lineKnowledgeLost_restated _
  have hsound : s.LayoutSound → (s.lossWritten.lineKnowledgeLost s.nowInstant).LayoutSound := fun hlayout =>
    hlayout.worked hrestated (.of_eq (by simp [State.lossWritten])) (.of_eq (by simp [State.lossWritten]))
  have hmovements : s.MovementsSound → (s.lossWritten.lineKnowledgeLost s.nowInstant).MovementsSound := fun hm =>
    State.lineKnowledgeLost_movementsSound (s := s.lossWritten) (hm.of_eq rfl rfl) s.nowInstant
  have hunarmed : s.disarmed.takeLoss = (s.lossWritten.lineKnowledgeLost s.nowInstant).disarmed.takeArmed .lineLost s.nowInstant := by
    rw [State.disarmed, State.disarmed, ← State.lineKnowledgeLost_relined]
    exact State.takeLoss_of_due (s := s.disarmed) hdue
  have htaken := State.takeLoss_of_due hdue
  generalize s.lossWritten.lineKnowledgeLost s.nowInstant = forgotten at *
  have harmed : forgotten.lys.armed = some scope := by
    rw [hrestated.frame]
    exact h
  refine ⟨forgotten.disarmed, ?_, ?_, fun hl => ⟨(hsound hl).disarmed, (hsound hl).armed scope harmed⟩, fun hm => (hmovements hm).of_eq rfl rfl⟩
  · rw [State.takeArmed_of_none (s := forgotten.disarmed) rfl] at hunarmed
    exact congrArg Host.Outcome.next hunarmed
  · rw [exec_lossExpiry, htaken, State.takeArmed_of_some harmed, State.takeApply_disarmed]

/-- An APPLY taken in LOST that passes, in effect at once. -/
theorem exec_apply_in_lost {s : State} {code : Nat} {scope : Scope} (hcode : scopeOf code = some scope) (harmed : s.lys.armed = none)
    (hline : s.liu.lineState = .lost) (hvalid : s.validate scope = none) (m : Manner) :
    exec (.apply m code) s = .next ((s.release .i).takeApply scope .orderInLost (s.captureAt .i).instant) := by
  have harmed' : (s.release .i).lys.armed = none := harmed
  have hline' : (s.release .i).liu.lineState = .lost := hline
  have hvalid' : (s.release .i).validate scope = none := hvalid
  rw [exec_apply, State.orderApply, hcode]
  simp only [harmed', mergeScope, hvalid', if_pos hline']

/-- An APPLY of scope TIMETABLE (R75, R146). -/
theorem State.takeApply_timetableTaken (s : State) (trigger : ApplyTrigger) (ending : Instant) :
    s.takeApply .timetable trigger ending = s.timetableTaken trigger ending.date := by
  have hrenewed : (s.applyRecorded .timetable trigger ending.date).renewedTtc = s.renewedTtc := by
    simp only [State.renewedTtc, State.applyRecorded, Orh.raise_params]
  rw [State.takeApply_eq]
  simp only [Scope.hasTimetable, Scope.hasLayout, if_true, Bool.false_eq_true, if_false]
  by_cases hunset : s.tbu.timeState = .unset
  · rw [State.timetableTaken, if_pos hunset, State.applyTimetable_of_unset (s := s.applyRecorded .timetable trigger ending.date) hunset, hrenewed]
    rfl
  · rw [State.timetableTaken, if_neg hunset, State.applyTimetable_of_set (s := s.applyRecorded .timetable trigger ending.date) hunset, hrenewed,
      State.remakePlanes_eq, State.remakePlanes_eq]
    rfl

end Sys2Proof.Machine
end

section
/-! The settling of O28: an APPLY of each scope takes effect (R74 to R77, R100, R119, R146). -/

namespace Sys2Proof.Machine

theorem State.release_i_movementsSound {s : State} (h : s.MovementsSound) : (s.release .i).MovementsSound := h.of_eq rfl rfl

theorem State.release_i_layoutSound {s : State} (h : s.LayoutSound) : (s.release .i).LayoutSound := h.of_eq rfl rfl rfl

/-- Settles O28: each place where an APPLY is taken runs `takeApply`, which leaves what the scope says. -/
theorem applyTakesEffect : Obligations.ApplyTakesEffect := by
  refine ⟨fun scope s hscope hlayout hmovements => ⟨fun harmed => ⟨fun number => ?_, fun hdue => ?_⟩, fun m code harmed hline hcode hvalid => ?_⟩,
    fun s => ⟨fun harmed => ⟨fun number => ?_, fun hdue => ?_⟩, fun m harmed hline hvalid => ?_⟩, fun m s harmed hline hunset hvalid => ?_⟩
  · exact ⟨_, State.takeApply_layoutTaken hscope hlayout hmovements (hlayout.armed scope harmed) .roundOpen _,
      exec_roundOpen_armed harmed number⟩
  · obtain ⟨lost, hlost, htaken, hsound, hm⟩ := exec_lossExpiry_armed harmed hdue
    obtain ⟨hsound, hvalid⟩ := hsound hlayout
    exact ⟨lost, _, hlost, htaken, State.takeApply_layoutTaken hscope hsound (hm hmovements) hvalid .lineLost _⟩
  · exact ⟨_, exec_apply_in_lost hcode harmed hline hvalid m,
      State.takeApply_layoutTaken hscope (State.release_i_layoutSound hlayout) (State.release_i_movementsSound hmovements) hvalid .orderInLost _⟩
  · rw [exec_roundOpen_armed harmed number, State.takeApply_timetableTaken]
    rfl
  · obtain ⟨lost, hlost, htaken, -, -⟩ := exec_lossExpiry_armed harmed hdue
    exact ⟨lost, hlost, htaken.trans (congrArg _ (lost.takeApply_timetableTaken ..))⟩
  · rw [exec_apply_in_lost (code := 2) rfl harmed hline hvalid m, State.takeApply_timetableTaken]
    rfl
  · intro date body
    have hlys : ({ s.lys with armed := none } : Lys) = s.lys := by rw [← harmed]
    have hreleased : ({ (s.release .i).lys with armed := none } : Lys) = (s.release .i).lys := hlys
    rw [exec_apply_in_lost (code := 2) rfl harmed hline hvalid m, State.takeApply_timetableTaken,
      State.timetableTaken, if_pos (show (s.release .i).tbu.timeState = .unset from hunset), hreleased]
    rfl

end Sys2Proof.Machine
end
